-- ==== Sys2Proof/Word.lean ====
section
/-! DEFINITION. The word types of the DS30: a byte of the line, the tag, the card link and the local port,
and the local millisecond counter's word. -/

namespace Sys2Proof

/-- One byte of a frame, a tag section, a card record or a local port record (R190). -/
abbrev Byte := BitVec 8

/-- An instant on the local millisecond counter, which wraps at 2^32 (R37). -/
abbrev Ms := BitVec 32

end Sys2Proof
end

