-- ==== Sys2Proof/Syntax.lean ====
section
/-! DEFINITION. The commands of the block: one constructor of `Instr` for each row of spec/opcode_table.json,
with what the outside supplies at that step as its operands (the table gives the rows no bits and no fields). -/

namespace Sys2Proof

/-- The role selected by the ROLE strap (R179, Table 11-1). -/
inductive Role where
  | post | terminal | van | monitor
  deriving DecidableEq, Repr

/-- The strap pins as sampled at the release of full reset (R179, Table 11-1). -/
structure Straps where
  role : Role
  /-- The NUMBER strap, 0..31. -/
  number : BitVec 5
  /-- The RATE strap: high is 250,000 bit/s, low 62,500 bit/s. -/
  rateHigh : Bool
  deriving DecidableEq, Repr

/-- One character received from the Dock Line, at the end of its stop bit (R1, R2). -/
structure LineChar where
  data : Byte
  /-- The mark bit, 1 on the first character of a frame. -/
  mark : Bool
  /-- The stop bit was recessive; a dominant stop bit is a framing error. -/
  stopGood : Bool
  deriving DecidableEq, Repr

/-- One character decoded from the card link, at the end of its stop bit (R88). -/
structure CardChar where
  data : Byte
  parity : Bool
  /-- The stop bit was at the idle level of the link. -/
  stopIdle : Bool
  deriving DecidableEq, Repr

/-- The six capture sources of Table 3-2. -/
inductive CaptureSource where
  | boltClosed | boltOpen | mouthIn | mouthOut | button | card
  deriving DecidableEq, Repr

/-- The holders of a pending conversion that can lapse (R47). -/
inductive PendingHolder where
  | slot (source : CaptureSource)
  | dockingCapture
  | dockedSince
  deriving DecidableEq, Repr

/-- The two settlement slots (R130). -/
inductive SlotName where
  | a | b
  deriving DecidableEq, Repr

/-- The commands: one constructor per row of spec/opcode_table.json, in the table's order. -/
inductive Instr where
  /-- FULL_RESET: the straps and the raw sensor levels sampled at the release of reset (R72, R179). -/
  | fullReset (straps : Straps) (boltReadsOpen beamABroken beamBBroken : Bool)
  | quiet
  | accessWaitExpiry
  /-- ECHO_CHECK_FAIL: `bit` bits of the frame were driven and read back equal before the one that differed. -/
  | echoCheckFail (bit : Nat)
  | sentIntact
  /-- FRAME_RECEIVED: the second check character of the frame in progress. -/
  | frameReceived (c : LineChar)
  /-- FRAME_ABANDONED: the character that abandons the frame in progress. -/
  | frameAbandoned (c : LineChar)
  | receiveGapExpiry
  | stuckLine
  | lineClear
  | deadlineExpiry
  | beaconTimerExpiry
  | silenceTimerExpiry (station : BitVec 5)
  | duplicateHoldExpiry
  | stalenessExpiry
  | carry
  | pendingLapse (holder : PendingHolder)
  | captureSlotLapse (source : CaptureSource)
  | openEdge
  | closedEdge
  | pullInEnd
  | openCheckExpiry
  | takeWindowExpiry
  | closeCheckExpiry
  | pushAsideLimitExpiry
  /-- BEAM_EDGE: the two filtered beam levels after the change; `true` is broken. -/
  | beamEdge (aBroken bBroken : Bool)
  | buttonPress
  | buttonRelease
  | burstEndExpiry
  | flashPhaseExpiry
  | refusalDisplayEnd
  | crewAcknowledgementEnd
  | periodicTimerExpiry
  | ch0Request
  | converterWakeEnd
  /-- BURST_COMPLETE: the 10-bit codes at the four inputs; only the burst's channels are read. -/
  | burstComplete (code0 code1 code2 code3 : BitVec 10)
  | holdPhaseEnd
  | noTag
  /-- SECTION_READ_COMPLETE: the bytes the tag returned for the section, its check last. -/
  | sectionReadComplete (bytes : List Byte)
  | sectionWriteComplete
  | cardCharacter (c : CardChar)
  | recordGap
  | lookupTimerExpiry
  | claimAgeExpiry
  | claimWindowExpiry
  | settleTimerExpiry
  | gatheringExpiry (slot : SlotName)
  | ratingComplete (slot : SlotName)
  | stlRetryExpiry (slot : SlotName)
  | stlAbandon (slot : SlotName)
  | reportingWindowExpiry
  | windowExpiry
  | offerRetryExpiry
  /-- STATUS and the ten request rows after it: the body of a well-formed record of that kind. -/
  | status (body : List Byte)
  | peerRead (body : List Byte)
  | stationSet (body : List Byte)
  | timeSet (body : List Byte)
  | timTimerExpiry
  | tariffLoad (body : List Byte)
  | tariffCommit (body : List Byte)
  | trfCycleExpiry
  | memberPush (body : List Byte)
  | faultClear (body : List Byte)
  | vanOpen (body : List Byte)
  | vanClose (body : List Byte)
  | eventRead (body : List Byte)
  /-- UNKNOWN_REQUEST: every byte of the request transaction, the kind first. -/
  | unknownRequest (bytes : List Byte)
  /-- READ_TRANSACTION: how many bytes the host clocks out after the read code. -/
  | readTransaction (count : Nat)
  | startBit
  | lineCharacter (c : LineChar)
  | tagAnswer
  deriving DecidableEq, Repr

end Sys2Proof
end

