-- ==== Sys2Proof/Decode.lean ====
section
/-! DEFINITION. The decoder asked of a block: the command a word spells by the bits spec/opcode_table.json gives.
The table gives no row any bits (its rows are events and requests, not words), so no word spells a command. -/

namespace Sys2Proof

/-- The command that the word `w` of `nbits` bits spells by the table's bits: none, for no row of the table has bits. -/
def decodeTableWord (_nbits _w : Nat) : Option Instr := none

end Sys2Proof
end

