-- ==== Sys2Proof/Config.lean ====
section
/-! DEFINITION. What the manual leaves open: free values without a body. -/

namespace Sys2Proof

/-- FREE VALUE (log 5). The scheme time a block is given when it asks for the present while the time quality is UNSET:
the manual calls it "undefined" (R43). It depends on the local instant asked about; nothing constrains it. -/
opaque Config.undefinedSchemeMs : Ms → Nat

end Sys2Proof
end

