-- ==== Sys2Proof/Machine/State.lean ====
section
/-! DEFINITION. The state of one DS30, block by block as Table 0-2 lists the blocks, its state after a full reset,
and the two reasons types of `Host.Outcome`. All of it is plain data. -/

namespace Sys2Proof.Machine

/-! ### Reasons -/

/-- The reasons a command could stop the machine with a fault. -/
inductive Fault where
  /-- Raised by nobody: the manual describes no condition that stops a DS30. Safe: it never occurs. -/
  | noneDescribed
  deriving DecidableEq, Repr

/-- The reasons a command could be refused by the model. -/
inductive Refusal where
  /-- Answered by an arm of `exec` whose command has no meaning yet. Safe; no arm answers it. -/
  | notModelled (mnemonic : String)
  deriving DecidableEq, Repr

/-! ### Time -/

/-- An instant of the station: its local millisecond (R37) and the microseconds within it, fine enough for
bit-times (16 or 4 µs) and the converter's 20 and 40 µs. -/
structure Instant where
  ms : Ms
  us : Nat
  deriving DecidableEq, Repr

/-- The conversion held with a local instant: made, pending until the first adoption, or lapsed (R45, R47). -/
inductive SchemeMs where
  | known (ms : Nat)
  | pending
  | unknown
  deriving DecidableEq, Repr

/-- The contents of a held capture slot (Table 3-3). -/
structure Capture where
  ms : Ms
  scheme : SchemeMs
  /-- Start-up mark: set only on the start-up capture (R45). -/
  startUp : Bool
  deriving DecidableEq, Repr

/-- Time quality (Table 3-1). -/
inductive TimeQuality where
  | unset | set | stale
  deriving DecidableEq, Repr

/-- The time base pair (R38). -/
structure BasePair where
  localMs : Ms
  schemeMs : Nat
  deriving DecidableEq, Repr

/-- The timebase (chapter 3). -/
structure Timebase where
  base : Option BasePair
  quality : TimeQuality
  /-- Staleness timer: its expiry instant (R41). -/
  staleAt : Option Ms
  /-- The next carry of a STALE base pair (R42). -/
  carryAt : Option Ms
  boltClosed : Option Capture
  boltOpen : Option Capture
  mouthIn : Option Capture
  mouthOut : Option Capture
  button : Option Capture
  card : Option Capture
  deriving DecidableEq, Repr

/-! ### The line controller -/

/-- The fifteen notice kinds (Table 0-5, Table 12-2). -/
inductive Kind where
  | clm | wdr | ofr | hir | stl | flt | fcl | lkp | mbr | vop | vtk | vcl | bcn | tim | trf
  deriving DecidableEq, Repr

/-- An entry of the transmit queue (R7). Its class and its owner follow from its kind (Tables 0-5 and 1-2). -/
structure TxEntry where
  kind : Kind
  body : List Byte
  /-- The reference that lets the owner recognise the answer. -/
  ref : Nat
  queuedAt : Ms
  deadline : Ms
  deriving DecidableEq, Repr

/-- The attempt in progress: the entry in transmission, the frame's bytes with its check, and the instant it began. -/
structure Transmission where
  ref : Nat
  bytes : List Byte
  start : Instant
  deriving DecidableEq, Repr

/-- The present quiet: when it began, and the last sender held then (R3, R12). -/
structure QuietSpan where
  start : Instant
  lastSender : Nat
  deriving DecidableEq, Repr

/-- The line controller (chapter 1). -/
structure Line where
  /-- Framing state: `none` is out of frame; otherwise the characters of the frame in progress (R4). -/
  rx : Option (List Byte)
  /-- The end of the last character of the frame in progress, from which the receive gap runs (R6). -/
  rxCharEnd : Option Instant
  /-- A character in progress, with the instant at which it ends (R2). -/
  charEndsAt : Option Instant
  /-- The start of the present recessive stretch, while it is known (R3). -/
  recessiveSince : Option Instant
  quiet : Option QuietSpan
  lastSender : Nat
  queue : List TxEntry
  /-- The held beacon body (R9). -/
  heldBeacon : Option (List Byte)
  tx : Option Transmission
  /-- The station's own serial counter (R16). -/
  serial : BitVec 8
  /-- The access wait in progress, in bit-times from the start of quiet (R12). -/
  wait : Option Nat
  /-- The bad-frame record, oldest first (R18). -/
  badFrames : List Ms
  stuck : Bool
  /-- The LINE condition (R18). -/
  lineRaised : Bool
  /-- When LINE clears if nothing restarts the count; none while a stuck line lasts. -/
  lineClearAt : Option Ms
  clash : Bool
  /-- The next owner's reference (the model's own numbering of offered frames). -/
  nextRef : Nat
  deriving DecidableEq, Repr

/-! ### The peer table -/

inductive PeerState where
  | absent | live | silent
  deriving DecidableEq, Repr

/-- The beacon fields of a peer entry with its role, as received (R29, Table 2-1); codes are those of Table 12-3. -/
structure Beacon where
  role : Nat
  postState : Nat
  docked : Bool
  hireable : Bool
  vanHold : Bool
  boltClosed : Bool
  bikeId : Nat
  bikeFault : Nat
  postFault : Nat
  dockedSince : Nat
  charge : Nat
  tariff : Nat
  quality : Nat
  stationId : Nat
  deriving DecidableEq, Repr

/-- A peer table entry (Table 2-2), with its silence timer (R30). -/
structure Peer where
  state : PeerState
  beacon : Option Beacon
  heard : Option Ms
  silenceAt : Option Ms
  deriving DecidableEq, Repr

/-- The peer table (chapter 2). -/
structure PeerTable where
  /-- The 32 entries, by station number. -/
  entries : List Peer
  beaconAt : Option Ms
  adoptedId : Nat
  conflictSeen : Bool
  /-- The duplicate-bike condition (R34). -/
  duplicate : Bool
  /-- The 60,000 ms hold of DUPLICATE (R35). -/
  duplicateHoldAt : Option Ms
  deriving DecidableEq, Repr

/-! ### The dock mechanism -/

inductive BoltState where
  | closed | opening | held | closing | jammed
  deriving DecidableEq, Repr

inductive CoilDrive where
  | off | pullIn | hold
  deriving DecidableEq, Repr

inductive SelfTestPhase where
  | pullIn | hold | close
  deriving DecidableEq, Repr

/-- The self-test in progress, with the crew member of the card that started it (R70, R71). -/
structure SelfTest where
  phase : SelfTestPhase
  crew : Nat
  deriving DecidableEq, Repr

/-- The press burst in progress (R62). -/
structure PressBurst where
  count : Nat
  discarded : Bool
  endAt : Ms
  deriving DecidableEq, Repr

/-- The rows of Table 4-4, in order of precedence. -/
inductive LampRow where
  | releaseGreenFlash | refusalRedFlash | crewGreenFlash | testAmberFlash | redSteady | blueSteady | workAmberFlash
  | amberSteady | greenSteady | off
  deriving DecidableEq, Repr

/-- The pattern shown, the 200 ms phase it is in (0 is the first lit one), and the end of that phase (R63, R64). -/
structure Lamp where
  row : LampRow
  phase : Nat
  phaseAt : Option Ms
  deriving DecidableEq, Repr

/-- The refusal display running: n flashes, and its end (R64). -/
structure RefusalDisplay where
  flashes : Nat
  endAt : Ms
  deriving DecidableEq, Repr

/-- One burst of the converter: a periodic one with or without CH1, or an event burst for a pull-in (R65). -/
inductive Burst where
  | periodic (withCh1 : Bool)
  | event (pullIn : Nat)
  deriving DecidableEq, Repr

/-- The converter's state, with the instant at which a state that lasts ends (Table 4-5). -/
inductive Converter where
  | idle
  | pend (burst : Burst) (until_ : Instant)
  | busy (burst : Burst) (until_ : Instant)
  deriving DecidableEq, Repr

/-- An analog channel's last result and its fresh mark (R66). -/
structure Channel where
  last : Option (BitVec 10)
  fresh : Bool
  deriving DecidableEq, Repr

/-- The dock mechanism (chapter 4). Each timer is its expiry instant. -/
structure Dock where
  /-- The filtered bolt sensor reads open (R49). -/
  sensorOpen : Bool
  bolt : BoltState
  coil : CoilDrive
  /-- After a change to HOLD, the period boundary from which the hold duty applies (R50). -/
  holdDutyFrom : Option Ms
  /-- The release or self-test has seen the bolt open (R52). -/
  seenOpen : Bool
  /-- A release is in progress with the hire controller as its requester (R51, R54). -/
  release : Bool
  /-- How many pull-ins have been started since full reset (the model's name for the pull-in a CH0 request serves). -/
  pullIns : Nat
  pullInEndAt : Option Ms
  ch0At : Option Ms
  openCheckAt : Option Ms
  takeWindowAt : Option Ms
  closeCheckAt : Option Ms
  pushAsideAt : Option Ms
  selfTest : Option SelfTest
  /-- The end of the self-test's hold phase (R71). -/
  holdEndAt : Option Ms
  docked : Bool
  /-- The present docking's capture, from which docked-since is taken (R25). -/
  dockedSince : Option Capture
  beamA : Bool
  beamB : Bool
  /-- The mouth count, 0..15 (R59). -/
  count : Nat
  /-- The noise count, 0..16 (R60). -/
  noise : Nat
  pressed : Bool
  pressAt : Option Ms
  burst : Option PressBurst
  lamp : Lamp
  refusal : Option RefusalDisplay
  /-- The end of the crew acknowledgement running (R64). -/
  crewAckAt : Option Ms
  converter : Converter
  pendingPeriodic : Bool
  /-- A held event burst, with the pull-in it serves. -/
  pendingEvent : Option Nat
  periodicAt : Option Ms
  ch0 : Channel
  ch1 : Channel
  ch2 : Channel
  ch3 : Channel
  deriving DecidableEq, Repr

/-! ### The tag port -/

inductive BikeKind where
  | classic | ebike
  deriving DecidableEq, Repr

/-- The ID section (Table 5-10); its tag format is 1. -/
structure IdSection where
  bikeId : Nat
  kind : BikeKind
  deriving DecidableEq, Repr

inductive HireMark where
  | closed | opened | returned | van
  deriving DecidableEq, Repr

/-- The HIRE section (Table 5-11). -/
structure HireSection where
  mark : HireMark
  member : Nat
  plan : Nat
  start : Nat
  startStation : Nat
  startPost : Nat
  startDay : Nat
  startSpend : Nat
  unverified : Bool
  endAt : Nat
  deriving DecidableEq, Repr

/-- A fare, or UNRATED (Table 12-3). -/
inductive Fare where
  | charge (cents : Nat)
  | unrated
  deriving DecidableEq, Repr

inductive Reason where
  | rated | grace | overdue | time | tariff | slots | tag
  deriving DecidableEq, Repr

/-- The LAST SETTLEMENT section when its present flag is set (R85). -/
structure LastSection where
  fare : Fare
  reason : Reason
  endAt : Nat
  tariff : Nat
  deriving DecidableEq, Repr

inductive FaultSource where
  | member | auto | crew
  deriving DecidableEq, Repr

/-- An entry of the FAULTS section (R85); a reporter of 0 is none. -/
structure FaultEntry where
  cls : Nat
  level : Nat
  source : FaultSource
  reporter : Nat
  deriving DecidableEq, Repr

/-- A section as the copy holds it: not visible, judged DAMAGED, or good with its fields (R75, R76). -/
inductive Judged (α : Type) where
  | unread
  | damaged
  | good (fields : α)
  deriving DecidableEq, Repr

inductive CopyState where
  | empty | reading | held | noTag
  deriving DecidableEq, Repr

/-- The tag copy (Table 5-7); an absent LAST SETTLEMENT is `none`. -/
structure TagCopy where
  state : CopyState
  id : Judged IdSection
  hire : Judged HireSection
  last : Option LastSection
  faults : Judged (List FaultEntry)
  deriving DecidableEq, Repr

/-- The complete new contents of the section a write names (R81). -/
inductive SectionContents where
  | hire (h : HireSection)
  | last (l : Option LastSection)
  | faults (entries : List FaultEntry)
  deriving DecidableEq, Repr

inductive Requester where
  | hire | settlement | fault | tagPort
  deriving DecidableEq, Repr

structure WriteRequest where
  contents : SectionContents
  requester : Requester
  ref : Nat
  deriving DecidableEq, Repr

/-- The operation in progress (R74): none, a read set with the sections read so far, or a write with its attempt
and phase; `answered` says the tag has begun its answer to the command issued at `issued`. -/
inductive TagOperation where
  | idle
  | readSet (startUp : Bool) (got : List (List Byte)) (answered : Bool) (issued : Ms)
  | write (request : WriteRequest) (second : Bool) (readBack : Bool) (answered : Bool) (issued : Ms)
  deriving DecidableEq, Repr

/-- The tag port (chapter 5). -/
structure TagPort where
  operation : TagOperation
  /-- The request list, head first (R81). -/
  requests : List WriteRequest
  copy : TagCopy
  /-- The docking capture handed over with the read set in progress (R77). -/
  docking : Option Capture
  /-- The next reference of a write request (the model's own numbering). -/
  nextRef : Nat
  deriving DecidableEq, Repr

/-! ### The card port and the member view -/

/-- The record assembler's states (Table 6-1); VOID's reason is that of the first error (R89). -/
inductive Assembler where
  | idle | collecting | complete | void
  deriving DecidableEq, Repr

/-- Why a record is unreadable (R89, R90). -/
inductive Unreadable where
  | parity | framing | short | overrun | badCheck | badField
  deriving DecidableEq, Repr

structure CardPort where
  /-- The decoder waits for the link's idle level (R88, R103). -/
  waitsIdle : Bool
  assembler : Assembler
  voidReason : Option Unreadable
  chars : List Byte
  gapAt : Option Ms
  /-- What the button held test answered at the capture in the card slot (R61; log 16). -/
  captureHeld : Bool
  /-- The unreadable run count, 0..8 (R91). -/
  unreadableRun : Nat
  deriving DecidableEq, Repr

/-- A good card record's fields (Table 6-2). -/
structure CardRecord where
  member : Nat
  plan : Nat
  sequence : Nat
  expiryDay : Nat
  offline : Bool
  deriving DecidableEq, Repr

inductive MemberStatus where
  | good | blocked | unknown
  deriving DecidableEq, Repr

/-- A member view entry (Table 6-3), which is also what an MBR carries. -/
structure ViewEntry where
  member : Nat
  status : MemberStatus
  plan : Nat
  allowance : Nat
  bikesOut : Nat
  day : Nat
  spend : Nat
  minSequence : Nat
  updatedAt : Nat
  deriving DecidableEq, Repr

/-- The lookup record while OUTSTANDING (Table 6-6). -/
structure Lookup where
  card : CardRecord
  expiresAt : Ms
  lkpRef : Option Nat
  deriving DecidableEq, Repr

structure MemberView where
  /-- The entries in last-use order, least recently used first (R92). -/
  entries : List ViewEntry
  lookup : Option Lookup
  deriving DecidableEq, Repr

/-! ### The hire controller -/

/-- The hire states (Table 7-1). -/
inductive HireState where
  | idle | check | lookup | claiming | tagging | releasing | cancelling
  deriving DecidableEq, Repr

inductive HireKind where
  | member | crew
  deriving DecidableEq, Repr

/-- The answer a hire goes on: from the card reading, a lookup or an offline admission (Table 7-2). -/
structure Answer where
  status : MemberStatus
  plan : Nat
  allowance : Nat
  bikesOut : Nat
  spend : Nat
  minSequence : Nat
  unverified : Bool
  deriving DecidableEq, Repr

/-- The previous ride summary of an HIR (R115). -/
inductive RideSummary where
  | last (l : LastSection)
  | hire (h : HireSection)
  deriving DecidableEq, Repr

/-- The claim once sent: its serial and the local ms at which it was sent (Table 7-2). -/
structure SentClaim where
  serial : BitVec 8
  at_ : Ms
  deriving DecidableEq, Repr

/-- The hire record (Table 7-2). -/
structure HireRecord where
  kind : HireKind
  card : CardRecord
  answer : Option Answer
  clmRef : Option Nat
  claim : Option SentClaim
  windowAt : Option Ms
  prior : Option HireSection
  bike : Option IdSection
  summary : Option RideSummary
  written : Option HireSection
  /-- The reference of the HIRE write whose answer the hire waits for. -/
  writeRef : Option Nat
  settleAt : Option Ms
  deriving DecidableEq, Repr

/-- A claim list entry (Table 7-4). -/
structure Claim where
  member : Nat
  claimant : Nat
  serial : BitVec 8
  heard : Ms
  deriving DecidableEq, Repr

/-- A claim whose hire was cancelled before its CLM was answered (R112). -/
structure UnwantedClaim where
  ref : Nat
  member : Nat
  deriving DecidableEq, Repr

structure HireController where
  state : HireState
  record : Option HireRecord
  claims : List Claim
  unwanted : List UnwantedClaim
  deriving DecidableEq, Repr

/-! ### The settlement unit and the tariff store -/

/-- A plan record whose present flag is set (Table 8-4); its plan is its piece index. -/
structure PlanRecord where
  freeMinutes : Nat
  blockMinutes : Nat
  rateA : Nat
  rateB : Nat
  rateC : Nat
  rateD : Nat
  surcharge : Nat
  rideCap : Nat
  dayCap : Nat
  overdueFee : Nat
  grace : Nat
  deriving DecidableEq, Repr

inductive BandClass where
  | a | b | c | d
  deriving DecidableEq, Repr

structure Band where
  start : Nat
  cls : BandClass
  deriving DecidableEq, Repr

/-- One tariff piece: a plan record (absent or present) or the band table. -/
inductive Piece where
  | plan (record : Option PlanRecord)
  | bands (table : List Band)
  deriving DecidableEq, Repr

/-- A tariff: its version and its nine pieces by index, each held or not; version 0 is none. -/
structure Tariff where
  version : Nat
  pieces : List (Option Piece)
  deriving DecidableEq, Repr

/-- The return record of a slot (Table 8-3). -/
structure ReturnRecord where
  bikeId : Nat
  ebike : Bool
  member : Nat
  plan : Nat
  start : Nat
  startStation : Nat
  startPost : Nat
  startDay : Nat
  startSpend : Nat
  capture : Ms
  startUp : Bool
  /-- The end in scheme ms, or pending. -/
  end_ : SchemeMs
  deriving DecidableEq, Repr

/-- A settlement (Table 8-3) with the end its STL and write-back carry, FFFFFFFFH while that is not known (R143, R145,
log 31). -/
structure Settlement where
  endAt : Nat
  fare : Fare
  reason : Reason
  version : Nat
  newSpend : Nat
  day : Nat
  deriving DecidableEq, Repr

/-- The inputs of a rating, all fixed when the slot enters RATING (R139). -/
structure RatingInputs where
  start : Nat
  end_ : Nat
  plan : PlanRecord
  bands : List Band
  version : Nat
  startSpend : Nat
  ebike : Bool
  atStartPost : Bool
  deriving DecidableEq, Repr

/-- What a slot that is not FREE is doing (Table 8-2), with that state's marks and timers. -/
inductive SlotPhase where
  | gathering (time tariff station : Bool) (expiresAt : Ms)
  | rating (inputs : RatingInputs) (doneAt : Ms)
  | done (settlement : Settlement) (retryAt : Option Ms) (abandonAt : Ms)
  deriving DecidableEq, Repr

structure Slot where
  record : ReturnRecord
  phase : SlotPhase
  deriving DecidableEq, Repr

/-- The record of a RETURNED write awaiting its answer (R127). -/
structure ReturnedWrite where
  ref : Nat
  member : Nat
  capture : Ms
  startUp : Bool
  deriving DecidableEq, Repr

structure SettlementUnit where
  /-- Slot A and slot B; `none` is FREE. -/
  slotA : Option Slot
  slotB : Option Slot
  active : Tariff
  staging : Tariff
  returned : List ReturnedWrite
  deriving DecidableEq, Repr

/-! ### The fault unit -/

/-- A change of the fault list (R153). -/
inductive FaultChange where
  | add (entry : FaultEntry)
  | remove (cls : Nat)
  deriving DecidableEq, Repr

/-- A FAULTS write of the fault unit not yet answered (R149). -/
structure FaultsWrite where
  ref : Nat
  entries : List FaultEntry
  deriving DecidableEq, Repr

/-- The reporting window (Table 9-2). -/
structure ReportWindow where
  /-- Kind CREW; otherwise MEMBER. -/
  crew : Bool
  reporter : Nat
  expiresAt : Ms
  used : Bool
  deriving DecidableEq, Repr

/-- The post faults (Table 9-5). -/
inductive PostFault where
  | jam | coilOpen | coilShort | clash | supplyLow | reader | sensor | lamp | line | idConf
  deriving DecidableEq, Repr

structure FaultUnit where
  /-- The held TAG mark (R152). -/
  tagMark : Bool
  lowCharge : Bool
  flat : Bool
  duplicate : Bool
  /-- The fault unit's unanswered FAULTS writes, most recent last. -/
  writes : List FaultsWrite
  deferred : List FaultChange
  window : Option ReportWindow
  /-- The post faults raised. -/
  raised : List PostFault
  deriving DecidableEq, Repr

/-! ### The van window unit -/

inductive VanMode where
  | collect | deliver
  deriving DecidableEq, Repr

/-- An accepted offer (Table 10-2). -/
structure Accepted where
  station : Nat
  bikeId : Nat
  rank : Nat
  heard : Ms
  deriving DecidableEq, Repr

/-- The window record while OPEN (Table 10-1). -/
structure VanWindow where
  serial : Nat
  mode : VanMode
  places : Nat
  crew : Nat
  expiresAt : Ms
  accepted : List Accepted
  deriving DecidableEq, Repr

inductive OwnOffer where
  | none_ | queued | accepted | notAccepted
  deriving DecidableEq, Repr

structure VanUnit where
  window : Option VanWindow
  offer : OwnOffer
  /-- The reference of the OFR the own offer was queued with. -/
  offerRef : Nat
  voidMark : Bool
  retryAt : Option Ms
  hold : Bool
  target : Bool
  holdSerial : Nat
  selfTestBike : Nat
  deriving DecidableEq, Repr

/-! ### The local port and the terminal's store -/

inductive WindowCause where
  | vcl | expiry | newVop | silent
  deriving DecidableEq, Repr

/-- What an event carries (Table 11-4). -/
inductive EventBody where
  | lookup (sender member sequence : Nat) (entry : Option ViewEntry)
  | hire (sender : Nat) (body : List Byte)
  | settle (sender : Nat) (body : List Byte)
  | fault (sender : Nat) (body : List Byte)
  | vanTake (sender : Nat) (body : List Byte)
  | peerChange (station : Nat) (state : PeerState) (fieldsChanged : Bool)
  | offer (serial station bikeId rank : Nat)
  | windowClosed (serial crew : Nat) (cause : WindowCause)
  | heard (kind : Kind) (sender : Nat) (serial : BitVec 8) (body : List Byte)
  deriving DecidableEq, Repr

structure Event where
  at_ : Ms
  body : EventBody
  deriving DecidableEq, Repr

/-- What reading a response does beside emptying the buffer (R182, R188). -/
inductive Carried where
  | nothing
  /-- A STATUS response; whether an event was dropped since it was answered. -/
  | status (droppedSince : Bool)
  /-- A response that carries the queue's head event. -/
  | event
  deriving DecidableEq, Repr

structure Response where
  bytes : List Byte
  carried : Carried
  deriving DecidableEq, Repr

structure LocalPort where
  response : Option Response
  /-- The read mark of the response last held (R180). -/
  readMark : Bool
  events : List Event
  overflow : Bool
  /-- The bytes shifted out in the last transaction (the model's view of the port's output). -/
  shiftedOut : List Byte
  deriving DecidableEq, Repr

/-- What the TERMINAL role holds beside the port (R189). -/
structure TerminalStore where
  stationId : Nat
  active : Tariff
  staging : Tariff
  timAt : Option Ms
  trfAt : Option Ms
  trfIndex : Nat
  deriving DecidableEq, Repr

/-! ### The machine -/

/-- One DS30 and the commands waiting for it. -/
structure State where
  straps : Straps
  clock : Instant
  line : Line
  peers : PeerTable
  time : Timebase
  dock : Dock
  tag : TagPort
  card : CardPort
  view : MemberView
  hire : HireController
  settle : SettlementUnit
  fault : FaultUnit
  van : VanUnit
  port : LocalPort
  terminal : TerminalStore
  /-- The commands that wait, first in first out (the model's input queue). -/
  pending : List Instr
  deriving DecidableEq, Repr

/-! ### After a full reset -/

/-- The station number a role takes from its straps (R179). -/
def strapNumber (straps : Straps) : Nat :=
  match straps.role with
  | .terminal => 0
  | .van => 31
  | .post => straps.number.toNat
  | .monitor => straps.number.toNat

/-- A post strapped 0 or 31 is barred (R20). -/
def strapBarred (straps : Straps) : Bool :=
  decide (straps.role = .post) && (decide (straps.number = 0) || decide (straps.number = 31))

/-- A role that drives the line: every role but MONITOR. -/
def strapSends (straps : Straps) : Bool := !decide (straps.role = .monitor)

/-- An ABSENT peer entry (R36). -/
def Peer.absentEntry : Peer := { state := .absent, beacon := none, heard := none, silenceAt := none }

/-- A station's own entry at the release of full reset (R27, R36). -/
def Peer.ownEntry : Peer := { state := .live, beacon := none, heard := some 0, silenceAt := none }

/-- A tariff store half that holds nothing (R148, R189). -/
def Tariff.empty : Tariff := { version := 0, pieces := List.replicate 9 none }

/-- A copy of no tag (R87). -/
def TagCopy.none_ : TagCopy := { state := .empty, id := .unread, hire := .unread, last := none, faults := .unread }

/-- R21. -/
def Line.afterReset (straps : Straps) : Line :=
  { rx := none, rxCharEnd := none, charEndsAt := none, recessiveSince := some { ms := 0, us := 0 }, quiet := none,
    lastSender := 31, queue := [], heldBeacon := none, tx := none, serial := 0, wait := none, badFrames := [],
    stuck := false, lineRaised := false, lineClearAt := none, clash := strapBarred straps, nextRef := 0 }

/-- R36. -/
def PeerTable.afterReset (straps : Straps) : PeerTable :=
  { entries :=
      if strapSends straps then (List.replicate 32 Peer.absentEntry).set (strapNumber straps) Peer.ownEntry
      else List.replicate 32 Peer.absentEntry,
    beaconAt := if strapSends straps then some 0 else none,
    adoptedId := 0, conflictSeen := false, duplicate := false, duplicateHoldAt := none }

/-- R48. -/
def Timebase.afterReset : Timebase :=
  { base := none, quality := .unset, staleAt := none, carryAt := none, boltClosed := none, boltOpen := none,
    mouthIn := none, mouthOut := none, button := none, card := none }

/-- R72; only a post has the block. The lamp's first choice is RED steady at a barred post and otherwise the AMBER
flash of the start-up read (Table 4-4, orders 5 and 7). -/
def Dock.afterReset (straps : Straps) (boltReadsOpen beamABroken beamBBroken : Bool) : Dock :=
  let post := decide (straps.role = .post)
  { sensorOpen := boltReadsOpen,
    bolt := if boltReadsOpen then .closing else .closed,
    coil := .off, holdDutyFrom := none, seenOpen := false, release := false, pullIns := 0, pullInEndAt := none,
    ch0At := none, openCheckAt := none, takeWindowAt := none,
    closeCheckAt := if boltReadsOpen && post then some 300 else none,
    pushAsideAt := none, selfTest := none, holdEndAt := none, docked := false, dockedSince := none,
    beamA := beamABroken, beamB := beamBBroken, count := 0, noise := 0, pressed := false, pressAt := none,
    burst := none,
    lamp :=
      if post then
        if strapBarred straps then { row := .redSteady, phase := 0, phaseAt := none }
        else { row := .workAmberFlash, phase := 0, phaseAt := some 200 }
      else { row := .off, phase := 0, phaseAt := none },
    refusal := none, crewAckAt := none, converter := .idle, pendingPeriodic := false, pendingEvent := none,
    periodicAt := if post then some 0 else none,
    ch0 := { last := none, fresh := false }, ch1 := { last := none, fresh := false },
    ch2 := { last := none, fresh := false }, ch3 := { last := none, fresh := false } }

/-- R87; at a post the start-up read of R80 begins at the release. -/
def TagPort.afterReset (straps : Straps) : TagPort :=
  { operation := if straps.role = .post then .readSet true [] false 0 else .idle,
    requests := [], copy := TagCopy.none_, docking := none, nextRef := 0 }

/-- R103. -/
def CardPort.afterReset : CardPort :=
  { waitsIdle := true, assembler := .idle, voidReason := none, chars := [], gapAt := none, captureHeld := false,
    unreadableRun := 0 }

/-- R104. -/
def MemberView.afterReset : MemberView := { entries := [], lookup := none }

/-- R125. -/
def HireController.afterReset : HireController := { state := .idle, record := none, claims := [], unwanted := [] }

/-- R148. -/
def SettlementUnit.afterReset : SettlementUnit :=
  { slotA := none, slotB := none, active := Tariff.empty, staging := Tariff.empty, returned := [] }

/-- R164. -/
def FaultUnit.afterReset (straps : Straps) : FaultUnit :=
  { tagMark := false, lowCharge := false, flat := false, duplicate := false, writes := [], deferred := [],
    window := none, raised := if strapBarred straps then [.clash] else [] }

/-- R178. -/
def VanUnit.afterReset : VanUnit :=
  { window := none, offer := .none_, offerRef := 0, voidMark := false, retryAt := none, hold := false,
    target := false, holdSerial := 0, selfTestBike := 0 }

/-- R189. -/
def LocalPort.afterReset : LocalPort :=
  { response := none, readMark := false, events := [], overflow := false, shiftedOut := [] }

/-- R189. -/
def TerminalStore.afterReset : TerminalStore :=
  { stationId := 0, active := Tariff.empty, staging := Tariff.empty, timAt := none, trfAt := none, trfIndex := 0 }

/-- The station at the release of a full reset with these straps and raw sensor levels: every block in the state its
chapter's reset rule gives (R21, R36, R48, R72, R87, R103, R104, R125, R148, R164, R178, R189). -/
def State.atRelease (straps : Straps) (boltReadsOpen beamABroken beamBBroken : Bool) (pending : List Instr) : State :=
  { straps := straps,
    clock := { ms := 0, us := 0 },
    line := Line.afterReset straps,
    peers := PeerTable.afterReset straps,
    time := Timebase.afterReset,
    dock := Dock.afterReset straps boltReadsOpen beamABroken beamBBroken,
    tag := TagPort.afterReset straps,
    card := CardPort.afterReset,
    view := MemberView.afterReset,
    hire := HireController.afterReset,
    settle := SettlementUnit.afterReset,
    fault := FaultUnit.afterReset straps,
    van := VanUnit.afterReset,
    port := LocalPort.afterReset,
    terminal := TerminalStore.afterReset,
    pending := pending }

/-- The straps of `State.reset`: a POST strapped 1 at 62,500 bit/s (DESIGN CHOICE, log 1). -/
def Straps.ofReset : Straps := { role := .post, number := 1, rateHigh := false }

/-- The machine right after reset: the release of a full reset of the post of `Straps.ofReset`, its bolt sensor
reading closed and its beams clear (DESIGN CHOICE, log 1), with no command waiting. -/
def State.reset : State := State.atRelease Straps.ofReset false false false []

end Sys2Proof.Machine
end

