-- ==== Sys2Proof/Machine/Operands.lean ====
section
/-! DEFINITION. The byte forms of chapter 12: the checks, the fields, the notice bodies, the tag sections, the card
record and the local port records, each read and written here and nowhere else. -/

namespace Sys2Proof.Machine

/-! ### Fields and checks (R190) -/

/-- A field of one byte. -/
def be1 (n : Nat) : List Byte := [BitVec.ofNat 8 n]

/-- A field of two bytes, most significant first. -/
def be2 (n : Nat) : List Byte := be1 (n / 256) ++ be1 n

/-- A field of three bytes, most significant first. -/
def be3 (n : Nat) : List Byte := be1 (n / 65536) ++ be2 n

/-- A field of four bytes, most significant first. -/
def be4 (n : Nat) : List Byte := be1 (n / 16777216) ++ be3 n

/-- The number a run of bytes holds, most significant first. -/
def beNat (bytes : List Byte) : Nat := bytes.foldl (fun n b => n * 256 + b.toNat) 0

/-- The number held in `width` bytes at `offset`. -/
def fieldAt (bytes : List Byte) (offset width : Nat) : Nat := beNat ((bytes.drop offset).take width)

/-- Bit `bit` of the byte at `offset`. -/
def flagAt (bytes : List Byte) (offset bit : Nat) : Bool := (fieldAt bytes offset 1).testBit bit

/-- One shift of the CRC-16 register, generator 1021H. -/
def crc16Shift (r : BitVec 16) : BitVec 16 := if r.msb then (r <<< 1) ^^^ 0x1021 else r <<< 1

/-- The CRC-16 register after one byte. -/
def crc16Byte (r : BitVec 16) (b : Byte) : BitVec 16 :=
  crc16Shift (crc16Shift (crc16Shift (crc16Shift (crc16Shift (crc16Shift (crc16Shift (crc16Shift
    (r ^^^ (b.setWidth 16 <<< 8)))))))))

/-- The CRC-16 of a run of bytes, from FFFFH (R190). -/
def crc16 (bytes : List Byte) : Nat := (bytes.foldl crc16Byte 0xFFFF).toNat

/-- One shift of the CRC-8 register, generator 07H. -/
def crc8Shift (r : BitVec 8) : BitVec 8 := if r.msb then (r <<< 1) ^^^ 0x07 else r <<< 1

/-- The CRC-8 register after one byte. -/
def crc8Byte (r : BitVec 8) (b : Byte) : BitVec 8 :=
  crc8Shift (crc8Shift (crc8Shift (crc8Shift (crc8Shift (crc8Shift (crc8Shift (crc8Shift (r ^^^ b))))))))

/-- The CRC-8 of a run of bytes, from 00H (R190). -/
def crc8 (bytes : List Byte) : Nat := (bytes.foldl crc8Byte 0).toNat

/-- The bytes with their CRC-16 behind them. -/
def withCrc16 (bytes : List Byte) : List Byte := bytes ++ be2 (crc16 bytes)

/-- The section's bytes with their CRC-8 in the last byte. -/
def withCrc8 (bytes : List Byte) : List Byte := bytes ++ be1 (crc8 bytes)

/-- A record of `covered + 2` bytes whose last two are the CRC-16 of the others. -/
def crc16Good (bytes : List Byte) (covered : Nat) : Bool :=
  decide (bytes.length = covered + 2) && decide (fieldAt bytes covered 2 = crc16 (bytes.take covered))

/-- A section of `covered + 1` bytes whose last is the CRC-8 of the others. -/
def crc8Good (bytes : List Byte) (covered : Nat) : Bool :=
  decide (bytes.length = covered + 1) && decide (fieldAt bytes covered 1 = crc8 (bytes.take covered))

/-- The value of a single flag bit at `bit`. -/
def flagBit (b : Bool) (bit : Nat) : Nat := if b then 2 ^ bit else 0

/-! ### Codes (Tables 12-2 and 12-3) -/

/-- The kind's code. -/
def Kind.code : Kind → Nat
  | .clm => 0x10 | .wdr => 0x11 | .ofr => 0x12
  | .hir => 0x20 | .stl => 0x21 | .flt => 0x22 | .fcl => 0x23 | .lkp => 0x24 | .mbr => 0x25 | .vop => 0x26
  | .vtk => 0x27 | .vcl => 0x28
  | .bcn => 0x30 | .tim => 0x31 | .trf => 0x32

/-- Every kind. -/
def Kind.all : List Kind :=
  [.clm, .wdr, .ofr, .hir, .stl, .flt, .fcl, .lkp, .mbr, .vop, .vtk, .vcl, .bcn, .tim, .trf]

/-- The kind with this code, if it is one of Table 0-5. -/
def kindOfCode (code : Nat) : Option Kind := Kind.all.find? (fun k => decide (k.code = code))

/-- The class of a kind (Table 0-5): 0 first. -/
def Kind.cls : Kind → Nat
  | .clm => 0 | .wdr => 0 | .ofr => 0
  | .hir => 1 | .stl => 1 | .flt => 1 | .fcl => 1 | .lkp => 1 | .mbr => 1 | .vop => 1 | .vtk => 1 | .vcl => 1
  | .bcn => 2 | .tim => 2 | .trf => 2

/-- The body lengths allowed for a kind, HIR's with its summary kind (R191, Table 12-2). -/
def bodyAllowed (kind : Kind) (body : List Byte) : Bool :=
  match kind with
  | .clm => decide (body.length = 5)
  | .wdr => decide (body.length = 5)
  | .ofr => decide (body.length = 6)
  | .hir =>
    (decide (body.length = 16) && decide (fieldAt body 15 1 = 0)) ||
    (decide (body.length = 27) && decide (fieldAt body 15 1 = 1)) ||
    (decide (body.length = 39) && decide (fieldAt body 15 1 = 2))
  | .stl => decide (body.length = 30)
  | .flt => decide (body.length = 8) || decide (body.length = 12)
  | .fcl => decide (body.length = 5)
  | .lkp => decide (body.length = 5)
  | .mbr => decide (body.length = 18)
  | .vop => decide (body.length = 9)
  | .vtk => decide (body.length = 9)
  | .vcl => decide (body.length = 1)
  | .bcn => decide (body.length = 19)
  | .tim => decide (body.length = 6)
  | .trf => decide (body.length = 28)

def roleCode : Role → Nat
  | .post => 0 | .terminal => 1 | .van => 2 | .monitor => 3

def HireState.code : HireState → Nat
  | .idle => 0 | .check => 1 | .lookup => 2 | .claiming => 3 | .tagging => 4 | .releasing => 5 | .cancelling => 6

def TimeQuality.code : TimeQuality → Nat
  | .unset => 0 | .set => 1 | .stale => 2

def MemberStatus.code : MemberStatus → Nat
  | .good => 0 | .blocked => 1 | .unknown => 2

def memberStatusOf : Nat → Option MemberStatus
  | 0 => some .good
  | 1 => some .blocked
  | 2 => some .unknown
  | _ => none

def Reason.code : Reason → Nat
  | .rated => 0 | .grace => 1 | .overdue => 2 | .time => 3 | .tariff => 4 | .slots => 5 | .tag => 6

def reasonOf : Nat → Option Reason
  | 0 => some .rated
  | 1 => some .grace
  | 2 => some .overdue
  | 3 => some .time
  | 4 => some .tariff
  | 5 => some .slots
  | 6 => some .tag
  | _ => none

/-- FFFFFFH is UNRATED. -/
def Fare.code : Fare → Nat
  | .charge cents => cents
  | .unrated => 0xFFFFFF

def fareOf (n : Nat) : Option Fare :=
  if n ≤ 999999 then some (.charge n) else if n = 0xFFFFFF then some .unrated else none

def FaultSource.code : FaultSource → Nat
  | .member => 0 | .auto => 1 | .crew => 2

def BikeKind.code : BikeKind → Nat
  | .classic => 0 | .ebike => 1

def bikeKindOf : Nat → Option BikeKind
  | 0 => some .classic
  | 1 => some .ebike
  | _ => none

def HireMark.code : HireMark → Nat
  | .closed => 0 | .opened => 1 | .returned => 2 | .van => 3

def hireMarkOf : Nat → Option HireMark
  | 0 => some .closed
  | 1 => some .opened
  | 2 => some .returned
  | 3 => some .van
  | _ => none

def VanMode.code : VanMode → Nat
  | .collect => 0 | .deliver => 1

def vanModeOf : Nat → Option VanMode
  | 0 => some .collect
  | 1 => some .deliver
  | _ => none

def BandClass.code : BandClass → Nat
  | .a => 0 | .b => 1 | .c => 2 | .d => 3

def bandClassOf : Nat → Option BandClass
  | 0 => some .a
  | 1 => some .b
  | 2 => some .c
  | 3 => some .d
  | _ => none

/-- An end not known or pending (Table 12-3). -/
def endNotKnown : Nat := 0xFFFFFFFF

/-! ### Line frames (Table 12-1) -/

/-- The frame's bytes, with its check. -/
def frameBytes (kind : Kind) (sender : Nat) (serial : BitVec 8) (body : List Byte) : List Byte :=
  withCrc16 (be1 kind.code ++ be1 sender ++ [serial] ++ be1 body.length ++ body)

/-- The levels of a character, one for each of its 11 bit-times, `true` being recessive, which is a 1: the start bit, the
data least significant bit first, the mark, the stop bit (R1, R190, Table 1-1). -/
def characterLevels (mark : Bool) (data : Byte) : List Bool :=
  false :: (List.range 8).map data.getLsbD ++ [mark, true]

/-- The levels of a frame's characters back to back; the first alone is a mark character (R1). -/
def frameLevels : List Byte → List Bool
  | [] => []
  | kind :: rest => characterLevels true kind ++ rest.flatMap (characterLevels false)

/-- The byte whose bits these are, least significant first. -/
def byteOfBits (bits : List Bool) : Byte := (BitVec.ofBoolListLE bits).setWidth 8

/-- The character that eleven sampled levels make (R2, Table 1-1). -/
def characterOf (levels : List Bool) : LineChar :=
  { data := byteOfBits ((levels.drop 1).take 8), mark := levels.getD 9 false, stopGood := levels.getD 10 false }

/-- The bits of a run of bytes at the local port, each byte most significant bit first (R190, 11.1). -/
def portBits (bytes : List Byte) : List Bool := bytes.flatMap (fun b => (List.range 8).map b.getMsbD)

/-- A frame as taken intact: kind, sender, serial and body. -/
structure Frame where
  kind : Kind
  sender : Nat
  serial : BitVec 8
  body : List Byte
  deriving DecidableEq, Repr

/-- The frame these characters are, if R5 takes it: the check matches, the sender is 0..31, the kind is one of
Table 0-5 and the body length is one the kind allows. -/
def frameOf (bytes : List Byte) : Option Frame :=
  let body := (bytes.drop 4).take (fieldAt bytes 3 1)
  match kindOfCode (fieldAt bytes 0 1) with
  | none => none
  | some kind =>
    if crc16Good bytes (4 + fieldAt bytes 3 1) && decide (fieldAt bytes 1 1 ≤ 31) && bodyAllowed kind body then
      some { kind := kind, sender := fieldAt bytes 1 1, serial := BitVec.ofNat 8 (fieldAt bytes 2 1), body := body }
    else none

/-! ### Notice bodies (Table 12-2) -/

def clmBody (member allowance : Nat) : List Byte := be4 member ++ be1 allowance

def wdrBody (serial : BitVec 8) (member : Nat) : List Byte := [serial] ++ be4 member

def ofrBody (serial bikeId rank : Nat) : List Byte := be1 serial ++ be4 bikeId ++ be1 rank

/-- The HIRE section's 23 bytes before its check (Table 12-5). -/
def hireFields (h : HireSection) : List Byte :=
  be1 h.mark.code ++ be4 h.member ++ be1 h.plan ++ be4 h.start ++ be2 h.startStation ++ be1 h.startPost ++
    be2 h.startDay ++ be3 h.startSpend ++ be1 (flagBit h.unverified 0) ++ be4 h.endAt

/-- The LAST SETTLEMENT section's 11 bytes before its check (Table 12-5). One whose present byte is 0 is written with 00H
in every byte behind it, for which neither R127 nor Table 12-5 gives a value (DESIGN CHOICE, log 40). -/
def lastFields : Option LastSection → List Byte
  | none => List.replicate 11 0
  | some l => be1 1 ++ be3 l.fare.code ++ be1 l.reason.code ++ be4 l.endAt ++ be2 l.tariff

/-- The HIR's summary kind and summary (12.2). -/
def summaryBytes : Option RideSummary → List Byte
  | none => be1 0
  | some (.last l) => be1 1 ++ lastFields (some l)
  | some (.hire h) => be1 2 ++ hireFields h

def hirBody (claim : BitVec 8) (member bikeId start plan : Nat) (unverified ebike : Bool)
    (summary : Option RideSummary) : List Byte :=
  [claim] ++ be4 member ++ be4 bikeId ++ be4 start ++ be1 plan ++ be1 (flagBit unverified 0 + flagBit ebike 1) ++
    summaryBytes summary

/-- An STL body's values (Table 8-11). -/
structure StlValues where
  member : Nat
  bikeId : Nat
  hireStation : Nat
  start : Nat
  end_ : Nat
  fare : Fare
  reason : Reason
  version : Nat
  newSpend : Nat
  day : Nat
  ebike : Bool
  deriving DecidableEq, Repr

def stlBody (v : StlValues) : List Byte :=
  be4 v.member ++ be4 v.bikeId ++ be2 v.hireStation ++ be4 v.start ++ be4 v.end_ ++ be3 v.fare.code ++
    be1 v.reason.code ++ be2 v.version ++ be3 v.newSpend ++ be2 v.day ++ be1 (flagBit v.ebike 0)

/-- An FLT body; the reporter is present only for a member or crew report (Table 9-6). -/
def fltBody (bikeId cls level : Nat) (source : FaultSource) (post : Nat) (reporter : Option Nat) : List Byte :=
  be4 bikeId ++ be1 cls ++ be1 level ++ be1 source.code ++ be1 post ++
    (match reporter with
     | none => []
     | some r => be4 r)

/-- The classes an FCL may carry: 0 for all, the reports 1..5 and the bike auto faults 8..11 (R185;
DEDUCED for R191's disregarding of others, log 36). -/
def clearableClass (cls : Nat) : Bool := decide (cls ≤ 5) || (decide (8 ≤ cls) && decide (cls ≤ 11))

def fclBody (bikeId cls : Nat) : List Byte := be4 bikeId ++ be1 cls

def lkpBody (member sequence : Nat) : List Byte := be4 member ++ be1 sequence

def mbrBody (e : ViewEntry) : List Byte :=
  be4 e.member ++ be1 e.status.code ++ be1 e.plan ++ be1 e.allowance ++ be1 e.bikesOut ++ be2 e.day ++ be3 e.spend ++
    be1 e.minSequence ++ be4 e.updatedAt

/-- The entry an MBR body carries, when it passes R93's tests other than that of the sender. -/
def mbrOf (body : List Byte) : Option ViewEntry :=
  match memberStatusOf (fieldAt body 4 1) with
  | none => none
  | some status =>
    if decide (body.length = 18) && decide (fieldAt body 0 4 ≠ 0) && decide (fieldAt body 5 1 ≤ 7) &&
        decide (fieldAt body 6 1 ≤ 4) && decide (fieldAt body 7 1 ≤ 15) && decide (fieldAt body 10 3 ≤ 999999) then
      some { member := fieldAt body 0 4, status := status, plan := fieldAt body 5 1, allowance := fieldAt body 6 1,
             bikesOut := fieldAt body 7 1, day := fieldAt body 8 2, spend := fieldAt body 10 3,
             minSequence := fieldAt body 13 1, updatedAt := fieldAt body 14 4 }
    else none

/-- A VOP's values (Table 10-1). -/
structure VopValues where
  serial : Nat
  mode : VanMode
  places : Nat
  crew : Nat
  seconds : Nat
  deriving DecidableEq, Repr

def vopBody (v : VopValues) : List Byte :=
  be1 v.serial ++ be1 v.mode.code ++ be1 v.places ++ be4 v.crew ++ be2 v.seconds

/-- The values a VOP body carries, when it passes R165's tests other than that of the sender. -/
def vopOf (body : List Byte) : Option VopValues :=
  match vanModeOf (fieldAt body 1 1) with
  | none => none
  | some mode =>
    if decide (body.length = 9) && decide (fieldAt body 0 1 ≠ 0) && decide (1 ≤ fieldAt body 2 1) &&
        decide (fieldAt body 2 1 ≤ 12) && decide (fieldAt body 3 4 ≠ 0) && decide (60 ≤ fieldAt body 7 2) &&
        decide (fieldAt body 7 2 ≤ 1800) then
      some { serial := fieldAt body 0 1, mode := mode, places := fieldAt body 2 1, crew := fieldAt body 3 4,
             seconds := fieldAt body 7 2 }
    else none

def vtkBody (serial bikeId crew : Nat) : List Byte := be1 serial ++ be4 bikeId ++ be4 crew

def vclBody (serial : Nat) : List Byte := be1 serial

/-- The BCN flags byte (Table 12-3). -/
def beaconFlags (b : Beacon) : Nat :=
  flagBit b.docked 0 + flagBit b.hireable 1 + flagBit b.vanHold 2 + flagBit b.boltClosed 3

def bcnBody (b : Beacon) : List Byte :=
  be1 b.role ++ be1 b.postState ++ be1 (beaconFlags b) ++ be4 b.bikeId ++ be1 b.bikeFault ++ be1 b.postFault ++
    be4 b.dockedSince ++ be1 b.charge ++ be2 b.tariff ++ be1 b.quality ++ be2 b.stationId

/-- A beacon's fields as received (R29); flag bits not listed are disregarded (R191). -/
def bcnOf (body : List Byte) : Beacon :=
  { role := fieldAt body 0 1, postState := fieldAt body 1 1, docked := flagAt body 2 0, hireable := flagAt body 2 1,
    vanHold := flagAt body 2 2, boltClosed := flagAt body 2 3, bikeId := fieldAt body 3 4,
    bikeFault := fieldAt body 7 1, postFault := fieldAt body 8 1, dockedSince := fieldAt body 9 4,
    charge := fieldAt body 13 1, tariff := fieldAt body 14 2, quality := fieldAt body 16 1,
    stationId := fieldAt body 17 2 }

def timBody (seconds millis : Nat) : List Byte := be4 seconds ++ be2 millis

/-! ### Tariff pieces (Table 12-4) -/

/-- The three bytes of a band. -/
def bandBytes (b : Band) : List Byte := be2 b.start ++ be1 b.cls.code

/-- The 25 bytes of a piece at its index; an absent plan record and the bands beyond the count are zeros (R191). -/
def pieceBytes (index : Nat) : Piece → List Byte
  | .plan none => List.replicate 25 0
  | .plan (some p) =>
    be1 1 ++ be1 index ++ be1 p.freeMinutes ++ be1 p.blockMinutes ++ be2 p.rateA ++ be2 p.rateB ++ be2 p.rateC ++
      be2 p.rateD ++ be2 p.surcharge ++ be3 p.rideCap ++ be3 p.dayCap ++ be3 p.overdueFee ++ be2 p.grace
  | .bands table =>
    be1 table.length ++ (table.flatMap bandBytes ++ List.replicate 24 0).take 24

def trfBody (version index : Nat) (piece : Piece) : List Byte := be2 version ++ be1 index ++ pieceBytes index piece

/-- The plan record of a piece for plan `index`, when it passes R136's tests (Table 8-4). -/
def planPieceOf (index : Nat) (piece : List Byte) : Option Piece :=
  if fieldAt piece 0 1 = 0 then some (.plan none)
  else if decide (fieldAt piece 0 1 = 1) && decide (fieldAt piece 1 1 = index) && decide (fieldAt piece 2 1 ≤ 240) &&
      decide (1 ≤ fieldAt piece 3 1) && decide (fieldAt piece 3 1 ≤ 120) && decide (fieldAt piece 14 3 ≤ 999999) &&
      decide (fieldAt piece 17 3 ≤ 999999) && decide (fieldAt piece 20 3 ≤ 999999) &&
      decide (fieldAt piece 23 2 ≤ 600) then
    some (.plan (some
      { freeMinutes := fieldAt piece 2 1, blockMinutes := fieldAt piece 3 1, rateA := fieldAt piece 4 2,
        rateB := fieldAt piece 6 2, rateC := fieldAt piece 8 2, rateD := fieldAt piece 10 2,
        surcharge := fieldAt piece 12 2, rideCap := fieldAt piece 14 3, dayCap := fieldAt piece 17 3,
        overdueFee := fieldAt piece 20 3, grace := fieldAt piece 23 2 }))
  else none

/-- The first `count` bands of a band table, each with its start and class; none when a class is no class. -/
def bandsOf (piece : List Byte) : Nat → Option (List Band)
  | 0 => some []
  | count + 1 =>
    match bandsOf piece count, bandClassOf (fieldAt piece (3 * count + 3) 1) with
    | some before, some cls => some (before ++ [{ start := fieldAt piece (3 * count + 1) 2, cls := cls }])
    | _, _ => none

/-- The start minutes rise strictly. -/
def bandsRise : List Band → Bool
  | [] => true
  | [_] => true
  | a :: b :: rest => decide (a.start < b.start) && bandsRise (b :: rest)

/-- A band table as R136 tests it: 1..8 bands, the first at minute 0, rising strictly, none above 1,439. -/
def bandTableGood (table : List Band) : Bool :=
  decide (1 ≤ table.length) && decide (table.length ≤ 8) && decide (table.head?.map Band.start = some 0) &&
    bandsRise table && table.all (fun b => decide (b.start ≤ 1439))

/-- The band table of piece 8, when it passes R136's tests. -/
def bandPieceOf (piece : List Byte) : Option Piece :=
  if fieldAt piece 0 1 ≤ 8 then
    match bandsOf piece (fieldAt piece 0 1) with
    | some table => if bandTableGood table then some (.bands table) else none
    | none => none
  else none

/-- A TRF's version, index and piece. -/
structure TrfValues where
  version : Nat
  index : Nat
  piece : Piece
  deriving DecidableEq, Repr

/-- The values a TRF body carries, when it passes R136's tests other than that of the sender. -/
def trfOf (body : List Byte) : Option TrfValues :=
  let index := fieldAt body 2 1
  if decide (body.length = 28) && decide (fieldAt body 0 2 ≠ 0) && decide (index ≤ 8) then
    match (if index = 8 then bandPieceOf (body.drop 3) else planPieceOf index (body.drop 3)) with
    | some piece => some { version := fieldAt body 0 2, index := index, piece := piece }
    | none => none
  else none

/-! ### Tag sections (Tables 5-6, 12-5 and 12-6) -/

/-- R75 on the ID section: format 1, kind CLASSIC or EBIKE, bike id nonzero. -/
def judgeId (bytes : List Byte) : Judged IdSection :=
  match bikeKindOf (fieldAt bytes 4 1) with
  | none => .damaged
  | some kind =>
    if crc8Good bytes 7 && decide (fieldAt bytes 5 1 = 1) && decide (fieldAt bytes 0 4 ≠ 0) then
      .good { bikeId := fieldAt bytes 0 4, kind := kind }
    else .damaged

/-- The fields tested in a HIRE state other than CLOSED (Table 5-6). -/
def hireRangesGood (h : HireSection) : Bool :=
  decide (h.mark = .closed) ||
    ((decide (h.plan ≤ 7) || (decide (h.plan = 15) && decide (h.mark = .van))) &&
      decide (1 ≤ h.startPost) && decide (h.startPost ≤ 30) && decide (h.startSpend ≤ 999999))

/-- R75 on the HIRE section. -/
def judgeHire (bytes : List Byte) : Judged HireSection :=
  match hireMarkOf (fieldAt bytes 0 1) with
  | none => .damaged
  | some mark =>
    let h : HireSection :=
      { mark := mark, member := fieldAt bytes 1 4, plan := fieldAt bytes 5 1, start := fieldAt bytes 6 4,
        startStation := fieldAt bytes 10 2, startPost := fieldAt bytes 12 1, startDay := fieldAt bytes 13 2,
        startSpend := fieldAt bytes 15 3, unverified := flagAt bytes 18 0, endAt := fieldAt bytes 19 4 }
    if crc8Good bytes 23 && hireRangesGood h then .good h else .damaged

/-- R75 on the LAST SETTLEMENT section: a DAMAGED one is held as absent. -/
def judgeLast (bytes : List Byte) : Option LastSection :=
  if crc8Good bytes 11 && decide (fieldAt bytes 0 1 = 1) then
    match fareOf (fieldAt bytes 1 3), reasonOf (fieldAt bytes 4 1) with
    | some fare, some reason =>
      some { fare := fare, reason := reason, endAt := fieldAt bytes 5 4, tariff := fieldAt bytes 9 2 }
    | _, _ => none
  else none

/-- The 5-bit descriptor of an entry: class code, level, source (Table 12-6). -/
def entryDescriptor (e : FaultEntry) : Nat :=
  (if e.cls = 8 then 6 else e.cls) * 4 + (if e.level = 2 then 2 else 0) + (if e.source = .crew then 1 else 0)

/-- The entry a 5-bit descriptor and a reporter give; class codes 0 and 7, and 6 with source 1, give none. -/
def entryOf (d reporter : Nat) : Option FaultEntry :=
  let code := d / 4
  let level := if d.testBit 1 then 2 else 1
  if decide (1 ≤ code) && decide (code ≤ 5) then
    some { cls := code, level := level, source := if d.testBit 0 then .crew else .member, reporter := reporter }
  else if decide (code = 6) && !d.testBit 0 then
    some { cls := 8, level := level, source := .auto, reporter := reporter }
  else none

/-- The descriptor of the entry at `place` (0..3), 0 when there is none. -/
def descriptorAt (entries : List FaultEntry) (place : Nat) : Nat :=
  match entries[place]? with
  | some e => entryDescriptor e
  | none => 0

/-- The reporter of the entry at `place`, 0 when there is none. -/
def reporterAt (entries : List FaultEntry) (place : Nat) : Nat :=
  match entries[place]? with
  | some e => e.reporter
  | none => 0

/-- The FAULTS section's 19 bytes before its check (Tables 12-5 and 12-6). -/
def faultsFields (entries : List FaultEntry) : List Byte :=
  be3 (entries.length * 2 ^ 21 + descriptorAt entries 0 * 2 ^ 15 + descriptorAt entries 1 * 2 ^ 10 +
      descriptorAt entries 2 * 2 ^ 5 + descriptorAt entries 3) ++
    be4 (reporterAt entries 0) ++ be4 (reporterAt entries 1) ++ be4 (reporterAt entries 2) ++ be4 (reporterAt entries 3)

/-- The first `count` entries of a FAULTS section; none when one lies outside the ranges. -/
def faultEntriesOf (bytes : List Byte) : Nat → Option (List FaultEntry)
  | 0 => some []
  | count + 1 =>
    match faultEntriesOf bytes count,
      entryOf (fieldAt bytes 0 3 / 2 ^ (15 - 5 * count) % 32) (fieldAt bytes (3 + 4 * count) 4) with
    | some before, some e => some (before ++ [e])
    | _, _ => none

/-- R75 on the FAULTS section: at most 4 entries, each counted one within the ranges of Table 5-6. -/
def judgeFaults (bytes : List Byte) : Judged (List FaultEntry) :=
  let count := fieldAt bytes 0 3 / 2 ^ 21
  if crc8Good bytes 19 && decide (count ≤ 4) then
    match faultEntriesOf bytes count with
    | some entries => .good entries
    | none => .damaged
  else .damaged

/-- The bytes a section write stores, with the check the tag port computes (R74). -/
def sectionBytes : SectionContents → List Byte
  | .hire h => withCrc8 (hireFields h)
  | .last l => withCrc8 (lastFields l)
  | .faults entries => withCrc8 (faultsFields entries)

/-! ### Card records (Table 12-7, R90) -/

/-- The judgement of a complete record: good with its fields, or unreadable with BAD-CHECK or BAD-FIELD. -/
def cardRecordOf (chars : List Byte) : Except Unreadable CardRecord :=
  if !crc16Good chars 14 then .error .badCheck
  else if fieldAt chars 0 4 = 0 then .error .badField
  else if decide (fieldAt chars 4 1 ≤ 7) || decide (fieldAt chars 4 1 = 15) then
    .ok { member := fieldAt chars 0 4, plan := fieldAt chars 4 1, sequence := fieldAt chars 5 1,
          expiryDay := fieldAt chars 6 2, offline := flagAt chars 8 0 }
  else .error .badField

/-- An even number of 1 bits among the eight data bits and the parity bit is no error (R88). -/
def parityError (c : CardChar) : Bool :=
  c.data.getLsbD 0 ^^ c.data.getLsbD 1 ^^ c.data.getLsbD 2 ^^ c.data.getLsbD 3 ^^ c.data.getLsbD 4 ^^
    c.data.getLsbD 5 ^^ c.data.getLsbD 6 ^^ c.data.getLsbD 7 ^^ c.parity

/-! ### Local port records (12.5, Tables 12-8 and 12-9) -/

/-- The response statuses of Table 11-2. -/
inductive PortStatus where
  | ok | badCheck | refusedRole | refusedRange | refusedState | lineBusy
  deriving DecidableEq, Repr

def PortStatus.code : PortStatus → Nat
  | .ok => 0 | .badCheck => 1 | .refusedRole => 2 | .refusedRange => 3 | .refusedState => 4 | .lineBusy => 5

/-- The requests of Table 11-3. -/
inductive RequestKind where
  | status | peerRead | stationSet | timeSet | tariffLoad | tariffCommit | memberPush | faultClear | vanOpen | vanClose
  | eventRead
  deriving DecidableEq, Repr

/-- The request kind a byte codes (Table 12-8). -/
def requestKindOf : Nat → Option RequestKind
  | 1 => some .status
  | 2 => some .peerRead
  | 3 => some .stationSet
  | 4 => some .timeSet
  | 5 => some .tariffLoad
  | 6 => some .tariffCommit
  | 7 => some .memberPush
  | 8 => some .faultClear
  | 9 => some .vanOpen
  | 10 => some .vanClose
  | 11 => some .eventRead
  | _ => none

/-- A response record. -/
def responseBytes (status : PortStatus) (body : List Byte) : List Byte :=
  withCrc16 (be1 status.code ++ be1 body.length ++ body)

/-- R181's first test: the record is complete, its length is at most 48 and agrees with the byte count, and its
check matches. -/
def requestWellFormed (bytes : List Byte) : Bool :=
  decide (4 ≤ bytes.length) && decide (fieldAt bytes 1 1 ≤ 48) &&
    decide (bytes.length = 4 + fieldAt bytes 1 1) && crc16Good bytes (2 + fieldAt bytes 1 1)

def PeerState.code : PeerState → Nat
  | .absent => 0 | .live => 1 | .silent => 2

/-- The cause codes of WINDOW-CLOSED; a silent van is no cause at a van (R177). -/
def WindowCause.code : WindowCause → Nat
  | .vcl => 0 | .expiry => 1 | .newVop => 2 | .silent => 3

/-- The entry a LOOKUP event carries, zeros when none is held (Table 12-9). -/
def lookupEntryBytes : Option ViewEntry → List Byte
  | none => be1 0 ++ List.replicate 18 0
  | some e => be1 1 ++ mbrBody e

/-- An event's code and data (Table 12-9). -/
def EventBody.code : EventBody → Nat
  | .lookup _ _ _ _ => 1
  | .hire _ _ => 2
  | .settle _ _ => 3
  | .fault _ _ => 4
  | .vanTake _ _ => 5
  | .peerChange _ _ _ => 6
  | .offer _ _ _ _ => 7
  | .windowClosed _ _ _ => 8
  | .heard _ _ _ _ => 9

def EventBody.data : EventBody → List Byte
  | .lookup sender member sequence entry => be1 sender ++ be4 member ++ be1 sequence ++ lookupEntryBytes entry
  | .hire sender body => be1 sender ++ body
  | .settle sender body => be1 sender ++ body
  | .fault sender body => be1 sender ++ body
  | .vanTake sender body => be1 sender ++ body
  | .peerChange station state changed => be1 station ++ be1 state.code ++ be1 (flagBit changed 0)
  | .offer serial station bikeId rank => be1 serial ++ be1 station ++ be4 bikeId ++ be1 rank
  | .windowClosed serial crew cause => be1 serial ++ be4 crew ++ be1 cause.code
  | .heard kind sender serial body => be1 kind.code ++ be1 sender ++ [serial] ++ be1 body.length ++ body

/-- The body of an EVENT-READ response: the events behind, then the event. -/
def eventResponse (behind : Nat) (e : Event) : List Byte :=
  be1 behind ++ be1 e.body.code ++ be4 e.at_.toNat ++ e.body.data

/-- The 19 bytes of a beacon in a PEER-READ response, role FFH while none is held. -/
def peerBeaconBytes : Option Beacon → List Byte
  | none => be1 0xFF ++ List.replicate 18 0
  | some b => bcnBody b

/-- The body of a PEER-READ response (Table 12-8). While heard is absent, which bit 1 of the flags tells, its four bytes
are 00H (DESIGN CHOICE, log 38). -/
def peerReadBody (station : Nat) (p : Peer) : List Byte :=
  be1 station ++ be1 p.state.code ++ be1 (flagBit p.beacon.isSome 0 + flagBit p.heard.isSome 1) ++
    be4 ((p.heard.map BitVec.toNat).getD 0) ++ peerBeaconBytes p.beacon

end Sys2Proof.Machine
end

