-- ==== Sys2Proof/Machine/Flags.lean ====
section
/-! DEFINITION. What is read from the state and stored nowhere: the role and number, conversions to scheme time, the
two fault levels, the hireable flag, the own beacon, the candidates and ranks of a van window, the lamp's row. -/

namespace Sys2Proof.Machine

/-! ### Role and number (R179) -/

def State.role (s : State) : Role := s.straps.role

def State.isPost (s : State) : Bool := decide (s.straps.role = .post)

def State.isTerminal (s : State) : Bool := decide (s.straps.role = .terminal)

def State.isVan (s : State) : Bool := decide (s.straps.role = .van)

/-- The station number (R179). -/
def State.number (s : State) : Nat := strapNumber s.straps

/-- A barred post sends nothing (R20). -/
def State.barred (s : State) : Bool := strapBarred s.straps

/-- POST, TERMINAL and VAN drive the line; MONITOR does not. -/
def State.sends (s : State) : Bool := strapSends s.straps

/-- The bit-time in microseconds (Table 0-3). -/
def State.bitUs (s : State) : Nat := if s.straps.rateHigh then 4 else 16

/-! ### Instants and scheme time (R37, R38, R43) -/

/-- The local instant `later` lies at or after `earlier`, the difference being valid below 2^31 ms (R37). -/
def msReached (earlier later : Ms) : Bool := decide ((later - earlier).toNat < 2 ^ 31)

/-- An instant `us` microseconds later. -/
def Instant.plusUs (i : Instant) (us : Nat) : Instant :=
  { ms := i.ms + BitVec.ofNat 32 ((i.us + us) / 1000), us := (i.us + us) % 1000 }

/-- Microseconds from `earlier` to `later`. -/
def usBetween (earlier later : Instant) : Nat := (later.ms - earlier.ms).toNat * 1000 + later.us - earlier.us

/-- The last scheme ms that can be represented (R38). -/
def lastSchemeMs : Nat := 4294967295999

/-- R38: the scheme ms of a local instant by the base pair, held at the limits. -/
def schemeFrom (base : BasePair) (i : Ms) : Nat :=
  let d := (i - base.localMs).toNat
  if d < 2 ^ 31 then min (base.schemeMs + d) lastSchemeMs else min (base.schemeMs - (2 ^ 32 - d)) lastSchemeMs

/-- The conversion of a local instant while one can be made; undefined (a free value) while UNSET (R43). -/
def Timebase.schemeAt (t : Timebase) (i : Ms) : Nat :=
  match t.base with
  | some base => schemeFrom base i
  | none => Config.undefinedSchemeMs i

/-- The conversion recorded with a stamp: made while SET or STALE, pending while UNSET (R45). -/
def Timebase.stampScheme (t : Timebase) (i : Ms) : SchemeMs :=
  match t.base with
  | some base => .known (schemeFrom base i)
  | none => .pending

/-- The present scheme ms (R43). -/
def State.presentMs (s : State) : Nat := s.time.schemeAt s.clock.ms

/-- The present scheme second (R43). -/
def State.presentSecond (s : State) : Nat := s.presentMs / 1000

/-- Today (R43). -/
def State.today (s : State) : Nat := s.presentSecond / 86400

/-- The minute of day of a scheme second (R43). -/
def minuteOfDay (second : Nat) : Nat := second % 86400 / 60

/-- The time quality is UNSET. -/
def State.timeUnset (s : State) : Bool := decide (s.time.quality = .unset)

/-! ### The tag copy as its readers see it (R76, R86) -/

def State.copyHeld (s : State) : Bool := decide (s.tag.copy.state = .held)

/-- The copy's ID section, when the copy is HELD and it is good. -/
def State.copyId (s : State) : Option IdSection :=
  match s.tag.copy.state, s.tag.copy.id with
  | .held, .good i => some i
  | _, _ => none

/-- The copy's HIRE section, when the copy is HELD and it is good. -/
def State.copyHire (s : State) : Option HireSection :=
  match s.tag.copy.state, s.tag.copy.hire with
  | .held, .good h => some h
  | _, _ => none

/-- The copy's LAST SETTLEMENT section, when the copy is HELD and it reads present. -/
def State.copyLast (s : State) : Option LastSection :=
  match s.tag.copy.state with
  | .held => s.tag.copy.last
  | _ => none

/-- The copy is HELD and its FAULTS section reads DAMAGED. -/
def State.faultsDamaged (s : State) : Bool :=
  match s.tag.copy.state, s.tag.copy.faults with
  | .held, .damaged => true
  | _, _ => false

/-- The copy's FAULTS entries, when the copy is HELD and the section is good. -/
def State.copyFaults (s : State) : List FaultEntry :=
  match s.tag.copy.state, s.tag.copy.faults with
  | .held, .good entries => entries
  | _, _ => []

/-- The tag condition for hire: HELD, ID and HIRE good, HIRE CLOSED or RETURNED (R86). -/
def State.tagCondition (s : State) : Bool :=
  match s.copyId, s.copyHire with
  | some _, some h => decide (h.mark = .closed) || decide (h.mark = .returned)
  | _, _ => false

/-- The bike docked is an e-bike whose ID section reads good (R65). -/
def State.ebikeDocked (s : State) : Bool :=
  s.dock.docked &&
    (match s.copyId with
     | some i => decide (i.kind = .ebike)
     | none => false)

/-! ### Fault levels (R149, R150, R159) -/

/-- An entry of class 8 at level 2 from AUTO (R79, R152). -/
def tagEntry : FaultEntry := { cls := 8, level := 2, source := .auto, reporter := 0 }

/-- The fault unit's working list (R149): its most recent unanswered write, else the copy; a DAMAGED section counts as
one TAG entry. -/
def State.workingList (s : State) : List FaultEntry :=
  if s.faultsDamaged then [tagEntry]
  else
    match s.fault.writes.getLast? with
    | some w => w.entries
    | none => s.copyFaults

/-- Escalation of a report class: two of its entries with nonzero and distinct reporters (R150). -/
def escalated (cls : Nat) (entries : List FaultEntry) : Bool :=
  decide (1 ≤ cls) && decide (cls ≤ 5) &&
    entries.any (fun a => entries.any (fun b =>
      decide (a.cls = cls) && decide (b.cls = cls) && decide (a.reporter ≠ 0) && decide (b.reporter ≠ 0) &&
        decide (a.reporter ≠ b.reporter)))

/-- An entry's level as raised by escalation (R150). -/
def raisedLevel (entries : List FaultEntry) (e : FaultEntry) : Nat := if escalated e.cls entries then 2 else e.level

/-- The greatest level of a list's entries, as raised by escalation; 0 when it has none. -/
def listLevel (entries : List FaultEntry) : Nat := (entries.map (raisedLevel entries)).foldl max 0

/-- The bike fault level (R149). -/
def State.bikeLevel (s : State) : Nat :=
  if s.dock.docked && (decide (s.tag.copy.state = .held) || decide (s.tag.copy.state = .noTag)) then
    max (listLevel s.workingList)
      (max (if s.fault.tagMark then 2 else 0)
        (max (if s.fault.lowCharge then 1 else 0)
          (max (if s.fault.flat then 2 else 0) (if s.fault.duplicate then 2 else 0))))
  else 0

/-- A post fault's level (Table 9-5). -/
def PostFault.level : PostFault → Nat
  | .jam => 2 | .coilOpen => 2 | .coilShort => 2 | .clash => 2
  | .supplyLow => 1 | .reader => 1 | .sensor => 1 | .lamp => 1 | .line => 1 | .idConf => 1

/-- A post fault's FLT class (Table 9-5). -/
def PostFault.cls : PostFault → Nat
  | .jam => 16 | .coilOpen => 17 | .coilShort => 18 | .clash => 19 | .supplyLow => 20 | .reader => 21 | .sensor => 22
  | .lamp => 23 | .line => 24 | .idConf => 25

/-- The post fault level (R159). -/
def State.postLevel (s : State) : Nat := (s.fault.raised.map PostFault.level).foldl max 0

/-- The level of a report class at its reporting (Table 9-1). -/
def reportLevel (cls : Nat) : Nat := if cls = 1 then 2 else 1

/-! ### Analog results (R66, R68) -/

/-- CH0, mA. -/
def coilMilliamps (code : BitVec 10) : Nat := code.toNat * 2500 / 1023

/-- CH1, mV. -/
def batteryMillivolts (code : BitVec 10) : Nat := code.toNat * 50000 / 1023

/-- The charge percent of a CH1 result. -/
def chargePercent (code : BitVec 10) : Nat :=
  if batteryMillivolts code ≤ 30000 then 0 else min 100 ((batteryMillivolts code - 30000) * 100 / 12000)

/-- CH2, mV. -/
def supplyMillivolts (code : BitVec 10) : Nat := code.toNat * 30000 / 1023

/-- CH3, mA. -/
def lampMilliamps (code : BitVec 10) : Nat := code.toNat * 500 / 1023

/-! ### The hireable flag and the own beacon (R23 to R26) -/

/-- The hireable flag (R24). -/
def State.hireable (s : State) : Bool := s.dock.docked && s.tagCondition && decide (s.bikeLevel < 2)

/-- The docked-since field (R25): 0 while not known. -/
def State.dockedSince (s : State) : Nat :=
  match s.dock.docked, s.dock.dockedSince with
  | true, some { scheme := .known ms, .. } => ms / 1000
  | _, _ => 0

/-- The charge percent field (Table 2-1): 255 is not applicable. -/
def State.chargeField (s : State) : Nat :=
  match s.ebikeDocked, s.dock.ch1.last with
  | true, some code => chargePercent code
  | _, _ => 255

/-- The bike id field: that of a good ID section while a bike is docked, else 0. -/
def State.bikeIdField (s : State) : Nat :=
  match s.dock.docked, s.copyId with
  | true, some i => i.bikeId
  | _, _ => 0

/-- The post fault level a terminal or van beacons (R18). -/
def State.lineFaultLevel (s : State) : Nat := if s.line.clash then 2 else if s.line.lineRaised then 1 else 0

/-- A post's beacon (R23, Table 2-1). -/
def State.postBeacon (s : State) : Beacon :=
  { role := roleCode .post, postState := s.hire.state.code, docked := s.dock.docked, hireable := s.hireable,
    vanHold := s.van.hold || s.van.target, boltClosed := decide (s.dock.bolt = .closed), bikeId := s.bikeIdField,
    bikeFault := s.bikeLevel, postFault := s.postLevel, dockedSince := s.dockedSince, charge := s.chargeField,
    tariff := s.settle.active.version, quality := s.time.quality.code, stationId := s.peers.adoptedId }

/-- A terminal's or van's beacon (R26). -/
def State.hostBeacon (s : State) : Beacon :=
  { role := roleCode s.straps.role, postState := HireState.code .idle, docked := false, hireable := false,
    vanHold := false, boltClosed := false, bikeId := 0, bikeFault := 0, postFault := s.lineFaultLevel,
    dockedSince := 0, charge := 255,
    tariff := if s.isTerminal then s.terminal.active.version else 0,
    quality := s.time.quality.code,
    stationId := if s.isTerminal then s.terminal.stationId else s.peers.adoptedId }

/-- The beacon the station would build at this moment. -/
def State.ownBeacon (s : State) : Beacon := if s.isPost then s.postBeacon else s.hostBeacon

/-! ### The peer table as its readers see it (R27) -/

/-- The stored entry of a station number. -/
def State.storedPeer (s : State) (n : Nat) : Peer := s.peers.entries.getD n Peer.absentEntry

/-- Entry `n` is the station's own entry, which a MONITOR does not have. -/
def State.isOwnEntry (s : State) (n : Nat) : Bool := s.sends && decide (n = s.number)

/-- An entry as read: the own entry's beacon fields are built at the reading (R27). -/
def State.peerEntry (s : State) (n : Nat) : Peer :=
  if s.isOwnEntry n then { s.storedPeer n with state := .live, beacon := some s.ownBeacon } else s.storedPeer n

/-- The duplicate-bike condition (R34). -/
def State.duplicateCondition (s : State) : Bool :=
  match s.dock.docked, s.copyId with
  | true, some i =>
    (List.range 32).any (fun n =>
      !s.isOwnEntry n && decide ((s.storedPeer n).state = .live) &&
        (match (s.storedPeer n).beacon with
         | some b => b.docked && decide (b.bikeId = i.bikeId) && decide (b.bikeId ≠ 0)
         | none => false))
  | _, _ => false

/-! ### Van window candidates and ranks (R168, R169, R176) -/

/-- A candidate's ranking keys. -/
structure RankKeys where
  level : Nat
  since : Nat
  station : Nat
  deriving DecidableEq, Repr

/-- The accepted list holds an entry for the station. -/
def VanWindow.accepts (w : VanWindow) (station : Nat) : Bool := w.accepted.any (fun a => decide (a.station = station))

/-- The post itself is a candidate (R168 in COLLECT, R176 in DELIVER). -/
def State.ownCandidate (s : State) (w : VanWindow) : Bool :=
  decide (s.postLevel ≤ 1) && decide (s.hire.state = .idle) && s.dock.selfTest.isNone && !w.accepts s.number &&
    (match w.mode with
     | .collect => s.dock.docked && s.copyHeld && decide (s.dock.bolt = .closed)
     | .deliver => !s.dock.docked)

/-- Peer `n` is a candidate, by the last beacon held for it. -/
def State.peerCandidate (s : State) (w : VanWindow) (n : Nat) : Bool :=
  !s.isOwnEntry n && decide (1 ≤ n) && decide (n ≤ 30) && decide ((s.storedPeer n).state = .live) && !w.accepts n &&
    (match (s.storedPeer n).beacon with
     | none => false
     | some b =>
       decide (b.role = roleCode .post) && decide (b.postFault ≤ 1) &&
         decide (b.postState = HireState.code .idle) &&
         (match w.mode with
          | .collect => b.docked && b.boltClosed
          | .deliver => !b.docked))

/-- The post's own keys, as its own beacon would carry them. -/
def State.ownKeys (s : State) : RankKeys := { level := s.bikeLevel, since := s.dockedSince, station := s.number }

/-- A peer's keys, from its last beacon. -/
def State.peerKeys (s : State) (n : Nat) : RankKeys :=
  match (s.storedPeer n).beacon with
  | some b => { level := b.bikeFault, since := b.dockedSince, station := n }
  | none => { level := 0, since := 0, station := n }

/-- A docked-since of 0 ranks after every nonzero value (R169). -/
def sinceBefore (a b : Nat) : Bool := decide (a ≠ 0) && (decide (b = 0) || decide (a < b))

/-- `a` stands before `b` among the candidates (R169; in DELIVER by station number alone, R176). -/
def ranksBefore (mode : VanMode) (a b : RankKeys) : Bool :=
  match mode with
  | .deliver => decide (a.station < b.station)
  | .collect =>
    decide (a.level > b.level) ||
      (decide (a.level = b.level) &&
        (sinceBefore a.since b.since || (decide (a.since = b.since) && decide (a.station < b.station))))

/-- The post's rank among the candidates; rank 1 is the first. -/
def State.ownRank (s : State) (w : VanWindow) : Nat :=
  1 + ((List.range 32).filter (fun n => s.peerCandidate w n && ranksBefore w.mode (s.peerKeys n) s.ownKeys)).length

/-! ### The lamp (Table 4-4, R63, R64) -/

/-- The bolt is OPENING or HELD. -/
def BoltState.drawn : BoltState → Bool
  | .opening => true
  | .held => true
  | .closed => false
  | .closing => false
  | .jammed => false

/-- A slot in RATING or DONE. -/
def slotWorks : Option Slot → Bool
  | some { phase := .rating _ _, .. } => true
  | some { phase := .done _ _ _, .. } => true
  | _ => false

/-- The condition of order 7: the post is working. -/
def State.working (s : State) : Bool :=
  (match s.hire.state with
   | .idle => false
   | .check => true
   | .lookup => true
   | .claiming => true
   | .tagging => true
   | .releasing => !s.dock.bolt.drawn
   | .cancelling => true) ||
    decide (s.tag.operation ≠ .idle) || slotWorks s.settle.slotA || slotWorks s.settle.slotB

/-- The condition of order 9. -/
def State.readyToHire (s : State) : Bool :=
  s.dock.docked && s.hireable && !s.timeUnset && decide (s.peers.adoptedId ≠ 0)

/-- The phase of the self-test running. -/
def State.testPhase (s : State) : Option SelfTestPhase := s.dock.selfTest.map SelfTest.phase

/-- The first row of Table 4-4 whose condition holds. -/
def State.lampRow (s : State) : LampRow :=
  if (s.dock.release && s.dock.bolt.drawn) || decide (s.testPhase = some .hold) then .releaseGreenFlash
  else if s.dock.refusal.isSome then .refusalRedFlash
  else if s.dock.crewAckAt.isSome then .crewGreenFlash
  else if s.dock.selfTest.isSome then .testAmberFlash
  else if s.postLevel = 2 then .redSteady
  else if s.van.hold || s.van.target then .blueSteady
  else if s.working then .workAmberFlash
  else if s.readyToHire then .greenSteady
  else if s.dock.docked then .amberSteady
  else .off

/-- The lamp is lit: all of a steady pattern, the even phases of a flash, and the first n lit phases of a refusal
display (R64). -/
def State.lampLit (s : State) : Bool :=
  match s.dock.lamp.row with
  | .releaseGreenFlash => decide (s.dock.lamp.phase % 2 = 0)
  | .crewGreenFlash => decide (s.dock.lamp.phase % 2 = 0)
  | .testAmberFlash => decide (s.dock.lamp.phase % 2 = 0)
  | .workAmberFlash => decide (s.dock.lamp.phase % 2 = 0)
  | .refusalRedFlash =>
    decide (s.dock.lamp.phase % 2 = 0) &&
      (match s.dock.refusal with
       | some r => decide (s.dock.lamp.phase < 2 * r.flashes)
       | none => false)
  | .redSteady => true
  | .blueSteady => true
  | .amberSteady => true
  | .greenSteady => true
  | .off => false

/-- A pattern that flashes. -/
def LampRow.flashes : LampRow → Bool
  | .releaseGreenFlash => true
  | .refusalRedFlash => true
  | .crewGreenFlash => true
  | .testAmberFlash => true
  | .workAmberFlash => true
  | .redSteady => false
  | .blueSteady => false
  | .amberSteady => false
  | .greenSteady => false
  | .off => false

/-- The coil is driven at this instant: all of a pull-in, and from the hold's period boundary the first 300 µs of each
1 ms period (R50). -/
def State.coilDriven (s : State) : Bool :=
  match s.dock.coil with
  | .off => false
  | .pullIn => true
  | .hold =>
    match s.dock.holdDutyFrom with
    | some boundary => if msReached boundary s.clock.ms then decide (s.clock.us < 300) else true
    | none => decide (s.clock.us < 300)

/-- The button held test, answered at the local ms `c` of a card capture (R61). -/
def State.buttonHeld (s : State) (c : Ms) : Bool :=
  match s.dock.pressed, s.dock.pressAt with
  | true, some p => decide (2000 ≤ (c - p).toNat) && decide ((c - p).toNat < 2 ^ 31)
  | _, _ => false

/-- The attention output is high exactly while the event queue holds an event (R187). -/
def State.attention (s : State) : Bool := decide (s.port.events ≠ [])

/-- The bits the local port shifted out in the last transaction (R180, R190). -/
def LocalPort.bitsOut (p : LocalPort) : List Bool := portBits p.shiftedOut

/-! ### The line (R1, R7, R12) -/

/-- The level the station drives at this instant, `true` being recessive: that of the present bit-time of the frame in
transmission (R1, R14), and recessive otherwise. -/
def State.lineDriven (s : State) : Bool :=
  match s.line.tx with
  | some t => (frameLevels t.bytes).getD (usBetween t.start s.clock / s.bitUs) true
  | none => true

/-- The entry is the one in transmission. -/
def Line.inTransmission (l : Line) (e : TxEntry) : Bool :=
  match l.tx with
  | some t => decide (t.ref = e.ref)
  | none => false

/-- The turn of a station after a last sender (R12). -/
def turnAfter (number lastSender : Nat) : Nat := (number + 63 - lastSender) % 32

/-- The access wait of a head of this class, in bit-times from the start of quiet (R12). -/
def accessWait (cls number lastSender : Nat) : Nat := (cls * 32 + turnAfter number lastSender) * 4

/-- A frame may be sent: the role sends, the station is not barred and no stuck line is in progress (R12). -/
def State.mayAccess (s : State) : Bool := s.sends && !s.barred && !s.line.stuck

/-- The wait due at this moment: the line quiet, nothing in transmission, a frame queued that may be sent. -/
def State.waitDue (s : State) : Option Nat :=
  match s.line.quiet, s.line.queue with
  | some q, head :: _ =>
    if s.mayAccess && s.line.tx.isNone then some (accessWait head.kind.cls s.number q.lastSender) else none
  | _, _ => none

/-- A TIM is queued outside transmission (R183). -/
def State.timQueued (s : State) : Bool :=
  s.line.queue.any (fun e => decide (e.kind = .tim) && !s.line.inTransmission e)

/-- The tag port's rewrite of a DAMAGED FAULTS section is waiting or running (R79). -/
def State.rewritePending (s : State) : Bool :=
  s.tag.requests.any (fun r => decide (r.requester = .tagPort)) ||
    (match s.tag.operation with
     | .write r _ _ _ _ => decide (r.requester = .tagPort)
     | _ => false)

/-- A slot is in RATING. -/
def slotRating : Option Slot → Bool
  | some { phase := .rating _ _, .. } => true
  | _ => false

/-- A tariff holds all nine pieces (R137). -/
def Tariff.complete (t : Tariff) : Bool := (List.range 9).all (fun k => decide ((t.pieces.getD k none) ≠ none))

/-- The plan record of a tariff for a plan, when the tariff is held and the record is present. -/
def Tariff.planRecord (t : Tariff) (plan : Nat) : Option PlanRecord :=
  match decide (t.version ≠ 0), t.pieces.getD plan none with
  | true, some (.plan record) => record
  | _, _ => none

/-- The band table of a tariff. -/
def Tariff.bandTable (t : Tariff) : List Band :=
  match t.pieces.getD 8 none with
  | some (.bands table) => table
  | _ => []

end Sys2Proof.Machine
end

