-- ==== Sys2Proof/Machine/Ops.lean ====
section
/-! DEFINITION. The named operations every block shares: the clock, the capture slots, the transmit queue and its
access, the own offer's evaluation, the raising of faults, the tag port's request list, the fault list, and the
conclusion of a step. -/

namespace Sys2Proof.Machine

/-! ### The clock (R37) -/

/-- The expiry of a timer is taken at its instant: a clock that has not reached it is brought to it, and one that has
stays (log 2). -/
def State.reachMs (due : Ms) (s : State) : State :=
  if msReached due s.clock.ms then s else { s with clock := { ms := due, us := 0 } }

/-- The same for an instant finer than a millisecond. -/
def State.reachInstant (due : Instant) (s : State) : State :=
  if due.ms = s.clock.ms then { s with clock := { ms := due.ms, us := max due.us s.clock.us } }
  else if msReached due.ms s.clock.ms then s
  else { s with clock := due }

/-- One microsecond passes; the local counter advances when a thousand have (R37, log 3). -/
def State.tick (s : State) : State :=
  if s.clock.us + 1 < 1000 then { s with clock := { s.clock with us := s.clock.us + 1 } }
  else { s with clock := { ms := s.clock.ms + 1, us := 0 } }

/-! ### Capture slots (R45, R46) -/

/-- The slot of a capture source. -/
def Timebase.slot (t : Timebase) : CaptureSource → Option Capture
  | .boltClosed => t.boltClosed
  | .boltOpen => t.boltOpen
  | .mouthIn => t.mouthIn
  | .mouthOut => t.mouthOut
  | .button => t.button
  | .card => t.card

/-- The slot of a capture source replaced. -/
def Timebase.setSlot (t : Timebase) (source : CaptureSource) (c : Option Capture) : Timebase :=
  match source with
  | .boltClosed => { t with boltClosed := c }
  | .boltOpen => { t with boltOpen := c }
  | .mouthIn => { t with mouthIn := c }
  | .mouthOut => { t with mouthOut := c }
  | .button => { t with button := c }
  | .card => { t with card := c }

/-- A capture source reports its event: its slot is stamped with the present local ms, replacing what it held (R45). -/
def State.stamp (source : CaptureSource) (s : State) : State :=
  { s with
    time := s.time.setSlot source
      (some { ms := s.clock.ms, scheme := s.time.stampScheme s.clock.ms, startUp := false }) }

/-- A consumer empties the slot (R46); it reads what the slot held before. -/
def State.consume (source : CaptureSource) (s : State) : State := { s with time := s.time.setSlot source none }

/-! ### The transmit queue (R7 to R9, R19, R20) -/

/-- The entry's place: after every entry of its class or a lower class number (R7). -/
def insertEntry (e : TxEntry) (queue : List TxEntry) : List TxEntry :=
  queue.takeWhile (fun x => decide (x.kind.cls ≤ e.kind.cls)) ++
    e :: queue.dropWhile (fun x => decide (x.kind.cls ≤ e.kind.cls))

/-- The queue without the entry of this reference. -/
def removeEntry (ref : Nat) (queue : List TxEntry) : List TxEntry := queue.filter (fun e => decide (e.ref ≠ ref))

/-- The queue with the body of one entry replaced. -/
def replaceBody (ref : Nat) (body : List Byte) (queue : List TxEntry) : List TxEntry :=
  queue.map (fun e => if e.ref = ref then { e with body := body } else e)

/-- The entry a newer frame of class `cls` displaces from a full queue: the newest of the highest class number above
its own that is not in transmission (R8). The queue is in class order, oldest first, so it is the last such entry. -/
def Line.displaceable (l : Line) (cls : Nat) : Option TxEntry :=
  (l.queue.filter (fun e => decide (cls < e.kind.cls) && !l.inTransmission e)).getLast?

/-- The beacon in the queue, of which there is at most one (R7). -/
def Line.queuedBeacon (l : Line) : Option TxEntry := l.queue.find? (fun e => decide (e.kind = .bcn))

/-- How long a queued frame may wait (R10). -/
def deadlineMs (kind : Kind) : Ms := if kind.cls = 0 then 1000 else 5000

/-- A new entry for a frame offered now. -/
def State.newEntry (s : State) (kind : Kind) (body : List Byte) : TxEntry :=
  { kind := kind, body := body, ref := s.line.nextRef, queuedAt := s.clock.ms,
    deadline := s.clock.ms + deadlineMs kind }

/-- A frame is queued where there is room or an entry to displace; otherwise it is refused (R8). The displaced owner
is answered "line busy"; no owner of a class 1 or 2 frame acts on that answer. -/
def State.enqueue (kind : Kind) (body : List Byte) (s : State) : State × Option Nat :=
  if s.line.queue.length < 8 then
    ({ s with
       line := { s.line with
         queue := insertEntry (s.newEntry kind body) s.line.queue
         nextRef := s.line.nextRef + 1 } }, some s.line.nextRef)
  else
    match s.line.displaceable kind.cls with
    | some e =>
      ({ s with
         line := { s.line with
           queue := insertEntry (s.newEntry kind body) (removeEntry e.ref s.line.queue)
           nextRef := s.line.nextRef + 1 } }, some s.line.nextRef)
    | none => (s, none)

/-- Offered frames that are refused whatever the queue holds: at a MONITOR, at a barred post, and of class 0 under a
clash mark (R19, R20). -/
def State.refusesOffer (s : State) (kind : Kind) : Bool :=
  !s.sends || s.barred || (s.line.clash && decide (kind.cls = 0))

/-- A block offers a frame (R8, R9). The second component is the reference it is queued with, or `none` for "line
busy" at once. -/
def State.offer (kind : Kind) (body : List Byte) (s : State) : State × Option Nat :=
  if s.refusesOffer kind then (s, none)
  else if kind = .bcn then
    match s.line.queuedBeacon with
    | some e =>
      if s.line.inTransmission e then ({ s with line := { s.line with heldBeacon := some body } }, some e.ref)
      else ({ s with line := { s.line with queue := replaceBody e.ref body s.line.queue } }, some e.ref)
    | none => s.enqueue kind body
  else s.enqueue kind body

/-- An offer whose owner acts on no answer. -/
def State.send (kind : Kind) (body : List Byte) (s : State) : State := (s.offer kind body).1

/-! ### Access (R12 to R14, R183) -/

/-- The body the head is sent with: a TIM is filled at its attempt with the scheme time at which its last stop bit
ends, to the whole millisecond of the frame's duration (R183). -/
def State.bodyAtAttempt (s : State) (e : TxEntry) : List Byte :=
  if e.kind = .tim then
    let at_ := s.time.schemeAt (s.clock.ms + (if s.straps.rateHigh then 0 else 2))
    timBody (at_ / 1000) (at_ % 1000)
  else e.body

/-- The head frame starts: it gets the present serial and its check, its start bit ends the quiet, and its entry is in
transmission until the attempt ends (R14). -/
def State.startTransmission (s : State) : State :=
  match s.line.queue with
  | [] => s
  | e :: _ =>
    let body := s.bodyAtAttempt e
    { s with
      line := { s.line with
        queue := replaceBody e.ref body s.line.queue
        tx := some { ref := e.ref, bytes := frameBytes e.kind s.number s.line.serial body, start := s.clock }
        quiet := none
        wait := none
        recessiveSince := none
        charEndsAt := none } }

/-- The wait in progress has elapsed, measured from the start of the present quiet. -/
def State.waitElapsed (s : State) (bits : Nat) : Bool :=
  match s.line.quiet with
  | some q => decide (bits * s.bitUs ≤ usBetween q.start s.clock)
  | none => false

/-- After any step, the access wait follows the head: a wait that is newly due or has changed starts, measured from the
same start of quiet, or gives way to the transmission when it has already elapsed; a wait no longer due ends (R13). -/
def State.followHead (s : State) : State :=
  match s.waitDue with
  | none => { s with line := { s.line with wait := none } }
  | some bits =>
    if s.line.wait = some bits then s
    else if s.waitElapsed bits then s.startTransmission
    else { s with line := { s.line with wait := some bits } }

/-! ### The own offer (R170, R171) -/

/-- The OFR was answered "line busy": the own offer returns to NONE and the retry timer starts (R171). -/
def State.ofrBusy (s : State) : State :=
  { s with van := { s.van with offer := .none_, retryAt := some (s.clock.ms + 500) } }

/-- The bike id an OFR carries (R170). -/
def State.offerBike (s : State) (w : VanWindow) : Nat :=
  match w.mode with
  | .collect => (s.copyId.map IdSection.bikeId).getD 0
  | .deliver => 0

/-- The post evaluates its offer on the state as it stands (R170). -/
def State.evaluateOffer (s : State) : State :=
  match s.van.window, s.van.offer with
  | some w, .none_ =>
    if s.isPost && decide (w.accepted.length < w.places) && s.ownCandidate w &&
        decide (s.ownRank w ≤ w.places - w.accepted.length) then
      match s.offer .ofr (ofrBody w.serial (s.offerBike w) (s.ownRank w)) with
      | (s, some ref) => { s with van := { s.van with offer := .queued, offerRef := ref, voidMark := false } }
      | (s, none) => s.ofrBusy
    else s
  | _, _ => s

/-- A change of the hire state, the bike docked flag, the bolt state or one of the fault levels (R170). -/
def evaluationCaused (before after : State) : Bool :=
  decide (before.hire.state ≠ after.hire.state) || decide (before.dock.docked ≠ after.dock.docked) ||
    decide (before.dock.bolt ≠ after.dock.bolt) || decide (before.bikeLevel ≠ after.bikeLevel) ||
    decide (before.postLevel ≠ after.postLevel)

/-- A change from `before` is done, and the post evaluates its offer when it is one of R170's causes (log 11). It stands
at every change of a state the five conditions are read from, but for a hire state other than IDLE and a pull-in's
OPENING, after which the post is no candidate and an evaluation offers nothing. -/
def State.evaluateSince (s before : State) : State := if evaluationCaused before s then s.evaluateOffer else s

/-! ### Faults raised and cleared (R151, R159, R161) -/

/-- The FLT of a bike auto fault (Table 9-6). -/
def State.offerAutoFlt (cls level : Nat) (s : State) : State :=
  s.send .flt (fltBody ((s.copyId.map IdSection.bikeId).getD 0) cls level .auto s.number none)

/-- A post fault is reported raised: held, with one FLT, when it was not (R159). Only a post has the fault unit. -/
def State.raisePost (f : PostFault) (s : State) : State :=
  if s.isPost && !decide (f ∈ s.fault.raised) then
    ({ s with fault := { s.fault with raised := s.fault.raised ++ [f] } }.send .flt
      (fltBody 0 f.cls f.level .auto s.number none)).evaluateSince s
  else s

/-- A post fault is reported cleared; no FLT (R159). -/
def State.clearPost (f : PostFault) (s : State) : State :=
  { s with fault := { s.fault with raised := s.fault.raised.filter (fun g => decide (g ≠ f)) } }.evaluateSince s

/-- LOW-CHARGE is raised (R68, R151). -/
def State.raiseLowCharge (s : State) : State :=
  if s.fault.lowCharge then s
  else ({ s with fault := { s.fault with lowCharge := true } }.offerAutoFlt 9 1).evaluateSince s

/-- FLAT is raised (R68, R151). -/
def State.raiseFlat (s : State) : State :=
  if s.fault.flat then s
  else ({ s with fault := { s.fault with flat := true } }.offerAutoFlt 10 2).evaluateSince s

/-- DUPLICATE is raised (R35, R151). -/
def State.raiseDuplicate (s : State) : State :=
  if s.fault.duplicate then s
  else ({ s with fault := { s.fault with duplicate := true } }.offerAutoFlt 11 2).evaluateSince s

/-! ### The LINE condition and the bad-frame record (R17, R18) -/

/-- LINE is raised at local ms `at_`, from which its clearing count runs; while a stuck line lasts the count does not run
(R18). -/
def State.raiseLine (at_ : Ms) (s : State) : State :=
  { s with
    line := { s.line with
      lineRaised := true
      lineClearAt := if s.line.stuck then none else some (at_ + 60000) } }.raisePost .line

/-- The record after a bad frame: at most 21 entries, the oldest removed first (R18). -/
def appendBadFrame (record : List Ms) (at_ : Ms) : List Ms := (record ++ [at_]).drop (record.length + 1 - 21)

/-- An excess: 21 entries, the newest no more than 60,000 ms after the oldest (R18). -/
def badFrameExcess (record : List Ms) : Bool :=
  match decide (record.length = 21), record.head?, record.getLast? with
  | true, some oldest, some newest => decide ((newest - oldest).toNat ≤ 60000)
  | _, _, _ => false

/-- A bad frame at local ms `at_`; a MONITOR runs no line-fault mechanism (chapter 1, log 8). -/
def State.badFrame (at_ : Ms) (s : State) : State :=
  if s.sends then
    let s := { s with line := { s.line with badFrames := appendBadFrame s.line.badFrames at_ } }
    if badFrameExcess s.line.badFrames then s.raiseLine at_ else s
  else s

/-! ### Events (R187) -/

/-- A cause of Table 11-4: the event is appended, or dropped with the overflow mark when 64 are held. A STATUS response
waiting to be read remembers a drop (R182). -/
def State.appendEvent (e : Event) (s : State) : State :=
  if s.port.events.length < 64 then { s with port := { s.port with events := s.port.events ++ [e] } }
  else
    { s with
      port := { s.port with
        overflow := true
        response := s.port.response.map (fun r =>
          match r.carried with
          | .status _ => { r with carried := .status true }
          | .nothing => r
          | .event => r) } }

/-! ### The lamp's displays (R64) -/

/-- The refusal display RED flash × n is asked for; a display shown starts again. -/
def State.showRefusal (group : Nat) (s : State) : State :=
  { s with
    dock := { s.dock with
      refusal := some { flashes := group, endAt := s.clock.ms + 3000 }
      lamp := if s.dock.lamp.row = .refusalRedFlash then { row := .off, phase := 0, phaseAt := none } else s.dock.lamp } }

/-- The crew acknowledgement is asked for; its time starts again. -/
def State.showCrewAck (s : State) : State := { s with dock := { s.dock with crewAckAt := some (s.clock.ms + 1000) } }

/-- The lamp shows the first row whose condition holds; a changed choice starts from its beginning (R63). -/
def State.chooseLamp (s : State) : State :=
  if s.isPost && !decide (s.lampRow = s.dock.lamp.row) then
    { s with
      dock := { s.dock with
        lamp := { row := s.lampRow, phase := 0,
                  phaseAt := if s.lampRow.flashes then some (s.clock.ms + 200) else none } } }
  else s

/-! ### The tag port's request list (R81) -/

/-- Whether two contents name the same section. -/
def SectionContents.sameSection : SectionContents → SectionContents → Bool
  | .hire _, .hire _ => true
  | .last _, .last _ => true
  | .faults _, .faults _ => true
  | .hire _, .last _ => false
  | .hire _, .faults _ => false
  | .last _, .hire _ => false
  | .last _, .faults _ => false
  | .faults _, .hire _ => false
  | .faults _, .last _ => false

/-- The answer a write request gets at once (Table 5-8): entered in the list with its reference, or refused. -/
inductive RequestReply where
  | listed (ref : Nat)
  | noBike
  | busy
  deriving DecidableEq, Repr

/-- When no operation is in progress and the copy is HELD or NO-TAG, the head of the list leaves it and its write
begins (R81). -/
def State.beginWrite (s : State) : State :=
  match s.tag.operation, s.tag.requests with
  | .idle, r :: rest =>
    if decide (s.tag.copy.state = .held) || decide (s.tag.copy.state = .noTag) then
      { s with tag := { s.tag with operation := .write r false false false s.clock.ms, requests := rest } }
    else s
  | _, _ => s

/-- The requester of a superseded request forgets it: the settlement unit's record of a RETURNED write ends with any
answer (R127), and the fault unit's later request carries the change (R153). -/
def State.forgetWrite (ref : Nat) (s : State) : State :=
  { s with
    settle := { s.settle with returned := s.settle.returned.filter (fun r => decide (r.ref ≠ ref)) }
    fault := { s.fault with writes := s.fault.writes.filter (fun w => decide (w.ref ≠ ref)) } }

/-- A write request (R81): refused NO-BIKE while the copy is EMPTY; in the place of the same requester's waiting
request for the section, which is SUPERSEDED; refused BUSY behind another requester's; else at the end of the list. -/
def State.requestWrite (contents : SectionContents) (requester : Requester) (s : State) : State × RequestReply :=
  if s.tag.copy.state = .empty then (s, .noBike)
  else
    let request : WriteRequest := { contents := contents, requester := requester, ref := s.tag.nextRef }
    match s.tag.requests.find? (fun r => r.contents.sameSection contents) with
    | some waiting =>
      if waiting.requester = requester then
        let replaced : State :=
          { s with
            tag := { s.tag with
              requests := s.tag.requests.map (fun r => if r.contents.sameSection contents then request else r)
              nextRef := s.tag.nextRef + 1 } }
        ((replaced.forgetWrite waiting.ref).beginWrite, .listed s.tag.nextRef)
      else (s, .busy)
    | none =>
      let appended : State :=
        { s with tag := { s.tag with requests := s.tag.requests ++ [request], nextRef := s.tag.nextRef + 1 } }
      (appended.beginWrite, .listed s.tag.nextRef)

/-- A waiting request is withdrawn without an answer (R81). -/
def State.withdrawWrite (ref : Nat) (s : State) : State :=
  { s with tag := { s.tag with requests := s.tag.requests.filter (fun r => decide (r.ref ≠ ref)) } }

/-- The copy takes the contents written (R82). -/
def State.copyWritten (contents : SectionContents) (s : State) : State :=
  match contents with
  | .hire h => { s with tag := { s.tag with copy := { s.tag.copy with hire := .good h } } }
  | .last l => { s with tag := { s.tag with copy := { s.tag.copy with last := l } } }
  | .faults entries =>
    let copied : State := { s with tag := { s.tag with copy := { s.tag.copy with faults := .good entries } } }
    copied.evaluateSince s

/-! ### The fault list (R152 to R154) -/

/-- The lowest stored level of a list. -/
def lowestLevel (entries : List FaultEntry) : Nat := (entries.map FaultEntry.level).foldl min 2

/-- The list without its oldest entry of a level. -/
def removeOldest (level : Nat) : List FaultEntry → List FaultEntry
  | [] => []
  | e :: rest => if e.level = level then rest else e :: removeOldest level rest

/-- A new entry placed in the list (R154), or `none` when it is dropped from the tag. -/
def placeEntry (entries : List FaultEntry) (e : FaultEntry) : Option (List FaultEntry) :=
  if entries.length < 4 then some (entries ++ [e])
  else if lowestLevel entries ≤ e.level then some (removeOldest (lowestLevel entries) entries ++ [e])
  else none

/-- A change applied to a list, or `none` when it changes nothing (R153, R154, R158). -/
def applyChange (entries : List FaultEntry) : FaultChange → Option (List FaultEntry)
  | .add e => placeEntry entries e
  | .remove cls =>
    if entries.any (fun e => decide (cls = 0) || decide (e.cls = cls)) then
      some (entries.filter (fun e => !(decide (cls = 0) || decide (e.cls = cls))))
    else none

/-- The fault unit requests the list written whole, and counts it from then on (R149, R153). -/
def State.requestFaults (entries : List FaultEntry) (s : State) : State :=
  match s.requestWrite (.faults entries) .fault with
  | (t, .listed ref) =>
    let counted : State :=
      { t with fault := { t.fault with writes := t.fault.writes ++ [{ ref := ref, entries := entries }] } }
    counted.evaluateSince s
  | (s, .noBike) => s
  | (s, .busy) => s

/-- A change of the fault list: requested on the working list, deferred while a DAMAGED section waits for its rewrite,
discarded after that rewrite failed (R153). -/
def State.changeFaults (change : FaultChange) (s : State) : State :=
  if s.faultsDamaged then
    if s.rewritePending then { s with fault := { s.fault with deferred := s.fault.deferred ++ [change] } } else s
  else
    match applyChange s.workingList change with
    | some entries => s.requestFaults entries
    | none => s

/-- The fault unit asks for a TAG entry on the tag when R152's three conditions hold. -/
def State.askTagEntry (faultsWriteFailed : Bool) (s : State) : State :=
  if s.copyHeld && (!s.faultsDamaged || s.rewritePending) && !faultsWriteFailed &&
      !s.workingList.any (fun e => decide (e.cls = 8)) then
    s.changeFaults (.add tagEntry)
  else s

/-- A TAG report (R152): the held TAG mark is set, with an FLT when it was clear, and a TAG entry is asked for. -/
def State.tagReport (faultsWriteFailed : Bool) (s : State) : State :=
  let marked :=
    if s.fault.tagMark then s
    else ({ s with fault := { s.fault with tagMark := true } }.offerAutoFlt 8 2).evaluateSince s
  marked.askTagEntry faultsWriteFailed

/-- The deferred changes applied in order; `none` when none of them changed the list. -/
def applyDeferred (entries : List FaultEntry) : List FaultChange → Option (List FaultEntry)
  | [] => none
  | change :: rest =>
    match applyChange entries change with
    | some changed => some ((applyDeferred changed rest).getD changed)
    | none => applyDeferred entries rest

/-- The tag port's rewrite is answered (R79, R153): after WRITTEN the deferred changes go onto the rewritten list as one
write; after a failure they are discarded. -/
def State.rewriteAnswered (written : Bool) (s : State) : State :=
  let changes := s.fault.deferred
  let s := { s with fault := { s.fault with deferred := [] } }
  if written then
    match applyDeferred s.workingList changes with
    | some entries => s.requestFaults entries
    | none => s
  else s

/-! ### The conclusion of a step -/

/-- The conclusion of every step: the access wait, then the lamp (log 11). -/
def conclude (s : State) : State := s.followHead.chooseLamp

/-- A command's answer: the next state, concluded. -/
def answerNext (s : State) : Host.Outcome State Fault Refusal := .next (conclude s)

end Sys2Proof.Machine
end

