-- ==== Sys2Proof/Machine/HireOps.lean ====
section
/-! DEFINITION. The hire controller with the bolt, the docked bike's leaving and the van takes it decides: what a hire
does on each report of the dock mechanism, the tag port and the line controller (chapters 4, 7 and 10). -/

namespace Sys2Proof.Machine

/-! ### Ends of a hire (R106, R114, R118, R119) -/

/-- The hire record is discarded and the state becomes IDLE. -/
def State.hireIdle (s : State) : State :=
  let idle : State := { s with hire := { s.hire with state := .idle, record := none } }
  idle.evaluateSince s

/-- The hire record changed by `f`, when there is one. -/
def State.onRecord (f : HireRecord → HireRecord) (s : State) : State :=
  { s with hire := { s.hire with record := s.hire.record.map f } }

/-- The hire in progress is a member hire. -/
def State.memberHire (s : State) : Bool :=
  match s.hire.record with
  | some r => decide (r.kind = .member)
  | none => false

/-- A WDR withdraws a claim (R114). -/
def State.offerWdr (serial : BitVec 8) (member : Nat) (s : State) : State := s.send .wdr (wdrBody serial member)

/-- The WDR of the hire in progress, when it is a member hire whose CLM was sent (R114). -/
def State.withdrawClaim (s : State) : State :=
  match s.hire.record with
  | some { kind := .member, claim := some c, card := card, .. } => s.offerWdr c.serial card.member
  | _ => s

/-- A hire is refused with a refusal group (R106). -/
def State.refuse (group : Nat) (s : State) : State := (s.showRefusal group).hireIdle

/-- A hire is refused with a WDR (R113, R116). -/
def State.refuseWithdrawing (group : Nat) (s : State) : State := s.withdrawClaim.refuse group

/-- The VTK of a van take (R174, R175). -/
def State.offerVtk (serial bikeId crew : Nat) (s : State) : State := s.send .vtk (vtkBody serial bikeId crew)

/-- The HIR of a member take (R119, Table 7-7). -/
def State.offerHir (r : HireRecord) (s : State) : State :=
  match r.claim, r.written, r.bike with
  | some c, some h, some b =>
    s.send .hir (hirBody c.serial r.card.member b.bikeId h.start h.plan h.unverified (decide (b.kind = .ebike)) r.summary)
  | _, _, _ => s

/-- The notice a take gives: HIR for a member hire, VTK with the hold serial for a crew release (R118, R174). -/
def State.announceTake (r : HireRecord) (s : State) : State :=
  match r.kind with
  | .member => s.offerHir r
  | .crew =>
    match r.bike, r.written with
    | some b, some h => s.offerVtk s.van.holdSerial b.bikeId h.member
    | _, _ => s

/-- The release ends in a take (R118). -/
def State.hireTakes (s : State) : State :=
  match s.hire.record with
  | some r => (s.announceTake r).hireIdle
  | none => s

/-! ### The bike leaves (R58, R83, R163, R173) -/

/-- A HIRE write of the hire in progress ends FAILED LEFT: in TAGGING the hire is refused (R116), in CANCELLING the
release ends in a take (R122). Answers the hire no longer waits for are disregarded (R124). -/
def State.hireWriteLeft (ref : Nat) (s : State) : State :=
  match s.hire.record with
  | some r =>
    if r.writeRef = some ref then
      match s.hire.state with
      | .tagging => s.refuseWithdrawing 3
      | .cancelling => s.hireTakes
      | .idle => s
      | .check => s
      | .lookup => s
      | .claiming => s
      | .releasing => s
    else s
  | none => s

/-- One write ended by the bike leaving is answered FAILED LEFT. -/
def State.writeLeft (s : State) (r : WriteRequest) : State :=
  if r.requester = .hire then s.hireWriteLeft r.ref else s

/-- The write in progress, if the operation is one. -/
def TagOperation.writeRequest : TagOperation → Option WriteRequest
  | .write r _ _ _ _ => some r
  | .idle => none
  | .readSet _ _ _ _ => none

/-- The writes outstanding: the one in progress, then those waiting, in list order (R83). -/
def State.outstandingWrites (s : State) : List WriteRequest := s.tag.operation.writeRequest.toList ++ s.tag.requests

/-- The dock mechanism's own part of a bike leaving (R58). -/
def State.dockLeaves (s : State) : State :=
  { s.consume .mouthOut with
    dock := { s.dock with docked := false, noise := 0, dockedSince := none, ch1 := { last := none, fresh := false } } }

/-- The tag port's part: the operation stops, the list empties and the copy is EMPTY (R83). -/
def State.tagLeaves (s : State) : State :=
  { s with
    tag := { s.tag with operation := .idle, requests := [], copy := TagCopy.none_, docking := none }
    settle := { s.settle with returned := [] } }

/-- The fault unit's part (R163). -/
def State.faultLeaves (s : State) : State :=
  { s with
    fault := { s.fault with
      tagMark := false, lowCharge := false, flat := false, duplicate := false, writes := [], deferred := [],
      window := none } }

/-- The duplicate-bike check's part (R35). -/
def State.duplicateLeaves (s : State) : State :=
  { s with peers := { s.peers with duplicate := false, duplicateHoldAt := none } }

/-- The own offer is QUEUED in an open window of this mode. -/
def State.offerQueuedIn (s : State) (mode : VanMode) : Bool :=
  match s.van.window with
  | some w => decide (w.mode = mode) && decide (s.van.offer = .queued)
  | none => false

/-- The van window unit's part: van hold ends, and a QUEUED offer of a COLLECT window is void (R171, R173). -/
def State.vanLeaves (s : State) : State :=
  { s with van := { s.van with hold := false, voidMark := s.van.voidMark || s.offerQueuedIn .collect } }

/-- The settle procedure is running: RELEASING with its timer (R121). -/
def State.settling (s : State) : Bool :=
  decide (s.hire.state = .releasing) && (s.hire.record.bind HireRecord.settleAt).isSome

/-- The docked bike leaves (R58): every block that depends on it is told, each seeing the flag already clear. The leaving
is one change with one evaluation, and the writes it ends are answered after it (R83; DESIGN CHOICE, log 41). -/
def State.bikeLeaves (s : State) : State :=
  if s.dock.docked then
    let writes := s.outstandingWrites
    let left := (s.dockLeaves.tagLeaves.faultLeaves.duplicateLeaves.vanLeaves).evaluateSince s
    let answered := writes.foldl State.writeLeft left
    if answered.settling then answered.hireTakes else answered
  else s

/-- The bike is treated as taken: the take ends the release, and the dock mechanism marks the bike left (R118). -/
def State.treatAsTaken (s : State) : State := s.hireTakes.bikeLeaves

/-! ### Cancelling (R122) -/

/-- A cancel whose restoring write is over without a bike (R122). -/
def State.cancelOver (s : State) : State := s.withdrawClaim.hireIdle

/-- The hire enters CANCELLING: the prior HIRE is requested written back, and a refusal group asks for its display
(R122). -/
def State.enterCancelling (group : Option Nat) (s : State) : State :=
  let shown :=
    match group with
    | some n => s.showRefusal n
    | none => s
  let s := { shown with hire := { shown.hire with state := .cancelling } }.onRecord (fun r => { r with settleAt := none })
  match s.hire.record.bind HireRecord.prior with
  | none => s.cancelOver
  | some prior =>
    match s.requestWrite (.hire prior) .hire with
    | (s, .listed ref) => s.onRecord (fun r => { r with writeRef := some ref })
    | (s, .noBike) => s.hireTakes
    | (s, .busy) => s.cancelOver

/-! ### The settle procedure (R120, R121) -/

/-- A NO-TAKE or an abort starts the settle procedure with the count carried. -/
def State.startSettle (s : State) : State :=
  if s.dock.count = 0 then s.treatAsTaken
  else s.onRecord (fun r => { r with settleAt := some (s.clock.ms + 2000) })

/-- SEATED during the settle procedure: a count of 6 or more cancels the hire. -/
def State.hireSeated (s : State) : State :=
  if s.settling && decide (6 ≤ s.dock.count) then s.enterCancelling none else s

/-! ### The bolt (R50 to R55, R71) -/

/-- The coil goes OFF and every timer of the release or self-test pull-in is cancelled. -/
def Dock.coilOff (d : Dock) : Dock :=
  { d with coil := .off, holdDutyFrom := none, pullInEndAt := none, ch0At := none, openCheckAt := none,
           takeWindowAt := none, holdEndAt := none }

/-- A pull-in starts: the one-shot is reloaded in full, and its timers run from this instant (R50, R51, R70). -/
def Dock.startPullIn (d : Dock) (now : Ms) (takeWindow : Bool) : Dock :=
  { d with
    bolt := .opening, coil := .pullIn, holdDutyFrom := none, seenOpen := d.sensorOpen, pullIns := d.pullIns + 1,
    pullInEndAt := some (now + 80), ch0At := some (now + 40), openCheckAt := some (now + 150),
    takeWindowAt := if takeWindow then some (now + 20000) else none,
    closeCheckAt := none, pushAsideAt := none, holdEndAt := none }

/-- The bolt enters CLOSING with its close check (R54). -/
def State.enterClosing (s : State) : State :=
  let closing : State := { s with dock := { s.dock.coilOff with bolt := .closing, closeCheckAt := some (s.clock.ms + 300) } }
  closing.evaluateSince s

/-- The self-test ends, upon which the post evaluates its offer (R71, R170). -/
def State.endSelfTest (s : State) : State :=
  match s.dock.selfTest with
  | some _ => { s with dock := { s.dock with selfTest := none, holdEndAt := none } }.evaluateOffer
  | none => s

/-- The requester receives SEATED, which ends the release; in a self-test it ends the test (R54, R71). -/
def State.reportSeated (s : State) : State :=
  if s.dock.release then { s with dock := { s.dock with release := false } }.hireSeated else s.endSelfTest

/-- The bolt seats: the close check is cancelled and the bolt is CLOSED (R54). -/
def State.seat (s : State) : State :=
  let closed : State := { s with dock := { s.dock with bolt := .closed, closeCheckAt := none } }
  (closed.evaluateSince s).reportSeated

/-- At the entry to CLOSING a sensor that already reads closed seats the bolt at once (R54). -/
def State.seatIfClosed (s : State) : State := if s.dock.sensorOpen then s else s.seat

/-- The bolt becomes JAMMED with the coil OFF and JAM is raised (R52, R54, R55). -/
def State.jam (s : State) : State :=
  let jammed : State :=
    { s with dock := { s.dock.coilOff with bolt := .jammed, closeCheckAt := none, pushAsideAt := none } }
  (jammed.evaluateSince s).raisePost .jam

/-- The take of a release (R53): the coil goes off, the bolt enters CLOSING, the bike leaves, the requester receives
TAKE. -/
def State.releaseTake (s : State) : State :=
  let left := s.enterClosing.bikeLeaves
  (if left.hire.state = .releasing then left.hireTakes else left).seatIfClosed

/-- The take of a self-test hold (R71, R175): the bike leaves and a VTK with serial 0 is offered; the hold runs on. -/
def State.selfTestTake (s : State) : State :=
  match s.dock.selfTest with
  | some t => s.bikeLeaves.offerVtk 0 s.van.selfTestBike t.crew
  | none => s

/-- The mouth count is 0 while the bolt is HELD: the take of a release, or of a self-test with a bike docked. -/
def State.takeWhileHeld (s : State) : State :=
  if s.dock.selfTest.isSome then (if s.dock.docked then s.selfTestTake else s)
  else if s.dock.release then s.releaseTake
  else s

/-- The bolt state HELD, with the hold phase of a self-test (R52, R71). -/
def State.boltHeld (s : State) : State :=
  let held : State :=
    match s.dock.selfTest with
    | some t =>
      { s with
        dock := { s.dock with
          bolt := .held, selfTest := some { t with phase := .hold }, holdEndAt := some (s.clock.ms + 2000) } }
    | none => { s with dock := { s.dock with bolt := .held } }
  held.evaluateSince s

/-- The bolt becomes HELD; a count of 0 is a take at once (R52, R71). -/
def State.becomeHeld (s : State) : State :=
  let held := s.boltHeld
  if held.dock.count = 0 then held.takeWhileHeld else held

/-- The self-test's hold or pull-in gives way to its close phase (R67, R71). -/
def State.selfTestCloses (s : State) : State :=
  match s.dock.selfTest with
  | some t => { s with dock := { s.dock with selfTest := some { t with phase := .close } } }.enterClosing.seatIfClosed
  | none => s

/-- The bolt dropped under drive: CLOSED with the coil off; a release is ABORTED DROPPED, which counts as a SEATED
report, and a self-test ends without a fault (R52, R53, R71, R120). -/
def State.boltDropped (s : State) : State :=
  let closed : State := { s with dock := { s.dock.coilOff with bolt := .closed, release := false } }
  let dropped := closed.evaluateSince s
  if s.dock.selfTest.isSome then dropped.endSelfTest
  else if s.dock.release then dropped.startSettle.hireSeated
  else dropped

/-- A CH0 fault aborts the release or moves the self-test to its close phase (R67, R120). -/
def State.abortDrive (s : State) : State :=
  if s.dock.selfTest.isSome then s.selfTestCloses
  else if s.dock.release then s.enterClosing.startSettle.seatIfClosed
  else s.enterClosing.seatIfClosed

/-! ### The release request (R51, R117) -/

/-- The first failing test of R51 gives a refusal: a self-test, the bolt, the supply. -/
def State.releaseRefused (s : State) : Bool :=
  s.dock.selfTest.isSome ||
    (decide (s.dock.bolt ≠ .closed) || s.dock.sensorOpen || decide (s.dock.coil ≠ .off)) ||
    (match s.dock.ch2.last with
     | some code => decide (supplyMillivolts code < 19000)
     | none => true)

/-- The hire controller requests the release (R117): accepted, the bolt is drawn and the hire is RELEASING; refused, the
hire enters CANCELLING with group 5. -/
def State.requestRelease (s : State) : State :=
  let s := { s with hire := { s.hire with state := .releasing } }
  if s.releaseRefused then s.enterCancelling (some 5)
  else { s with dock := { s.dock.startPullIn s.clock.ms true with release := true } }

/-! ### The HIRE write (R115, R116, R123) -/

/-- The member view's entry for a member. -/
def MemberView.find (v : MemberView) (member : Nat) : Option ViewEntry :=
  v.entries.find? (fun e => decide (e.member = member))

/-- An entry's day spend as read (R96). -/
def State.daySpend (s : State) (e : ViewEntry) : Nat :=
  if s.timeUnset then e.spend else if s.today ≤ e.day then e.spend else 0

/-- The day spend an OPEN write carries (R115). -/
def State.openSpend (s : State) (member : Nat) (a : Answer) : Nat :=
  if a.unverified then 0
  else
    match s.view.find member with
    | some e => s.daySpend e
    | none => a.spend

/-- The contents of an OPEN write (R115). -/
def State.openSection (s : State) (member : Nat) (a : Answer) : HireSection :=
  { mark := .opened, member := member, plan := a.plan, start := s.presentSecond, startStation := s.peers.adoptedId,
    startPost := s.number, startDay := s.today, startSpend := s.openSpend member a, unverified := a.unverified,
    endAt := 0 }

/-- The contents of a VAN write (R123). -/
def State.vanSection (s : State) (member : Nat) : HireSection :=
  { mark := .van, member := member, plan := 15, start := s.presentSecond, startStation := s.peers.adoptedId,
    startPost := s.number, startDay := s.today, startSpend := 0, unverified := false, endAt := 0 }

/-- The previous ride summary the copy gives (R115). -/
def State.rideSummary (s : State) : Option RideSummary :=
  match s.copyLast, s.copyHire with
  | some l, _ => some (.last l)
  | none, some h => if h.mark = .returned then some (.hire h) else none
  | none, none => none

/-- The HIRE write of a granted hire or a crew release: the record takes the bike, the prior HIRE, the written HIRE and
the summary, and the state becomes TAGGING; a refused request refuses the hire with group 3 (R115, R116, R123). -/
def State.requestHireWrite (written : HireSection) (summary : Option RideSummary) (s : State) : State :=
  let taken := { s with hire := { s.hire with state := .tagging } }.onRecord (fun r =>
    { r with prior := s.copyHire, bike := s.copyId, written := some written, summary := summary })
  match taken.requestWrite (.hire written) .hire with
  | (t, .listed ref) => t.onRecord (fun r => { r with writeRef := some ref })
  | (t, .noBike) => t.refuseWithdrawing 3
  | (t, .busy) => t.refuseWithdrawing 3

/-- The answers of a write that ran (Table 5-8). -/
inductive WriteAnswer where
  | written | mismatch | noTag
  deriving DecidableEq, Repr

/-- The HIRE write was answered WRITTEN in TAGGING (R116; a crew release skips the fault test, R123). -/
def State.hireWritten (s : State) : State :=
  if s.memberHire && decide (2 ≤ s.bikeLevel) then s.enterCancelling (some 3)
  else if s.memberHire && decide (2 ≤ s.postLevel) then s.enterCancelling (some 5)
  else s.requestRelease

/-- The hire controller takes the answer of a write it waits for (R116, R122); others are disregarded (R124). -/
def State.hireWriteAnswered (ref : Nat) (answer : WriteAnswer) (s : State) : State :=
  match s.hire.record with
  | some r =>
    if r.writeRef = some ref then
      match s.hire.state with
      | .tagging =>
        (match answer with
         | .written => s.hireWritten
         | .mismatch => s.refuseWithdrawing 3
         | .noTag => s.refuseWithdrawing 3)
      | .cancelling => s.cancelOver
      | .idle => s
      | .check => s
      | .lookup => s
      | .claiming => s
      | .releasing => s
    else s
  | none => s

/-! ### Claiming (R112, R113) -/

/-- The hire controller claims (R112): the CLM is offered and the state is CLAIMING; "line busy" at once refuses with
group 4. -/
def State.claim (s : State) : State :=
  match s.hire.record with
  | some { card := card, answer := some a, .. } =>
    match s.offer .clm (clmBody card.member a.allowance) with
    | (s, some ref) =>
      { s with hire := { s.hire with state := .claiming } }.onRecord (fun r => { r with clmRef := some ref })
    | (s, none) => s.refuse 4
  | _ => s

/-- The hire waits for the answer of this CLM. -/
def State.awaitsClm (s : State) (ref : Nat) : Bool :=
  decide (s.hire.state = .claiming) &&
    (match s.hire.record with
     | some r => decide (r.clmRef = some ref) && r.claim.isNone
     | none => false)

/-- The CLM was answered "line busy" (R112): the hire is refused with group 4; an unwanted claim's record ends. -/
def State.clmBusy (ref : Nat) (s : State) : State :=
  if s.awaitsClm ref then s.refuse 4
  else { s with hire := { s.hire with unwanted := s.hire.unwanted.filter (fun u => decide (u.ref ≠ ref)) } }

/-- The CLM was answered "sent" (R112): the claim is identified and its window runs from the local ms carried; an
unwanted claim is withdrawn. -/
def State.clmSent (ref : Nat) (serial : BitVec 8) (at_ : Ms) (s : State) : State :=
  if s.awaitsClm ref then
    s.onRecord (fun r => { r with claim := some { serial := serial, at_ := at_ }, windowAt := some (at_ + 250) })
  else
    match s.hire.unwanted.find? (fun u => decide (u.ref = ref)) with
    | some u =>
      { s with hire := { s.hire with unwanted := s.hire.unwanted.filter (fun v => decide (v.ref ≠ ref)) } }.offerWdr
        serial u.member
    | none => s

/-- A queued frame's owner is answered "line busy" (R11): the hire controller for a CLM, the van window unit for an OFR;
no other owner acts on it. -/
def State.answerBusy (s : State) (e : TxEntry) : State :=
  match e.kind with
  | .clm => s.clmBusy e.ref
  | .ofr => if decide (s.van.offer = .queued) && decide (s.van.offerRef = e.ref) then s.ofrBusy else s
  | .wdr => s
  | .hir => s
  | .stl => s
  | .flt => s
  | .fcl => s
  | .lkp => s
  | .mbr => s
  | .vop => s
  | .vtk => s
  | .vcl => s
  | .bcn => s
  | .tim => s
  | .trf => s

/-- The claims of the hire's member that stand ahead of the own one (R113). -/
def State.claimsAhead (s : State) (member : Nat) (serial : BitVec 8) : Nat :=
  ((s.hire.claims.takeWhile (fun c => !(decide (c.claimant = s.number) && decide (c.serial = serial)))).filter
    (fun c => decide (c.member = member))).length

/-- The bikes out the grant test counts (R113). -/
def State.grantBikesOut (s : State) (member : Nat) (a : Answer) : Nat :=
  if a.unverified then 0
  else
    match s.view.find member with
    | some e => e.bikesOut
    | none => a.bikesOut

/-- The view's entry for the member blocks the grant (R113, test 2). -/
def State.grantBlocked (s : State) (member : Nat) (a : Answer) : Bool :=
  !a.unverified &&
    (match s.view.find member with
     | some e => decide (e.status ≠ .good)
     | none => false)

/-- The outcome of the grant test: the refusal group, or `none` for a grant (R113). -/
def State.grantTest (s : State) (member : Nat) (serial : BitVec 8) (a : Answer) : Option Nat :=
  if s.line.clash then some 4
  else if s.grantBlocked member a then some 2
  else if !s.tagCondition || decide (s.bikeLevel = 2) then some 3
  else if s.postLevel = 2 then some 5
  else if s.grantBikesOut member a + s.claimsAhead member serial < a.allowance then none
  else some 2

/-- The claim window ended (R113): the claim is granted and the HIRE write requested, or the hire is refused with a
WDR. -/
def State.claimWindowEnds (s : State) : State :=
  match s.hire.record with
  | some { card := card, answer := some a, claim := some c, .. } =>
    match s.grantTest card.member c.serial a with
    | some group => s.refuseWithdrawing group
    | none => s.requestHireWrite (s.openSection card.member a) s.rideSummary
  | _ => s

/-! ### Eligibility (R107 to R109) -/

/-- Checks 2 to 5 of R107: the refusal group of the first that fails. -/
def State.postChecks (s : State) : Option Nat :=
  if s.timeUnset || decide (s.peers.adoptedId = 0) || s.line.clash then some 4
  else if !s.dock.docked || !s.tagCondition || decide (s.bikeLevel = 2) then some 3
  else if s.van.hold then some 3
  else if s.postLevel = 2 then some 5
  else none

/-- Checks 6, 7 and 9 on an answer that stands for the member (R108). -/
def State.memberChecks (s : State) (card : CardRecord) (a : Answer) : Option Nat :=
  if decide (card.expiryDay < s.today) || decide (card.sequence < a.minSequence) then some 1
  else if a.status ≠ .good then some 2
  else if a.allowance ≤ a.bikesOut then some 2
  else none

/-- The answer of the entry as it stands (R95, R100). -/
def State.answerOf (s : State) (e : ViewEntry) : Answer :=
  { status := e.status, plan := e.plan, allowance := e.allowance, bikesOut := e.bikesOut, spend := s.daySpend e,
    minSequence := e.minSequence, unverified := false }

/-- A use moves the entry to the most recently used end (R94). -/
def MemberView.use (v : MemberView) (e : ViewEntry) : MemberView :=
  { v with entries := v.entries.filter (fun x => decide (x.member ≠ e.member)) ++ [e] }

/-- An entry is stale when the present is more than 86,400 s after its updated-at (R95). -/
def State.stale (s : State) (e : ViewEntry) : Bool := decide (e.updatedAt + 86400 < s.presentSecond)

/-- The card reading (R95): KNOWN with a copy of the answer, or NOT-KNOWN; a reading that finds an entry is a use. -/
def State.cardReading (s : State) (member : Nat) : State × Option Answer :=
  if s.timeUnset then (s, none)
  else
    match s.view.find member with
    | none => (s, none)
    | some e => ({ s with view := s.view.use e }, if s.stale e then none else some (s.answerOf e))

/-- A lookup is started (R99): the record is filled, the 1,500 ms timer starts and an LKP is offered. -/
def State.startLookup (card : CardRecord) (s : State) : State :=
  match s.offer .lkp (lkpBody card.member card.sequence) with
  | (t, ref) =>
    { t with
      view := { t.view with lookup := some { card := card, expiresAt := s.clock.ms + 1500, lkpRef := ref } }
      hire := { t.hire with state := .lookup } }

/-- The answer is copied into the hire record and the hire claims (R108, R109). -/
def State.claimWith (a : Answer) (s : State) : State := (s.onRecord (fun r => { r with answer := some a })).claim

/-- Checks 6 to 9 of R108 with the answer of the card reading. -/
def State.checkReading (card : CardRecord) (reading : Option Answer) (s : State) : State :=
  match reading with
  | none => if card.expiryDay < s.today then s.refuse 1 else s.startLookup card
  | some a =>
    match s.memberChecks card a with
    | some group => s.refuse group
    | none => s.claimWith a

/-- A member card in CHECK: checks 2 to 5, then the member view is asked (R107, R108). -/
def State.checkMember (card : CardRecord) (s : State) : State :=
  match s.postChecks with
  | some group => s.refuse group
  | none =>
    match s.cardReading card.member with
    | (s, reading) => s.checkReading card reading

/-- The lookup was ANSWERED (R109): checks 2 to 7 and 9 again. -/
def State.lookupAnswered (card : CardRecord) (a : Answer) (s : State) : State :=
  match s.postChecks with
  | some group => s.refuse group
  | none =>
    match s.memberChecks card a with
    | some group => s.refuse group
    | none => s.claimWith a

/-- The answer of an offline admission (R101). -/
def offlineAnswer (card : CardRecord) : Answer :=
  { status := .good, plan := card.plan, allowance := 1, bikesOut := 0, spend := 0, minSequence := 0, unverified := true }

/-- The lookup's timer expired (R101, R109): OFFLINE goes through checks 2 to 5 again, FAILED refuses with group 2. -/
def State.lookupExpires (card : CardRecord) (s : State) : State :=
  if card.offline && !s.timeUnset && decide (s.today ≤ card.expiryDay) then
    match s.postChecks with
    | some group => s.refuse group
    | none => s.claimWith (offlineAnswer card)
  else s.refuse 2

/-! ### Crew cards (R123, R156) -/

/-- A crew acknowledgement opens a CREW reporting window for a docked bike whose ID reads good (R156). -/
def State.openCrewWindow (crew : Nat) (s : State) : State :=
  if s.dock.docked && s.copyId.isSome then
    { s with
      fault := { s.fault with
        window := some { crew := true, reporter := crew, expiresAt := s.clock.ms + 60000, used := false } } }
  else s

/-- A crew card outside a van hold is acknowledged; in a van hold the crew release is tested and VAN written (R123). -/
def State.checkCrew (card : CardRecord) (s : State) : State :=
  if s.van.hold then
    if s.timeUnset || decide (s.peers.adoptedId = 0) || s.line.clash then s.refuse 4
    else if !s.dock.docked || !s.tagCondition then s.refuse 3
    else s.requestHireWrite (s.vanSection card.member) none
  else (s.showCrewAck.openCrewWindow card.member).hireIdle

/-! ### Post restart (R70, R73, R124, R175) -/

/-- The HIRE write the hire waits for is still in the request list. -/
def State.writeWaiting (s : State) (ref : Nat) : Bool := s.tag.requests.any (fun r => decide (r.ref = ref))

/-- The prior HIRE is requested written back, its answer awaited by nobody (R124). -/
def State.restorePrior (s : State) : State :=
  match s.hire.record.bind HireRecord.prior with
  | some prior => (s.requestWrite (.hire prior) .hire).1
  | none => s

/-- The cancellation of R124, by the hire state. -/
def State.cancelByState (s : State) : State :=
  match s.hire.state, s.hire.record with
  | .idle, _ => s
  | .check, _ => s
  | .lookup, _ => { s with view := { s.view with lookup := none } }
  | .claiming, some r =>
    (match r.claim, r.clmRef with
     | some _, _ => s.withdrawClaim
     | none, some ref =>
       { s with hire := { s.hire with unwanted := s.hire.unwanted ++ [{ ref := ref, member := r.card.member }] } }
     | none, none => s)
  | .claiming, none => s
  | .tagging, some r =>
    (match r.writeRef with
     | some ref => if s.writeWaiting ref then (s.withdrawWrite ref).withdrawClaim else s.restorePrior.withdrawClaim
     | none => s.withdrawClaim)
  | .tagging, none => s
  | .releasing, _ => s.restorePrior.withdrawClaim
  | .cancelling, _ => s.withdrawClaim

/-- A post restart cuts the hire short (R124); a release in OPENING or HELD ends without a report. -/
def State.cutShort (s : State) : State :=
  let cancelled := s.cancelByState
  let ended := { cancelled with dock := { cancelled.dock with release := false } }
  if s.hire.state = .idle then ended else ended.hireIdle

/-- The van window unit at the start of a post restart (R175). -/
def State.vanRestart (s : State) : State :=
  { s with van := { s.van with hold := false, selfTestBike := s.bikeIdField } }

/-- The post faults a self-test clears (R160). -/
def selfTestClears : List PostFault := [.jam, .coilOpen, .coilShort, .sensor, .lamp, .line, .idConf]

/-- A post restart clears LINE and the bad-frame record, and a stuck line still present raises LINE again (R21); the
conflict-seen mark clears (R33). -/
def State.lineRestart (s : State) : State :=
  let cleared :=
    { s with
      line := { s.line with lineRaised := false, lineClearAt := none, badFrames := [] }
      peers := { s.peers with conflictSeen := false } }
  if s.line.stuck then cleared.raiseLine s.clock.ms else cleared

/-- The post faults of R160 are cleared without FLT, and the noise count set to 0 (R70). -/
def State.clearForSelfTest (s : State) : State :=
  let cleared : State :=
    { s with
      fault := { s.fault with raised := s.fault.raised.filter (fun f => !decide (f ∈ selfTestClears)) }
      dock := { s.dock with noise := 0 } }
  cleared.evaluateSince s

/-- The press burst in progress is marked discarded, and the lamp's displays end (R62, R73). -/
def State.displaysRestart (s : State) : State :=
  { s with
    dock := { s.dock with
      burst := s.dock.burst.map (fun b => { b with discarded := true })
      refusal := none
      crewAckAt := none } }

/-- A self-test starts (R70): what the post restart ends and clears, then the pull-in at once, a bolt standing open
counting as seen open. The self-test counts as running from its start (log 11). -/
def State.startSelfTest (crew : Nat) (s : State) : State :=
  let running : State := { s with dock := { s.dock with selfTest := some { phase := .pullIn, crew := crew } } }
  let ended := running.cutShort.vanRestart.displaysRestart.clearForSelfTest.lineRestart
  { ended with dock := { ended.dock.startPullIn ended.clock.ms false with release := false } }

/-! ### Card records at the hire controller (R105) -/

/-- A hire record made from a good card. -/
def HireRecord.ofCard (kind : HireKind) (card : CardRecord) : HireRecord :=
  { kind := kind, card := card, answer := none, clmRef := none, claim := none, windowAt := none, prior := none,
    bike := none, summary := none, written := none, writeRef := none, settleAt := none }

/-- A good record taken in IDLE: CHECK, with check 1 taking a crew card off the member path (R105, R107). -/
def State.beginHire (card : CardRecord) (s : State) : State :=
  if card.plan = 15 then
    { s with hire := { s.hire with state := .check, record := some (HireRecord.ofCard .crew card) } }.checkCrew card
  else
    { s with hire := { s.hire with state := .check, record := some (HireRecord.ofCard .member card) } }.checkMember card

/-- The hire controller takes a good record, with the answer of the button held test for its capture (R61, R105). -/
def State.takeCard (card : CardRecord) (held : Bool) (s : State) : State :=
  if s.dock.selfTest.isSome then s
  else if decide (card.plan = 15) && held then s.startSelfTest card.member
  else if s.hire.state = .idle then s.beginHire card
  else if decide (card.plan = 15) && s.van.hold then s.showCrewAck
  else s

/-- The hire controller takes "card unreadable" (R105): in IDLE a refusal with group 1, with no hire record to end. -/
def State.takeUnreadable (s : State) : State :=
  if s.dock.selfTest.isNone && decide (s.hire.state = .idle) then s.showRefusal 1 else s

end Sys2Proof.Machine
end

