-- ==== Sys2Proof/Machine/CardEvents.lean ====
section
/-! DEFINITION. The commands of the card port (chapter 6, POST role): characters and the record gap. -/

namespace Sys2Proof.Machine

/-- The error of a character, if any; a framing error withholds the data, so it is named first (R88). -/
def cardCharError (c : CardChar) : Option Unreadable :=
  if !c.stopIdle then some .framing else if parityError c then some .parity else none

/-- The record becomes void with the reason of its first error (R89). -/
def State.voidRecord (reason : Unreadable) (s : State) : State :=
  { s with card := { s.card with assembler := .void, voidReason := some reason, chars := [], captureHeld := false } }

/-- A character without error is appended; the sixteenth completes the record and stamps the card slot (R89), and the
button held test answers for that capture (R61). -/
def State.collectCharacter (data : Byte) (s : State) : State :=
  if s.card.chars.length + 1 = 16 then
    { s with
      card := { s.card with
        assembler := .complete, chars := s.card.chars ++ [data]
        captureHeld := s.buttonHeld s.clock.ms } }.stamp .card
  else { s with card := { s.card with assembler := .collecting, chars := s.card.chars ++ [data] } }

/-- The record assembler takes a character (R89). -/
def State.assemble (c : CardChar) (s : State) : State :=
  match s.card.assembler, cardCharError c with
  | .idle, none => s.collectCharacter c.data
  | .collecting, none => s.collectCharacter c.data
  | .idle, some reason => s.voidRecord reason
  | .collecting, some reason => s.voidRecord reason
  | .complete, _ => (s.voidRecord .overrun).consume .card
  | .void, _ => s

/-- A character decoded from the card link: the gap timer restarts (R88, R89). -/
def State.cardReceives (c : CardChar) (s : State) : State :=
  { s with card := { s.card with gapAt := some (s.clock.ms + 5), waitsIdle := !c.stopIdle } }.assemble c

/-- CARD_CHARACTER (R45, R88, R89). -/
def execCardCharacter (c : CardChar) (s : State) : Host.Outcome State Fault Refusal :=
  answerNext (if s.isPost then s.cardReceives c else s)

/-- An unreadable record (R91): the run count, READER at 8, and then "card unreadable" for the hire controller. -/
def State.recordUnreadable (s : State) : State :=
  let counted := { s with card := { s.card with unreadableRun := min (s.card.unreadableRun + 1) 8 } }
  (if counted.card.unreadableRun = 8 then counted.raisePost .reader else counted).takeUnreadable

/-- A good record (R91): the run count and READER clear, and the hire controller takes it with the button held test's
answer for its capture. -/
def State.recordGood (card : CardRecord) (held : Bool) (s : State) : State :=
  ({ s with card := { s.card with unreadableRun := 0 } }.clearPost .reader).takeCard card held

/-- The assembler is IDLE with nothing held. -/
def State.assemblerIdle (s : State) : State :=
  { s with card := { s.card with assembler := .idle, voidReason := none, chars := [], gapAt := none, captureHeld := false } }

/-- The record gap ends a record, which is judged (R89, R90). -/
def State.recordEnds (s : State) : State :=
  match s.card.assembler with
  | .idle => s.assemblerIdle
  | .collecting => s.assemblerIdle.recordUnreadable
  | .void => s.assemblerIdle.recordUnreadable
  | .complete =>
    (match cardRecordOf s.card.chars with
     | .ok card => (s.assemblerIdle.consume .card).recordGood card (s.time.card.isSome && s.card.captureHeld)
     | .error _ => (s.assemblerIdle.consume .card).recordUnreadable)

/-- RECORD_GAP (R89 to R91, R105). -/
def execRecordGap (s : State) : Host.Outcome State Fault Refusal :=
  answerNext
    (match s.card.gapAt with
     | some due => (s.reachMs due).recordEnds
     | none => s)

end Sys2Proof.Machine
end

