-- ==== Sys2Proof/Machine/SettleOps.lean ====
section
/-! DEFINITION. The settlement unit and the outcomes of tag operations: rating, settlement slots, the tariff store, the
return sequence, the answers of writes, the duplicate-bike check (chapters 2, 5, 8 and 9). -/

namespace Sys2Proof.Machine

/-! ### Rating (R139 to R142) -/

/-- Division rounded up. -/
def ceilDiv (n d : Nat) : Nat := (n + d - 1) / d

/-- Money saturates at 999,999. -/
def saturate (n : Nat) : Nat := min n 999999

/-- The band of a minute: the last whose start is at or below it (stage 6). -/
def bandClassAt (bands : List Band) (minute : Nat) : Option BandClass :=
  ((bands.filter (fun b => decide (b.start ≤ minute))).getLast?).map Band.cls

/-- The plan's rate for a band class. -/
def PlanRecord.rate (p : PlanRecord) : BandClass → Nat
  | .a => p.rateA
  | .b => p.rateB
  | .c => p.rateC
  | .d => p.rateD

/-- The scheme second at which block k begins (stage 6). -/
def blockStart (i : RatingInputs) (k : Nat) : Nat :=
  i.start + 60 * i.plan.freeMinutes + 60 * i.plan.blockMinutes * k

/-- The rate of block k, with the e-surcharge for an e-bike (stage 6). A band table that R136 takes has a band for
every minute. -/
def blockRate (i : RatingInputs) (k : Nat) : Nat :=
  ((bandClassAt i.bands (minuteOfDay (blockStart i k))).map i.plan.rate).getD 0 +
    (if i.ebike then i.plan.surcharge else 0)

/-- The duration T, 0 when the end is before the start (stage 1). -/
def ratingDuration (i : RatingInputs) : Nat := i.end_ - i.start

/-- The chargeable minutes Q (stage 4). -/
def chargeableMinutes (i : RatingInputs) : Nat := ceilDiv (ratingDuration i) 60 - i.plan.freeMinutes

/-- The number of blocks N (stage 5). -/
def blockCount (i : RatingInputs) : Nat := ceilDiv (chargeableMinutes i) i.plan.blockMinutes

/-- The sum of the block rates, saturating (stage 6). -/
def blockSum (i : RatingInputs) : Nat := saturate (((List.range (blockCount i)).map (blockRate i)).sum)

/-- The sum after the ride cap (stage 7). -/
def rideCapped (i : RatingInputs) : Nat := if i.plan.rideCap = 0 then blockSum i else min (blockSum i) i.plan.rideCap

/-- The charge after the day cap (stage 8). -/
def dayCapped (i : RatingInputs) : Nat :=
  if i.plan.dayCap = 0 then rideCapped i else min (rideCapped i) (i.plan.dayCap - i.startSpend)

/-- The charge and its reason (stages 2, 3 and 8). -/
def ratedCharge (i : RatingInputs) : Nat × Reason :=
  if i.atStartPost && decide (ratingDuration i ≤ i.plan.grace) then (0, .grace)
  else if 86400 < ratingDuration i then (i.plan.overdueFee, .overdue)
  else (dayCapped i, .rated)

/-- The settlement of a rating (stage 9). -/
def rate (i : RatingInputs) : Settlement :=
  { endAt := i.end_, fare := .charge (ratedCharge i).1, reason := (ratedCharge i).2, version := i.version,
    newSpend := saturate (i.startSpend + (ratedCharge i).1), day := i.start / 86400 }

/-! ### Slots (R130 to R134) -/

/-- The slot of a name. -/
def SettlementUnit.slot (u : SettlementUnit) : SlotName → Option Slot
  | .a => u.slotA
  | .b => u.slotB

/-- A slot replaced. -/
def State.setSlot (name : SlotName) (slot : Option Slot) (s : State) : State :=
  match name with
  | .a => { s with settle := { s.settle with slotA := slot } }
  | .b => { s with settle := { s.settle with slotB := slot } }

/-- A slot's phase replaced. -/
def State.setPhase (name : SlotName) (phase : SlotPhase) (s : State) : State :=
  match s.settle.slot name with
  | some slot => s.setSlot name (some { slot with phase := phase })
  | none => s

/-- An end in scheme seconds, FFFFFFFFH while it is not known (R127). -/
def endSecond : SchemeMs → Nat
  | .known ms => ms / 1000
  | .pending => endNotKnown
  | .unknown => endNotKnown

/-- An UNRATED settlement of a return: no charge, the day spend at start, tariff version 0 (R134, R142). Its day index is
that of the start (Table 8-11), where R129 and Table 8-3 speak of the HIRE section's own (DESIGN CHOICE, log 34). -/
def unrated (r : ReturnRecord) (reason : Reason) : Settlement :=
  { endAt := endSecond r.end_, fare := .unrated, reason := reason, version := 0, newSpend := r.startSpend,
    day := r.start / 86400 }

/-- TIME is missing while the end is not a value (R132). -/
def endMissing : SchemeMs → Bool
  | .known _ => false
  | .pending => true
  | .unknown => true

/-- TARIFF is missing without an active tariff or when its record for the plan is absent (R132). -/
def tariffMissing (active : Tariff) (plan : Nat) : Bool := (active.planRecord plan).isNone

/-- The return is at its start post (R139). -/
def State.atStartPost (s : State) (r : ReturnRecord) : Bool :=
  decide (s.peers.adoptedId ≠ 0) && decide (s.peers.adoptedId = r.startStation) && decide (r.startPost = s.number)

/-- The inputs of a rating, fixed as the slot enters RATING (R139). -/
def State.ratingInputs (s : State) (r : ReturnRecord) : Option RatingInputs :=
  match s.settle.active.planRecord r.plan, r.end_ with
  | some plan, .known ms =>
    some { start := r.start, end_ := ms / 1000, plan := plan, bands := s.settle.active.bandTable,
           version := s.settle.active.version, startSpend := r.startSpend, ebike := r.ebike,
           atStartPost := s.atStartPost r }
  | _, _ => none

/-- A slot enters RATING; the rating completes 2 ms later (R133, R140). -/
def State.enterRating (name : SlotName) (s : State) : State :=
  match s.settle.slot name with
  | some slot =>
    match s.ratingInputs slot.record with
    | some inputs => s.setPhase name (.rating inputs (s.clock.ms + 2))
    | none => s
  | none => s

/-- A GATHERING slot without a set mark enters RATING (R133). -/
def State.leaveGathering (name : SlotName) (s : State) : State :=
  match s.settle.slot name with
  | some { phase := .gathering false false false _, .. } => s.enterRating name
  | _ => s

/-- The marks of a GATHERING slot changed by `f` on (time, tariff, station); one without a set mark then enters RATING
(R132, R133). -/
def State.markSlot (f : ReturnRecord → Bool × Bool × Bool → Bool × Bool × Bool) (name : SlotName) (s : State) : State :=
  match s.settle.slot name with
  | some { record := record, phase := .gathering time tariff station expiresAt } =>
    let m := f record (time, tariff, station)
    (s.setPhase name (.gathering m.1 m.2.1 m.2.2 expiresAt)).leaveGathering name
  | _ => s

/-- The marks of both slots changed. -/
def State.markSlots (f : ReturnRecord → Bool × Bool × Bool → Bool × Bool × Bool) (s : State) : State :=
  (s.markSlot f .a).markSlot f .b

/-! ### Settlement notices and write-back (R143 to R145) -/

/-- The STL of a return's settlement (Table 8-11). -/
def stlValues (r : ReturnRecord) (t : Settlement) : StlValues :=
  { member := r.member, bikeId := r.bikeId, hireStation := r.startStation, start := r.start, end_ := t.endAt,
    fare := t.fare, reason := t.reason, version := t.version, newSpend := t.newSpend, day := t.day, ebike := r.ebike }

/-- The write-back is requested when the same bike's copy is HELD with a good ID and the hire state is IDLE (R145). -/
def State.writeBack (r : ReturnRecord) (t : Settlement) (s : State) : State :=
  if decide (s.copyId.map IdSection.bikeId = some r.bikeId) && decide (s.hire.state = .idle) then
    (s.requestWrite (.last (some { fare := t.fare, reason := t.reason, endAt := t.endAt, tariff := t.version }))
      .settlement).1
  else s

/-- An immediate STL is offered once, and its write-back decided in the same step (R144). -/
def State.immediateStl (r : ReturnRecord) (t : Settlement) (s : State) : State :=
  (s.send .stl (stlBody (stlValues r t))).writeBack r t

/-- A DONE slot's STL is queued or abandoned: the write-back is decided and the slot is FREE (R143). -/
def State.finishSlot (name : SlotName) (s : State) : State :=
  match s.settle.slot name with
  | some { record := record, phase := .done settlement _ _ } => (s.writeBack record settlement).setSlot name none
  | _ => s

/-- A DONE slot offers its STL: queued, it is finished; refused, it offers again 250 ms later (R143). -/
def State.offerSlot (name : SlotName) (s : State) : State :=
  match s.settle.slot name with
  | some { record := record, phase := .done settlement _ abandonAt } =>
    match s.offer .stl (stlBody (stlValues record settlement)) with
    | (s, some _) => s.finishSlot name
    | (s, none) => s.setPhase name (.done settlement (some (s.clock.ms + 250)) abandonAt)
  | _ => s

/-- A slot enters DONE with its settlement, and 30,000 ms to be queued (R143). -/
def State.enterDone (name : SlotName) (t : Settlement) (s : State) : State :=
  s.setPhase name (.done t none (s.clock.ms + 30000))

/-! ### The tariff store (R136 to R138) -/

/-- A piece stored in a tariff at its index. -/
def Tariff.store (t : Tariff) (index : Nat) (piece : Piece) : Tariff := { t with pieces := t.pieces.set index (some piece) }

/-- A piece applied to staging by the versions held (R137); `none` when it is disregarded. -/
def stagePiece (active staging : Tariff) (v : TrfValues) : Option Tariff :=
  if v.version ≤ active.version then none
  else if staging.version < v.version then
    some ({ Tariff.empty with version := v.version }.store v.index v.piece)
  else if v.version = staging.version then some (staging.store v.index v.piece)
  else none

/-- A complete staging becomes active when no slot is in RATING, and re-tests TARIFF in every GATHERING slot (R138). -/
def State.swapTariff (s : State) : State :=
  if s.settle.staging.complete && !slotRating s.settle.slotA && !slotRating s.settle.slotB then
    { s with settle := { s.settle with active := s.settle.staging, staging := Tariff.empty } }.markSlots
      (fun r m => (m.1, tariffMissing s.settle.staging r.plan, m.2.2))
  else s

/-- A TRF taken at a post (R136, R137, R138). -/
def State.takeTrf (body : List Byte) (s : State) : State :=
  match trfOf body with
  | some v =>
    match stagePiece s.settle.active s.settle.staging v with
    | some staging => { s with settle := { s.settle with staging := staging } }.swapTariff
    | none => s
  | none => s

/-! ### The return sequence (R126 to R131, R147) -/

/-- What the return sequence is handed: the sections as judged, and the docking capture. -/
structure ReadResult where
  /-- Set when the tag fell silent (R78). -/
  noTag : Bool
  id : Judged IdSection
  hire : Judged HireSection
  last : Option LastSection
  capture : Capture
  deriving DecidableEq, Repr

/-- The good ID section of a read result. -/
def ReadResult.goodId (r : ReadResult) : Option IdSection :=
  match r.id with
  | .good i => some i
  | .damaged => none
  | .unread => none

/-- The good HIRE section of a read result. -/
def ReadResult.goodHire (r : ReadResult) : Option HireSection :=
  match r.hire with
  | .good h => some h
  | .damaged => none
  | .unread => none

/-- The HIRE section read OPEN. -/
def ReadResult.openHire (r : ReadResult) : Option HireSection :=
  match r.goodHire with
  | some h => if h.mark = .opened then some h else none
  | none => none

/-- The return record a read result gives; what could not be read is 0 (R129, R131). -/
def ReadResult.record (r : ReadResult) : ReturnRecord :=
  let h := r.openHire
  { bikeId := (r.goodId.map IdSection.bikeId).getD 0,
    ebike := decide (r.goodId.map IdSection.kind = some .ebike),
    member := (h.map HireSection.member).getD 0, plan := (h.map HireSection.plan).getD 0,
    start := (h.map HireSection.start).getD 0, startStation := (h.map HireSection.startStation).getD 0,
    startPost := (h.map HireSection.startPost).getD 0, startDay := (h.map HireSection.startDay).getD 0,
    startSpend := (h.map HireSection.startSpend).getD 0,
    capture := r.capture.ms, startUp := r.capture.startUp, end_ := r.capture.scheme }

/-- A slot takes the return: its marks are set and its gathering timer started, and without a mark it enters RATING
(R131, R132). -/
def State.allocate (name : SlotName) (r : ReturnRecord) (s : State) : State :=
  (s.setSlot name (some
    { record := r,
      phase := .gathering (endMissing r.end_) (tariffMissing s.settle.active r.plan)
        (r.startUp && decide (s.peers.adoptedId = 0)) (r.capture + 600000) })).leaveGathering name

/-- The RETURNED write, with its record for the member window (R127). -/
def State.requestReturned (h : HireSection) (c : Capture) (s : State) : State :=
  match s.requestWrite (.hire { h with mark := .returned, endAt := endSecond c.scheme }) .settlement with
  | (s, .listed ref) =>
    { s with
      settle := { s.settle with
        returned := s.settle.returned ++ [{ ref := ref, member := h.member, capture := c.ms, startUp := c.startUp }] } }
  | (s, .noBike) => s
  | (s, .busy) => s

/-- The clearing of a LAST SETTLEMENT read present (R127). -/
def State.requestLastClear (last : Option LastSection) (s : State) : State :=
  match last with
  | some _ => (s.requestWrite (.last none) .settlement).1
  | none => s

/-- The CLOSED write of a van-taken bike (R128). -/
def State.requestClosed (h : HireSection) (s : State) : State :=
  (s.requestWrite (.hire { h with mark := .closed }) .settlement).1

/-- A HIRE read OPEN with a good ID: a slot first and then the writes, or the writes and then UNRATED SLOTS at once
(R126, R127, R131, log 12). -/
def State.settleReturn (r : ReadResult) (h : HireSection) (s : State) : State :=
  match s.settle.slotA, s.settle.slotB with
  | none, _ => ((s.allocate .a r.record).requestReturned h r.capture).requestLastClear r.last
  | some _, none => ((s.allocate .b r.record).requestReturned h r.capture).requestLastClear r.last
  | some _, some _ =>
    ((s.requestReturned h r.capture).requestLastClear r.last).immediateStl r.record (unrated r.record .slots)

/-- The settlement of a return whose tag could not be read whole (R129): the day index is 0 with an unknown start. -/
def tagSettlement (r : ReadResult) : Settlement := unrated r.record .tag

/-- The return sequence takes a read result by Table 8-1 (R126). With HIRE OPEN and ID DAMAGED it requests HIRE RETURNED
alone, as Table 8-1 lists, and leaves a LAST SETTLEMENT that reads present, which R127's words would clear (DESIGN CHOICE,
log 33). -/
def State.returnSequence (r : ReadResult) (s : State) : State :=
  if r.noTag then s.immediateStl r.record (tagSettlement r)
  else
    match r.hire with
    | .good h =>
      (match h.mark with
       | .opened =>
         (match r.id with
          | .good _ => s.settleReturn r h
          | .damaged => (s.requestReturned h r.capture).immediateStl r.record (tagSettlement r)
          | .unread => (s.requestReturned h r.capture).immediateStl r.record (tagSettlement r))
       | .van => s.requestClosed h
       | .closed => s
       | .returned => s)
    | .damaged => s.immediateStl r.record (tagSettlement r)
    | .unread => s.immediateStl r.record (tagSettlement r)

/-! ### The duplicate-bike check (R34, R35) -/

/-- The duplicate-bike condition is re-evaluated: its beginning raises DUPLICATE or cancels the hold, its end starts the
hold of 60,000 ms. -/
def State.duplicateCheck (s : State) : State :=
  match s.peers.duplicate, s.duplicateCondition with
  | false, true =>
    { s with peers := { s.peers with duplicate := true, duplicateHoldAt := none } }.raiseDuplicate
  | true, false =>
    { s with peers := { s.peers with duplicate := false, duplicateHoldAt := some (s.clock.ms + 60000) } }
  | true, true => s
  | false, false => s

/-! ### The member window and reports (R155, R157) -/

/-- A WRITTEN RETURNED write opens a MEMBER window (R155). -/
def State.openMemberWindow (w : ReturnedWrite) (s : State) : State :=
  if !w.startUp && decide (w.member ≠ 0) && s.dock.docked && decide ((s.clock.ms - w.capture).toNat < 60000) then
    { s with
      fault := { s.fault with
        window := some { crew := false, reporter := w.member, expiresAt := w.capture + 60000, used := false } } }
  else s

/-- The settlement unit takes the answer of a write it requested: any answer ends the record of a RETURNED write, and
WRITTEN opens the member window (R127, R145). -/
def State.settleWriteAnswered (ref : Nat) (answer : WriteAnswer) (s : State) : State :=
  let ended :=
    { s with settle := { s.settle with returned := s.settle.returned.filter (fun w => decide (w.ref ≠ ref)) } }
  match s.settle.returned.find? (fun w => decide (w.ref = ref)) with
  | some w => if answer = .written then ended.openMemberWindow w else ended
  | none => ended

/-- The level an FLT of a report carries: that of the report's class after the report, as raised by escalation (R157). -/
def classLevel (entries : List FaultEntry) (cls : Nat) : Nat :=
  ((entries.filter (fun e => decide (e.cls = cls))).map (raisedLevel entries)).foldl max (reportLevel cls)

/-- A press burst closed undiscarded (R157): in an open unused window it makes a report, placed in the fault list and
told by an FLT. Table 9-6 gives a report the copy's bike id, which a DAMAGED ID section does not have: its FLT carries 0,
as Table 9-6 gives it for an auto fault (DESIGN CHOICE, log 35). A change of the bike fault level that the report makes is
evaluated before the FLT is offered, which R157 leaves open (DESIGN CHOICE, log 11). -/
def State.memberReport (count : Nat) (s : State) : State :=
  match s.fault.window with
  | some w =>
    if w.used then s
    else
      let cls := min count 5
      let source : FaultSource := if w.crew then .crew else .member
      let used := { s with fault := { s.fault with window := some { w with used := true } } }
      let reported := used.changeFaults
        (.add { cls := cls, level := reportLevel cls, source := source, reporter := w.reporter })
      reported.send .flt (fltBody ((reported.copyId.map IdSection.bikeId).getD 0) cls
        (classLevel reported.workingList cls) source s.number (some w.reporter))
  | none => s

/-! ### Outcomes of tag operations (R77 to R82) -/

/-- The fault unit takes the answer of its own FAULTS write (R153). -/
def State.faultWriteAnswered (ref : Nat) (s : State) : State :=
  let ended : State :=
    { s with fault := { s.fault with writes := s.fault.writes.filter (fun w => decide (w.ref ≠ ref)) } }
  ended.evaluateSince s

/-- A write's answer reaches its requester (R82). -/
def State.writeAnswered (r : WriteRequest) (answer : WriteAnswer) (s : State) : State :=
  match r.requester with
  | .hire => s.hireWriteAnswered r.ref answer
  | .settlement => s.settleWriteAnswered r.ref answer
  | .fault => s.faultWriteAnswered r.ref
  | .tagPort => s.rewriteAnswered (decide (answer = .written))

/-- A write ends (R82): on WRITTEN the copy takes the contents; on a failure the fault unit has its TAG report before
the requester is answered; then the next request begins. -/
def State.finishWrite (r : WriteRequest) (answer : WriteAnswer) (s : State) : State :=
  let idle := { s with tag := { s.tag with operation := .idle } }
  let told :=
    match answer with
    | .written => idle.copyWritten r.contents
    | .mismatch => idle.tagReport (r.contents.sameSection (.faults []))
    | .noTag => idle.tagReport (r.contents.sameSection (.faults []))
  (told.writeAnswered r answer).beginWrite

/-- The sections of a read set as judged, in the order ID, HIRE, LAST SETTLEMENT, FAULTS; one not read is unread (R75). -/
def judgeSections (got : List (List Byte)) : Judged IdSection × Judged HireSection × Option LastSection ×
    Judged (List FaultEntry) :=
  (match got[0]? with
   | some b => judgeId b
   | none => .unread,
   match got[1]? with
   | some b => judgeHire b
   | none => .unread,
   (got[2]?).bind judgeLast,
   match got[3]? with
   | some b => judgeFaults b
   | none => .unread)

/-- The docking capture of the read set, converted when back-dating has occurred since (R77); a read set always has
one, and the present instant stands for one that a state lacks. -/
def State.dockingCapture (s : State) : Capture :=
  s.tag.docking.getD { ms := s.clock.ms, scheme := s.time.stampScheme s.clock.ms, startUp := false }

/-- A damaged FAULTS section's rewrite goes ahead of any write waiting (R79). -/
def State.queueRewrite (s : State) : State :=
  if s.faultsDamaged then
    { s with
      tag := { s.tag with
        requests := { contents := .faults [tagEntry], requester := .tagPort, ref := s.tag.nextRef } :: s.tag.requests
        nextRef := s.tag.nextRef + 1 } }
  else s

/-- The fault unit takes the read result: a TAG report for a damaged ID or HIRE section, and one for a damaged FAULTS
section (R77, R152). -/
def State.faultTakesRead (s : State) : State :=
  let named :=
    if decide (s.tag.copy.id = .damaged) || decide (s.tag.copy.hire = .damaged) then s.tagReport false else s
  if named.faultsDamaged then named.tagReport false else named

/-- The read set completed with every section answered (R77): the copy is HELD, a damaged FAULTS section is queued for
rewrite, the first request begins, and the listeners are told: the return sequence, the duplicate-bike check, the fault
unit, as R77 lists them without an order of its own (DESIGN CHOICE, log 41). -/
def State.readSetComplete (got : List (List Byte)) (s : State) : State :=
  let judged := judgeSections got
  let capture := s.dockingCapture
  let held : State :=
    { s with
      tag := { s.tag with
        operation := .idle
        docking := none
        copy := { state := .held, id := judged.1, hire := judged.2.1, last := judged.2.2.1, faults := judged.2.2.2 } } }
  let begun := (held.evaluateSince s).queueRewrite.beginWrite
  let result : ReadResult :=
    { noTag := false, id := judged.1, hire := judged.2.1, last := judged.2.2.1, capture := capture }
  (begun.returnSequence result).duplicateCheck.faultTakesRead

/-- A read set cut short by a silent tag (R78): the copy is NO-TAG, and the return sequence, the fault unit and the
duplicate-bike check are told, as R78 names them without an order of its own; then the first waiting request begins
(DESIGN CHOICE, log 41). -/
def State.readSetSilent (got : List (List Byte)) (s : State) : State :=
  let judged := judgeSections got
  let result : ReadResult :=
    { noTag := true, id := judged.1, hire := judged.2.1, last := judged.2.2.1, capture := s.dockingCapture }
  let silent : State :=
    { s with
      tag := { s.tag with
        operation := .idle
        docking := none
        copy := { TagCopy.none_ with state := .noTag } } }
  ((((silent.evaluateSince s).returnSequence result).tagReport false).duplicateCheck).beginWrite

/-! ### Docking (R56, R72, R77, R80) -/

/-- A docking is handed to the tag port: the copy is READING and the read set begins at once (R77). -/
def State.beginReadSet (c : Capture) (s : State) : State :=
  { s with
    tag := { s.tag with
      operation := .readSet false [] false s.clock.ms
      copy := { TagCopy.none_ with state := .reading }
      docking := some c } }

/-- A docking ends a deliver target and makes a QUEUED offer of a DELIVER window void (R171, R176). -/
def State.vanDocks (s : State) : State :=
  { s with van := { s.van with target := false, voidMark := s.van.voidMark || s.offerQueuedIn .deliver } }

/-- A docking (R56): the flag is set, the noise count is 0, LOW-CHARGE and FLAT are clear (R68), and the capture goes to
the tag port. -/
def State.dockBike (c : Capture) (s : State) : State :=
  let docked :=
    { s.consume .mouthIn with
      dock := { s.dock with docked := true, noise := 0, dockedSince := some c }
      fault := { s.fault with lowCharge := false, flat := false } }
  ((docked.vanDocks).beginReadSet c).evaluateSince s

/-- The docking test of a closed edge with the coil OFF (R56): the bolt-closed slot is consumed. -/
def State.dockingTest (s : State) : State :=
  let consumed := s.consume .boltClosed
  match s.time.slot .boltClosed, s.time.slot .mouthIn with
  | some c, some _ => if !s.dock.docked && decide (6 ≤ s.dock.count) then consumed.dockBike c else consumed
  | _, _ => consumed

/-- The tag answered the start-up read (R45, R72, R80): the bolt-closed slot is stamped with the release of reset and
consumed in the same step, the mouth count is 15 and a bike is docked. -/
def State.startUpDocking (released : Ms) (s : State) : State :=
  let c : Capture := { ms := released, scheme := s.time.stampScheme released, startUp := true }
  let docked : State :=
    { s.consume .boltClosed with
      dock := { s.dock with docked := true, count := 15, dockedSince := some c }
      tag := { s.tag with docking := some c, copy := { TagCopy.none_ with state := .reading } } }
  docked.evaluateSince s

/-- The tag begins its answer to the command in progress (R74). At the start-up read's first command it docks the bike
(R80). -/
def State.tagAnswers (s : State) : State :=
  match s.tag.operation with
  | .readSet startUp got false issued =>
    let answered := { s with tag := { s.tag with operation := .readSet startUp got true issued } }
    if startUp && decide (got = []) then answered.startUpDocking issued else answered
  | .write r second readBack false issued =>
    { s with tag := { s.tag with operation := .write r second readBack true issued } }
  | .readSet _ _ true _ => s
  | .write _ _ _ true _ => s
  | .idle => s

end Sys2Proof.Machine
end

