-- ==== Sys2Proof/Machine/ConverterEvents.lean ====
section
/-! DEFINITION. The commands of the analog sweep (chapter 4, POST role): requests, bursts and the comparators. -/

namespace Sys2Proof.Machine

/-! ### Requests (R65) -/

/-- A burst starts in PEND: two conversion times of wake-up. -/
def State.startBurst (b : Burst) (s : State) : State :=
  { s with dock := { s.dock with converter := .pend b (s.clock.plusUs 40) } }

/-- A periodic burst as its condition stands when it starts (R65). -/
def State.periodicBurst (s : State) : Burst := .periodic s.ebikeDocked

/-- A periodic burst is requested: started when the converter is IDLE, else pending. -/
def State.requestPeriodic (s : State) : State :=
  match s.dock.converter with
  | .idle => s.startBurst s.periodicBurst
  | .pend _ _ => { s with dock := { s.dock with pendingPeriodic := true } }
  | .busy _ _ => { s with dock := { s.dock with pendingPeriodic := true } }

/-- An event burst is requested for the pull-in in progress. -/
def State.requestEvent (s : State) : State :=
  match s.dock.converter with
  | .idle => s.startBurst (.event s.dock.pullIns)
  | .pend _ _ => { s with dock := { s.dock with pendingEvent := some s.dock.pullIns } }
  | .busy _ _ => { s with dock := { s.dock with pendingEvent := some s.dock.pullIns } }

/-- PERIODIC_TIMER_EXPIRY (R65). -/
def execPeriodicTimerExpiry (s : State) : Host.Outcome State Fault Refusal :=
  answerNext
    (match s.dock.periodicAt with
     | some due =>
       let reached := s.reachMs due
       { reached with dock := { reached.dock with periodicAt := some (due + 500) } }.requestPeriodic
     | none => s)

/-- CH0_REQUEST (R51, R65). -/
def execCh0Request (s : State) : Host.Outcome State Fault Refusal :=
  answerNext
    (match s.dock.ch0At with
     | some due =>
       let reached := s.reachMs due
       { reached with dock := { reached.dock with ch0At := none } }.requestEvent
     | none => s)

/-- The channels a burst converts. -/
def Burst.channels : Burst → Nat
  | .periodic true => 3
  | .periodic false => 2
  | .event _ => 1

/-- CONVERTER_WAKE_END (R65, Table 4-5): PEND gives way to BUSY, 20 µs per channel. -/
def execConverterWakeEnd (s : State) : Host.Outcome State Fault Refusal :=
  answerNext
    (match s.dock.converter with
     | .pend b due =>
       let reached := s.reachInstant due
       { reached with
         dock := { reached.dock with converter := .busy b (reached.clock.plusUs (20 * b.channels)) } }
     | .busy _ _ => s
     | .idle => s)

/-! ### Results and comparators (R66 to R69) -/

/-- A new result with its fresh mark consumed by the judging that follows in the same step. -/
def Channel.judged (code : BitVec 10) : Channel := { last := some code, fresh := false }

/-- The CH0 comparator (R67): a result for the pull-in the coil is still driven for is judged against 600..2,400 mA. -/
def State.judgeCh0 (pullIn : Nat) (code : BitVec 10) (s : State) : State :=
  if decide (s.dock.coil ≠ .off) && decide (s.dock.pullIns = pullIn) then
    if coilMilliamps code < 600 then (s.raisePost .coilOpen).abortDrive
    else if 2400 < coilMilliamps code then (s.raisePost .coilShort).abortDrive
    else s
  else s

/-- The CH1 comparator (R68). A reading below 5 % raises LOW-CHARGE and then FLAT, each with its FLT and its evaluation, and
one of 20 % or more clears both as one change, with one evaluation at the level they leave; R68 and R170 leave the order
open (DESIGN CHOICE, log 11). -/
def State.judgeCh1 (code : BitVec 10) (s : State) : State :=
  let percent := chargePercent code
  let low := if percent < 15 then s.raiseLowCharge else s
  let flat := if percent < 5 then low.raiseFlat else low
  if 20 ≤ percent then
    let cleared : State := { flat with fault := { flat.fault with lowCharge := false, flat := false } }
    cleared.evaluateSince flat
  else flat

/-- The CH2 comparator (R69). -/
def State.judgeCh2 (code : BitVec 10) (s : State) : State :=
  if supplyMillivolts code < 20000 then s.raisePost .supplyLow
  else if 21000 < supplyMillivolts code then s.clearPost .supplyLow
  else s

/-- The CH3 comparator, with the lamp as it was at the conversion (R69). -/
def State.judgeCh3 (lit : Bool) (code : BitVec 10) (s : State) : State :=
  if lit && decide (lampMilliamps code < 20) then s.raisePost .lamp else s

/-- CH0's result is stored and judged (R66, R67). -/
def State.takeCh0 (pullIn : Nat) (code : BitVec 10) (s : State) : State :=
  { s with dock := { s.dock with ch0 := Channel.judged code } }.judgeCh0 pullIn code

/-- CH1's result is stored and judged, or discarded when the bike has left (R65, R68). -/
def State.takeCh1 (code : BitVec 10) (s : State) : State :=
  if s.dock.docked then { s with dock := { s.dock with ch1 := Channel.judged code } }.judgeCh1 code else s

/-- CH2's result is stored and judged (R69). -/
def State.takeCh2 (code : BitVec 10) (s : State) : State :=
  { s with dock := { s.dock with ch2 := Channel.judged code } }.judgeCh2 code

/-- CH3's result is stored and judged (R69). -/
def State.takeCh3 (lit : Bool) (code : BitVec 10) (s : State) : State :=
  { s with dock := { s.dock with ch3 := Channel.judged code } }.judgeCh3 lit code

/-- The burst's channels are stored and judged in the order of their conversion (R65, R66; log 41). -/
def State.takeBurst (b : Burst) (code0 code1 code2 code3 : BitVec 10) (s : State) : State :=
  match b with
  | .event pullIn => s.takeCh0 pullIn code0
  | .periodic true => ((s.takeCh1 code1).takeCh2 code2).takeCh3 s.lampLit code3
  | .periodic false => (s.takeCh2 code2).takeCh3 s.lampLit code3

/-- After a burst: a held event burst, else a held periodic burst, else IDLE (R65). -/
def State.nextBurst (s : State) : State :=
  match s.dock.pendingEvent, s.dock.pendingPeriodic with
  | some pullIn, _ => { s with dock := { s.dock with pendingEvent := none } }.startBurst (.event pullIn)
  | none, true => { s with dock := { s.dock with pendingPeriodic := false } }.startBurst s.periodicBurst
  | none, false => { s with dock := { s.dock with converter := .idle } }

/-- BURST_COMPLETE (R65 to R69). -/
def execBurstComplete (code0 code1 code2 code3 : BitVec 10) (s : State) : Host.Outcome State Fault Refusal :=
  answerNext
    (match s.dock.converter with
     | .busy b due => ((s.reachInstant due).takeBurst b code0 code1 code2 code3).nextBurst
     | .pend _ _ => s
     | .idle => s)

end Sys2Proof.Machine
end

