-- ==== Sys2Proof/Machine/DockEvents.lean ====
section
/-! DEFINITION. The commands of the bolt, the mouth, the button and the lamp (chapter 4, POST role). -/

namespace Sys2Proof.Machine

/-! ### The bolt's edges (R49, R52, R55, R57) -/

/-- What an open edge does, by the bolt state: a push-aside in CLOSED, seen open in OPENING, discarded in JAMMED. -/
def State.openEdgeAct (s : State) : State :=
  match s.dock.bolt with
  | .closed =>
    let consumed := s.consume .boltOpen
    { consumed with dock := { consumed.dock with pushAsideAt := some (s.clock.ms + 2000) } }
  | .opening =>
    let consumed := s.consume .boltOpen
    let seen := { consumed with dock := { consumed.dock with seenOpen := true } }
    if s.dock.pullInEndAt.isNone then seen.becomeHeld else seen
  | .held => s
  | .closing => s
  | .jammed => s.consume .boltOpen

/-- The filtered bolt sensor changes from closed to open. -/
def State.boltOpens (s : State) : State :=
  { s.stamp .boltOpen with dock := { s.dock with sensorOpen := true } }.openEdgeAct

/-- OPEN_EDGE (R45, R52, R55, R57). -/
def execOpenEdge (s : State) : Host.Outcome State Fault Refusal :=
  answerNext (if s.isPost && !s.dock.sensorOpen then s.boltOpens else s)

/-- What a closed edge does, by the bolt state: a drop under drive, a seating, and the docking test with the coil OFF. -/
def State.closedEdgeAct (s : State) : State :=
  match s.dock.bolt with
  | .closed => { s with dock := { s.dock with pushAsideAt := none } }.dockingTest
  | .opening => if s.dock.seenOpen then (s.consume .boltClosed).boltDropped else s
  | .held => (s.consume .boltClosed).boltDropped
  | .closing => s.seat.dockingTest
  | .jammed => s.dockingTest

/-- The filtered bolt sensor changes from open to closed. -/
def State.boltCloses (s : State) : State :=
  { s.stamp .boltClosed with dock := { s.dock with sensorOpen := false } }.closedEdgeAct

/-- CLOSED_EDGE (R45, R52 to R57, R71). -/
def execClosedEdge (s : State) : Host.Outcome State Fault Refusal :=
  answerNext (if s.isPost && s.dock.sensorOpen then s.boltCloses else s)

/-! ### The bolt's timers (R50, R52 to R55, R71) -/

/-- The pull-in ends: hold duty from the next period boundary, and HELD when the bolt has been seen open (R52). -/
def State.pullInEnds (s : State) : State :=
  match s.dock.pullInEndAt with
  | some due =>
    let reached := s.reachMs due
    let holding :=
      { reached with
        dock := { reached.dock with
          pullInEndAt := none, coil := .hold, holdDutyFrom := some (reached.clock.ms + 1) } }
    if holding.dock.seenOpen then holding.becomeHeld else holding
  | none => s

/-- PULL_IN_END (R50, R52, R71). -/
def execPullInEnd (s : State) : Host.Outcome State Fault Refusal := answerNext s.pullInEnds

/-- ABORTED JAM: a release enters the settle procedure (R120), a self-test ends (R71). -/
def State.openCheckFails (s : State) : State :=
  let jammed := s.jam
  if jammed.dock.selfTest.isSome then jammed.endSelfTest
  else if jammed.dock.release then { jammed with dock := { jammed.dock with release := false } }.startSettle
  else jammed

/-- The open check expires (R52). -/
def State.openCheckDue (s : State) : State :=
  match s.dock.openCheckAt with
  | some due =>
    let reached := s.reachMs due
    let taken := { reached with dock := { reached.dock with openCheckAt := none } }
    if decide (taken.dock.bolt = .opening) && !taken.dock.seenOpen then taken.openCheckFails else taken
  | none => s

/-- OPEN_CHECK_EXPIRY (R52, R71, R120). -/
def execOpenCheckExpiry (s : State) : Host.Outcome State Fault Refusal := answerNext s.openCheckDue

/-- The take window expires while HELD: CLOSING, and NO-TAKE starts the settle procedure (R53, R121). -/
def State.takeWindowDue (s : State) : State :=
  match s.dock.takeWindowAt with
  | some due =>
    let reached := s.reachMs due
    let taken := { reached with dock := { reached.dock with takeWindowAt := none } }
    if taken.dock.bolt = .held then taken.enterClosing.startSettle.seatIfClosed else taken
  | none => s

/-- TAKE_WINDOW_EXPIRY (R53, R54, R121). -/
def execTakeWindowExpiry (s : State) : Host.Outcome State Fault Refusal := answerNext s.takeWindowDue

/-- The close check expires in CLOSING: JAMMED with JAM, and NOT-SEATED ends the release or the self-test (R54, R71). -/
def State.closeCheckDue (s : State) : State :=
  match s.dock.closeCheckAt with
  | some due =>
    let reached := s.reachMs due
    let taken := { reached with dock := { reached.dock with closeCheckAt := none } }
    if taken.dock.bolt = .closing then
      let jammed := taken.jam
      { jammed with dock := { jammed.dock with release := false } }.endSelfTest
    else taken
  | none => s

/-- CLOSE_CHECK_EXPIRY (R54, R71). -/
def execCloseCheckExpiry (s : State) : Host.Outcome State Fault Refusal := answerNext s.closeCheckDue

/-- The push-aside limit expires with the sensor still open (R55). -/
def State.pushAsideDue (s : State) : State :=
  match s.dock.pushAsideAt with
  | some due =>
    let reached := s.reachMs due
    let taken := { reached with dock := { reached.dock with pushAsideAt := none } }
    if taken.dock.sensorOpen && decide (taken.dock.bolt = .closed) then taken.jam else taken
  | none => s

/-- PUSH_ASIDE_LIMIT_EXPIRY (R55). -/
def execPushAsideLimitExpiry (s : State) : Host.Outcome State Fault Refusal := answerNext s.pushAsideDue

/-- HOLD_PHASE_END (R71): the self-test's hold gives way to its close phase. -/
def execHoldPhaseEnd (s : State) : Host.Outcome State Fault Refusal :=
  answerNext
    (match s.dock.holdEndAt with
     | some due => (s.reachMs due).selfTestCloses
     | none => s)

/-! ### The mouth (R58 to R60) -/

/-- The step of a pair of beam levels in Table 4-3. -/
def beamPhase (aBroken bBroken : Bool) : Nat :=
  match aBroken, bBroken with
  | false, false => 0
  | true, false => 1
  | true, true => 2
  | false, true => 3

/-- Both beams changed in one millisecond (R60). -/
def State.beamNoise (s : State) : State :=
  if decide (PostFault.sensor ∈ s.fault.raised) then s
  else
    let noisy := { s with dock := { s.dock with noise := min (s.dock.noise + 1) 16 } }
    if noisy.dock.noise = 16 then noisy.raisePost .sensor else noisy

/-- The phase moved one step forward (R59). -/
def State.countUp (s : State) : State :=
  let counted := { s with dock := { s.dock with count := min (s.dock.count + 1) 15 } }
  if s.dock.count = 5 then counted.stamp .mouthIn else counted

/-- The count has reached 0 from 1 (R53, R58, R59): the mouth-out slot is stamped, an entry without a docking is
discarded, and the bike is taken or leaves. -/
def State.mouthEmpties (s : State) : State :=
  let stamped := s.stamp .mouthOut
  let kept := if s.dock.docked then stamped else (stamped.consume .mouthOut).consume .mouthIn
  if kept.dock.bolt = .held then kept.takeWhileHeld
  else if kept.dock.sensorOpen then kept.bikeLeaves
  else kept

/-- The phase moved one step backward (R59). -/
def State.countDown (s : State) : State :=
  let counted := { s with dock := { s.dock with count := s.dock.count - 1 } }
  if s.dock.count = 1 then counted.mouthEmpties else counted

/-- The filtered beam levels change (R59, R60). -/
def State.beamsChange (aBroken bBroken : Bool) (s : State) : State :=
  let phased := { s with dock := { s.dock with beamA := aBroken, beamB := bBroken } }
  let before := beamPhase s.dock.beamA s.dock.beamB
  let after := beamPhase aBroken bBroken
  if after = before then s
  else if after = (before + 1) % 4 then phased.countUp
  else if before = (after + 1) % 4 then phased.countDown
  else phased.beamNoise

/-- BEAM_EDGE (R53, R58 to R60). -/
def execBeamEdge (aBroken bBroken : Bool) (s : State) : Host.Outcome State Fault Refusal :=
  answerNext (if s.isPost then s.beamsChange aBroken bBroken else s)

/-! ### The button (R61, R62) -/

/-- A debounced press (R61, R62): the slot is stamped and consumed by the burst count. -/
def State.buttonPressed (s : State) : State :=
  let consumed := (s.stamp .button).consume .button
  { consumed with
    dock := { consumed.dock with
      pressed := true, pressAt := some s.clock.ms,
      burst := some
        (match s.dock.burst with
         | some b => { b with count := min (b.count + 1) 255, endAt := s.clock.ms + 3000 }
         | none => { count := 1, discarded := false, endAt := s.clock.ms + 3000 }) } }

/-- BUTTON_PRESS (R45, R61, R62). -/
def execButtonPress (s : State) : Host.Outcome State Fault Refusal :=
  answerNext (if s.isPost && !s.dock.pressed then s.buttonPressed else s)

/-- BUTTON_RELEASE (R61). -/
def execButtonRelease (s : State) : Host.Outcome State Fault Refusal :=
  answerNext (if s.isPost then { s with dock := { s.dock with pressed := false } } else s)

/-- The press burst closes, and its count goes to the fault unit unless it is discarded (R62, R157). -/
def State.burstEnds (s : State) : State :=
  match s.dock.burst with
  | some b =>
    let reached := s.reachMs b.endAt
    let closed := { reached with dock := { reached.dock with burst := none } }
    if b.discarded then closed else closed.memberReport b.count
  | none => s

/-- BURST_END_EXPIRY (R62, R157). -/
def execBurstEndExpiry (s : State) : Host.Outcome State Fault Refusal := answerNext s.burstEnds

/-! ### The lamp (R63, R64) -/

/-- A phase of a flash ends after 200 ms; a refusal display stays dark after its last flash (R64). -/
def State.flashPhaseEnds (s : State) : State :=
  match s.dock.lamp.phaseAt with
  | some due =>
    let reached := s.reachMs due
    let phase := s.dock.lamp.phase + 1
    let dark := decide (s.dock.lamp.row = .refusalRedFlash) &&
      (match s.dock.refusal with
       | some r => decide (2 * r.flashes ≤ phase + 1)
       | none => true)
    { reached with
      dock := { reached.dock with
        lamp := { s.dock.lamp with phase := phase, phaseAt := if dark then none else some (due + 200) } } }
  | none => s

/-- FLASH_PHASE_EXPIRY (R64). -/
def execFlashPhaseExpiry (s : State) : Host.Outcome State Fault Refusal := answerNext s.flashPhaseEnds

/-- REFUSAL_DISPLAY_END (R64). -/
def execRefusalDisplayEnd (s : State) : Host.Outcome State Fault Refusal :=
  answerNext
    (match s.dock.refusal with
     | some r =>
       let reached := s.reachMs r.endAt
       { reached with dock := { reached.dock with refusal := none } }
     | none => s)

/-- CREW_ACKNOWLEDGEMENT_END (R64). -/
def execCrewAcknowledgementEnd (s : State) : Host.Outcome State Fault Refusal :=
  answerNext
    (match s.dock.crewAckAt with
     | some due =>
       let reached := s.reachMs due
       { reached with dock := { reached.dock with crewAckAt := none } }
     | none => s)

end Sys2Proof.Machine
end

