-- ==== Sys2Proof/Machine/FrameOps.lean ====
section
/-! DEFINITION. What a station does with the line: the receiver's characters and frames, the end of an attempt, the
peer table, the adoption of time, and each listening block's taking of a notice (chapters 1 to 3 and 6 to 11). -/

namespace Sys2Proof.Machine

/-! ### Adoption of time and back-dating (R39, R40, R47) -/

/-- A pending conversion made with a base pair; a made or lapsed one stays. -/
def SchemeMs.convert (base : BasePair) (at_ : Ms) : SchemeMs → SchemeMs
  | .known ms => .known ms
  | .pending => .known (schemeFrom base at_)
  | .unknown => .unknown

/-- A capture with its pending conversion made. -/
def Capture.convert (base : BasePair) (c : Capture) : Capture := { c with scheme := c.scheme.convert base c.ms }

/-- A settlement slot with its pending end made. A DONE slot's settlement keeps the end it was made with, so that the STL
offered again is the same STL (R143) and the write-back carries its end (R145), where R47 could be read to convert that
too (DEDUCED, log 31). -/
def Slot.convert (base : BasePair) (slot : Slot) : Slot :=
  { slot with record := { slot.record with end_ := slot.record.end_.convert base slot.record.capture } }

/-- Back-dating (R47): every holder of a pending conversion receives it, and each GATHERING slot's TIME mark is tested
again (R132). -/
def State.backDate (base : BasePair) (s : State) : State :=
  { s with
    time := { s.time with
      boltClosed := s.time.boltClosed.map (Capture.convert base)
      boltOpen := s.time.boltOpen.map (Capture.convert base)
      mouthIn := s.time.mouthIn.map (Capture.convert base)
      mouthOut := s.time.mouthOut.map (Capture.convert base)
      button := s.time.button.map (Capture.convert base)
      card := s.time.card.map (Capture.convert base) }
    tag := { s.tag with docking := s.tag.docking.map (Capture.convert base) }
    dock := { s.dock with dockedSince := s.dock.dockedSince.map (Capture.convert base) }
    settle := { s.settle with
      slotA := s.settle.slotA.map (Slot.convert base)
      slotB := s.settle.slotB.map (Slot.convert base) } }.markSlots
    (fun r m => (endMissing r.end_, m.2.1, m.2.2))

/-- The staleness limit and the carry's stride (R41, R42). -/
def dayMs : Ms := 86400000

/-- Time is adopted at the present local ms (R39, R40); the first adoption performs back-dating. -/
def State.adoptTime (schemeMs : Nat) (s : State) : State :=
  let base : BasePair := { localMs := s.clock.ms, schemeMs := schemeMs }
  let adopted : State :=
    { s with
      time := { s.time with
        base := some base, quality := .set, staleAt := some (s.clock.ms + dayMs), carryAt := none } }
  if s.timeUnset then adopted.backDate base else adopted

/-- A TIM taken from sender 0 (R39). -/
def State.takeTim (body : List Byte) (s : State) : State :=
  if fieldAt body 4 2 ≤ 999 then s.adoptTime (fieldAt body 0 4 * 1000 + fieldAt body 4 2) else s

/-! ### The van window (R165 to R167, R171, R172, R177) -/

/-- The window closes (R166): hold and target end, the accepted list and the own offer go; the van tells its host. -/
def State.closeWindow (cause : WindowCause) (s : State) : State :=
  match s.van.window with
  | some w =>
    let closed : State :=
      { s with
        van := { s.van with
          window := none, offer := .none_, voidMark := false, retryAt := none, hold := false, target := false } }
    if s.isVan then closed.appendEvent { at_ := s.clock.ms, body := .windowClosed w.serial w.crew cause } else closed
  | none => s

/-- A window opens with a VOP's values (R165); a post evaluates its offer. -/
def State.openWindow (v : VopValues) (s : State) : State :=
  let opened : State :=
    { s with
      van := { s.van with
        window := some
          { serial := v.serial, mode := v.mode, places := v.places, crew := v.crew,
            expiresAt := s.clock.ms + BitVec.ofNat 32 (v.seconds * 1000), accepted := [] }
        offer := .none_, voidMark := false, retryAt := none } }
  opened.evaluateOffer

/-- A VOP taken from sender 31 (R165). -/
def State.takeVop (body : List Byte) (s : State) : State :=
  match vopOf body with
  | some v =>
    match s.van.window with
    | some w => if w.serial = v.serial then s else (s.closeWindow .newVop).openWindow v
    | none => s.openWindow v
  | none => s

/-- A VCL taken from sender 31 closes the window of its serial (R166). -/
def State.takeVcl (body : List Byte) (s : State) : State :=
  match s.van.window with
  | some w => if w.serial = fieldAt body 0 1 then s.closeWindow .vcl else s
  | none => s

/-- R167's tests of an OFR against an open window. -/
def VanWindow.admits (w : VanWindow) (sender : Nat) (body : List Byte) : Bool :=
  decide (w.serial = fieldAt body 0 1) && decide (1 ≤ sender) && decide (sender ≤ 30) &&
    (decide (w.mode = .collect) || decide (fieldAt body 1 4 = 0)) && !w.accepts sender &&
    decide (w.accepted.length < w.places)

/-- The own OFR was appended (R172): ACCEPTED, with van hold or a deliver target unless the void mark is set. -/
def State.offerAccepted (w : VanWindow) (s : State) : State :=
  let accepted := { s with van := { s.van with offer := .accepted } }
  if s.van.voidMark then accepted
  else
    match w.mode with
    | .collect =>
      if s.dock.docked then { accepted with van := { accepted.van with hold := true, holdSerial := w.serial } }
      else accepted
    | .deliver =>
      if s.dock.docked then accepted else { accepted with van := { accepted.van with target := true } }

/-- The own offer is the QUEUED one that this frame answers. -/
def State.ownOfferSent (s : State) (own : Option Nat) : Bool :=
  decide (s.van.offer = .queued) && decide (own = some s.van.offerRef)

/-- The accepted list takes an OFR (R167). At a post an own entry is accepted (R172), and upon any other the post
evaluates its offer; at the van it makes an OFFER event (R177). -/
def State.appendOffer (w : VanWindow) (sender : Nat) (body : List Byte) (s : State) : State :=
  let entry : Accepted :=
    { station := sender, bikeId := fieldAt body 1 4, rank := fieldAt body 5 1, heard := s.clock.ms }
  let appended : State :=
    { s with van := { s.van with window := some { w with accepted := w.accepted ++ [entry] } } }
  if s.isVan then
    appended.appendEvent { at_ := s.clock.ms, body := .offer w.serial sender entry.bikeId entry.rank }
  else if sender = s.number then appended.offerAccepted w
  else appended.evaluateOffer

/-- An OFR taken intact, `own` being the reference of the own frame handed back (R167, R171). -/
def State.takeOfr (sender : Nat) (body : List Byte) (own : Option Nat) (s : State) : State :=
  match s.van.window with
  | some w =>
    if w.admits sender body then s.appendOffer w sender body
    else if s.ownOfferSent own then { s with van := { s.van with offer := .notAccepted } }
    else s
  | none => s

/-! ### The claim list (R110, R111) -/

/-- The list without the entries of a claimant and claim serial that also satisfy `f`. -/
def dropClaims (claimant : Nat) (serial : BitVec 8) (f : Claim → Bool) (claims : List Claim) : List Claim :=
  claims.filter (fun c => !(decide (c.claimant = claimant) && decide (c.serial = serial) && f c))

/-- The list after a CLM: a duplicate goes, then the oldest of a full list, and the new entry is the newest (R110). -/
def enterClaim (c : Claim) (claims : List Claim) : List Claim :=
  let kept := dropClaims c.claimant c.serial (fun _ => true) claims
  kept.drop (kept.length + 1 - 16) ++ [c]

/-- A CLM taken intact (R110). -/
def State.takeClm (sender : Nat) (serial : BitVec 8) (body : List Byte) (s : State) : State :=
  if decide (fieldAt body 0 4 = 0) || decide (fieldAt body 4 1 < 1) || decide (4 < fieldAt body 4 1) then s
  else
    { s with
      hire := { s.hire with
        claims := enterClaim { member := fieldAt body 0 4, claimant := sender, serial := serial, heard := s.clock.ms }
          s.hire.claims } }

/-- The claim of a sender, serial and member leaves the list (R111). -/
def State.removeClaim (sender : Nat) (serial : BitVec 8) (member : Nat) (s : State) : State :=
  { s with
    hire := { s.hire with
      claims := dropClaims sender serial (fun c => decide (c.member = member)) s.hire.claims } }

/-- A claim serial in a body's first byte. -/
def claimSerialOf (body : List Byte) : BitVec 8 := BitVec.ofNat 8 (fieldAt body 0 1)

/-! ### The member view (R92 to R98, R100) -/

/-- The view with an entry replaced or inserted whole, as the most recently used; a full view loses its least recently
used entry first (R92, R93). -/
def MemberView.put (v : MemberView) (e : ViewEntry) : MemberView :=
  let kept := v.entries.filter (fun x => decide (x.member ≠ e.member))
  { v with entries := kept.drop (kept.length + 1 - 256) ++ [e] }

/-- An MBR that passes R93 at a post: the view takes it, and an outstanding lookup for its member is ANSWERED (R100). -/
def State.takeMbr (body : List Byte) (s : State) : State :=
  match mbrOf body with
  | some e =>
    let put := { s with view := s.view.put e }
    match s.view.lookup with
    | some l =>
      if l.card.member = e.member then
        let ended := { put with view := { put.view with lookup := none } }
        if s.hire.state = .lookup then ended.lookupAnswered l.card (ended.answerOf e) else ended
      else put
    | none => put
  | none => s

/-- An HIR applied to the view (R97). -/
def MemberView.hired (v : MemberView) (member : Nat) : MemberView :=
  match decide (member ≠ 0), v.find member with
  | true, some e => v.use { e with bikesOut := min (e.bikesOut + 1) 15 }
  | _, _ => v

/-- The day index and day spend of an entry after an STL that carries a fare (R98). A new day spend above 999,999, outside
the range of Table 6-3, is stored as received: R98 tests none (DESIGN CHOICE, log 32). -/
def ViewEntry.charged (e : ViewEntry) (day spend : Nat) : ViewEntry :=
  if day = e.day then { e with spend := max e.spend spend }
  else if e.day < day then { e with day := day, spend := spend }
  else e

/-- The fare field of an STL body carries a fare and not UNRATED. A value that Table 12-3 does not list, 1,000,000 to
FFFFFEH, counts as a fare: neither R98 nor R191 disposes of it (DESIGN CHOICE, log 32). -/
def stlRated (body : List Byte) : Bool := decide (fieldAt body 18 3 ≠ Fare.unrated.code)

/-- An STL applied to the view (R98). -/
def MemberView.settled (v : MemberView) (body : List Byte) : MemberView :=
  match decide (fieldAt body 0 4 ≠ 0), v.find (fieldAt body 0 4) with
  | true, some e =>
    let returned := { e with bikesOut := e.bikesOut - 1 }
    v.use (if stlRated body then returned.charged (fieldAt body 27 2) (fieldAt body 24 3) else returned)
  | _, _ => v

/-- The entry a LOOKUP event carries: the view's, with the day spend as read (R187). -/
def State.lookupEntry (s : State) (member : Nat) : Option ViewEntry :=
  (s.view.find member).map (fun e => { e with spend := s.daySpend e })

/-! ### Fault clear (R158) -/

/-- The held TAG mark is cleared (R158). -/
def State.clearTagMark (s : State) : State :=
  let cleared : State := { s with fault := { s.fault with tagMark := false } }
  cleared.evaluateSince s

/-- An FCL taken from sender 0 (R158): the held TAG mark goes before the entries (log 11); one with a class not listed is
disregarded (R191, log 36). -/
def State.takeFcl (body : List Byte) (s : State) : State :=
  let cls := fieldAt body 4 1
  if s.dock.docked && decide (s.copyId.map IdSection.bikeId = some (fieldAt body 0 4)) && clearableClass cls then
    (if decide (cls = 0) || decide (cls = 8) then s.clearTagMark else s).changeFaults (.remove cls)
  else s

/-! ### The peer table (R28 to R35) -/

/-- A peer change is handed to the listeners of the role (R31), in the order R31 lists them (log 9). At a post the offer is
evaluated and then the duplicate-bike check made; elsewhere the event queue takes it. -/
def State.peerChange (n : Nat) (fieldsChanged : Bool) (s : State) : State :=
  match s.straps.role with
  | .post => s.evaluateOffer.duplicateCheck
  | .terminal =>
    s.appendEvent { at_ := s.clock.ms, body := .peerChange n (s.storedPeer n).state fieldsChanged }
  | .van => s.appendEvent { at_ := s.clock.ms, body := .peerChange n (s.storedPeer n).state fieldsChanged }
  | .monitor => s

/-- A peer entry replaced. -/
def State.setPeer (n : Nat) (p : Peer) (s : State) : State :=
  { s with peers := { s.peers with entries := s.peers.entries.set n p } }

/-- A station id is adopted, and the STATION mark of each GATHERING slot is cleared (R32, R132). -/
def State.adoptStation (id : Nat) (s : State) : State :=
  { s with peers := { s.peers with adoptedId := id } }.markSlots (fun _ m => (m.1, m.2.1, false))

/-- A conflicting station id (R33): a post raises IDCONF once. -/
def State.stationConflict (s : State) : State :=
  if s.isPost && !s.peers.conflictSeen then
    { s with peers := { s.peers with conflictSeen := true } }.raisePost .idConf
  else s

/-- A BCN from sender 0 is offered to station-id adoption (R32, R33). -/
def State.offerStationId (b : Beacon) (s : State) : State :=
  if s.isTerminal || decide (b.role ≠ roleCode .terminal) || decide (b.stationId = 0) then s
  else if s.peers.adoptedId = 0 then s.adoptStation b.stationId
  else if s.peers.adoptedId ≠ b.stationId then s.stationConflict
  else s

/-- The beacon fields the entry of a frame's sender holds after the frame: a BCN replaces them (R29), any other kind leaves
them as they were (R28). -/
def State.beaconAfter (f : Frame) (s : State) : Option Beacon :=
  if f.kind = .bcn then some (bcnOf f.body) else (s.storedPeer f.sender).beacon

/-- An intact frame replaces the sender's beacon fields by fields that differ (R31). -/
def State.changesFields (f : Frame) (s : State) : Bool := decide (s.beaconAfter f ≠ (s.storedPeer f.sender).beacon)

/-- An intact frame from another station makes a peer change: of its entry's state, or of its beacon fields (R31). -/
def State.makesPeerChange (f : Frame) (s : State) : Bool :=
  decide ((s.storedPeer f.sender).state ≠ .live) || s.changesFields f

/-- The peer table takes an intact frame from another station (R28, R29): the entry is heard, a BCN replaces its beacon,
and the terminal's beacon is offered to station-id adoption. -/
def State.peerHears (f : Frame) (s : State) : State :=
  let heard :=
    s.setPeer f.sender
      { state := .live, beacon := s.beaconAfter f, heard := some s.clock.ms, silenceAt := some (s.clock.ms + 6000) }
  if decide (f.kind = .bcn) && decide (f.sender = 0) then heard.offerStationId (bcnOf f.body) else heard

/-- The peer change, if any, that a frame made to the table as it was in `before` is handed on (R31). -/
def State.handOn (f : Frame) (s before : State) : State :=
  if before.makesPeerChange f then s.peerChange f.sender (before.changesFields f) else s

/-- The own entry's heard time, after the station's own frame (R14, R27). -/
def State.hearSelf (s : State) : State :=
  s.setPeer s.number { s.storedPeer s.number with heard := some s.clock.ms }

/-! ### The listening blocks -/

/-- A post's blocks take a notice (chapters 2, 3 and 6 to 10). -/
def State.postTakes (f : Frame) (own : Option Nat) (s : State) : State :=
  match f.kind with
  | .clm => s.takeClm f.sender f.serial f.body
  | .wdr => s.removeClaim f.sender (claimSerialOf f.body) (fieldAt f.body 1 4)
  | .ofr => s.takeOfr f.sender f.body own
  | .hir =>
    { s with view := s.view.hired (fieldAt f.body 1 4) }.removeClaim f.sender (claimSerialOf f.body)
      (fieldAt f.body 1 4)
  | .stl => { s with view := s.view.settled f.body }
  | .flt => s
  | .fcl => if f.sender = 0 then s.takeFcl f.body else s
  | .lkp => s
  | .mbr => if f.sender = 0 then s.takeMbr f.body else s
  | .vop => if f.sender = 31 then s.takeVop f.body else s
  | .vtk => s
  | .vcl => if f.sender = 31 then s.takeVcl f.body else s
  | .bcn => s
  | .tim => if f.sender = 0 then s.takeTim f.body else s
  | .trf => if f.sender = 0 then s.takeTrf f.body else s

/-- The terminal's blocks take a notice: its view follows HIR and STL, and the host is told (R97, R98, Table 11-4). -/
def State.terminalTakes (f : Frame) (s : State) : State :=
  match f.kind with
  | .clm => s
  | .wdr => s
  | .ofr => s
  | .hir =>
    { s with view := s.view.hired (fieldAt f.body 1 4) }.appendEvent
      { at_ := s.clock.ms, body := .hire f.sender f.body }
  | .stl =>
    { s with view := s.view.settled f.body }.appendEvent { at_ := s.clock.ms, body := .settle f.sender f.body }
  | .flt => s.appendEvent { at_ := s.clock.ms, body := .fault f.sender f.body }
  | .fcl => s
  | .lkp =>
    s.appendEvent
      { at_ := s.clock.ms,
        body := .lookup f.sender (fieldAt f.body 0 4) (fieldAt f.body 4 1) (s.lookupEntry (fieldAt f.body 0 4)) }
  | .mbr => s
  | .vop => s
  | .vtk => s.appendEvent { at_ := s.clock.ms, body := .vanTake f.sender f.body }
  | .vcl => s
  | .bcn => s
  | .tim => s
  | .trf => s

/-- The van's blocks take a notice (R39, R167, R177). -/
def State.vanTakes (f : Frame) (s : State) : State :=
  match f.kind with
  | .clm => s
  | .wdr => s
  | .ofr => s.takeOfr f.sender f.body none
  | .hir => s
  | .stl => s
  | .flt => s
  | .fcl => s
  | .lkp => s
  | .mbr => s
  | .vop => if f.sender = 31 then s.takeVop f.body else s
  | .vtk => s.appendEvent { at_ := s.clock.ms, body := .vanTake f.sender f.body }
  | .vcl => if f.sender = 31 then s.takeVcl f.body else s
  | .bcn => s
  | .tim => if f.sender = 0 then s.takeTim f.body else s
  | .trf => s

/-- A monitor adopts time, and hands its host every frame (R39, R187). -/
def State.monitorTakes (f : Frame) (s : State) : State :=
  (if decide (f.kind = .tim) && decide (f.sender = 0) then s.takeTim f.body else s).appendEvent
    { at_ := s.clock.ms, body := .heard f.kind f.sender f.serial f.body }

/-- The blocks of the role that listen for the kind take the frame. -/
def State.blocksTake (f : Frame) (own : Option Nat) (s : State) : State :=
  match s.straps.role with
  | .post => s.postTakes f own
  | .terminal => s.terminalTakes f
  | .van => s.vanTakes f
  | .monitor => s.monitorTakes f

/-! ### The end of an attempt (R9, R10, R14, R15, R19) -/

/-- The entry in transmission. -/
def Line.txEntry (l : Line) : Option TxEntry := l.queue.find? l.inTransmission

/-- The held beacon body is offered as a new BCN (R9). -/
def State.offerHeld (s : State) : State :=
  match s.line.heldBeacon with
  | some body => { s with line := { s.line with heldBeacon := none } }.send .bcn body
  | none => s

/-- The held beacon body replaces the contended beacon's body in place (R9). -/
def State.replaceHeld (e : TxEntry) (s : State) : State :=
  match s.line.heldBeacon with
  | some body =>
    { s with line := { s.line with heldBeacon := none, queue := replaceBody e.ref body s.line.queue } }
  | none => s

/-- An entry leaves the queue and its owner is answered "line busy" (R10, R19). -/
def State.removeBusy (e : TxEntry) (s : State) : State :=
  { s with line := { s.line with queue := removeEntry e.ref s.line.queue } }.answerBusy e

/-- A contended entry is removed at the end of its attempt when its deadline has passed (R10), or when it is of class 0
under the clash mark (R19). -/
def State.contendedRemoves (s : State) (e : TxEntry) : Bool :=
  msReached e.deadline s.clock.ms || (s.line.clash && decide (e.kind.cls = 0))

/-- An attempt ends contended (R15): the entry keeps its place unless it is removed, and a held beacon body takes its
turn. -/
def State.endContended (s : State) : State :=
  match s.line.txEntry with
  | some e =>
    let ended := { s with line := { s.line with tx := none } }
    if s.contendedRemoves e then
      let removed := ended.removeBusy e
      if e.kind = .bcn then removed.offerHeld else removed
    else if e.kind = .bcn then ended.replaceHeld e
    else ended
  | none => { s with line := { s.line with tx := none } }

/-- The end of the first character of the station's own frame. -/
def State.ownMarkEnd (s : State) (t : Transmission) : Instant := t.start.plusUs (11 * s.bitUs)

/-- A frame the receiver still held is abandoned by the mark of the station's own first character, as of that character's
end (R6, R15, R18). -/
def State.abandonForOwn (t : Transmission) (s : State) : State :=
  match s.line.rx with
  | some _ => { s with line := { s.line with rx := none, rxCharEnd := none } }.badFrame (s.ownMarkEnd t).ms
  | none => s

/-! ### Intact frames from the line (R5, R19) -/

/-- The class 0 entries outside transmission are removed under the clash mark, each owner answered "line busy". -/
def State.clearClassZero (s : State) : State :=
  (s.line.queue.filter (fun e => decide (e.kind.cls = 0) && !s.line.inTransmission e)).foldl
    (fun s e => s.removeBusy e) s

/-- The clash mark is set (R19). The owners of the class 0 entries are answered first, in queue order, and then a post holds
CLASH; R19 lists these effects without an order (DESIGN CHOICE, log 41). -/
def State.setClash (s : State) : State :=
  { s with line := { s.line with clash := true } }.clearClassZero.raisePost .clash

/-- A frame from another station goes to the peer table and the listening blocks (R5). A peer change it makes is handed on
after station-id adoption and before the blocks take the frame, so that the PEER-CHANGE event comes first (R187; log 9);
but a post applies an OFR to the accepted list, with its evaluation, before its van window unit takes the change (R167). -/
def State.takeFromPeer (f : Frame) (s : State) : State :=
  let heard := s.peerHears f
  if s.isPost && decide (f.kind = .ofr) then (heard.blocksTake f none).handOn f s
  else (heard.handOn f s).blocksTake f none

/-- A frame taken intact (R5): the last sender is set; a sending station's own number is a clash (R19), any other frame
goes to the peer table and the listening blocks. -/
def State.takeFrame (f : Frame) (s : State) : State :=
  let taken := { s with line := { s.line with lastSender := f.sender } }
  if s.isOwnEntry f.sender then taken.setClash else taken.takeFromPeer f

/-! ### The receiver (R2 to R6) -/

/-- The frame in progress is given up as a bad frame. -/
def State.abandonFrame (s : State) : State :=
  { s with line := { s.line with rx := none, rxCharEnd := none } }.badFrame s.clock.ms

/-- A frame has ended with its second check character (R5). -/
def State.frameEnds (bytes : List Byte) (s : State) : State :=
  let out := { s with line := { s.line with rx := none, rxCharEnd := none } }
  match frameOf bytes with
  | some f => out.takeFrame f
  | none => out.badFrame s.clock.ms

/-- The receiver goes on in frame with these characters. -/
def State.inFrame (bytes : List Byte) (s : State) : State :=
  { s with line := { s.line with rx := some bytes, rxCharEnd := some s.clock } }

/-- A character without the mark is added to the frame in progress (R4, R5). -/
def State.extendFrame (bytes : List Byte) (s : State) : State :=
  if decide (4 ≤ bytes.length) && decide (48 < fieldAt bytes 3 1) then s.abandonFrame
  else if decide (4 ≤ bytes.length) && decide (bytes.length = 6 + fieldAt bytes 3 1) then s.frameEnds bytes
  else s.inFrame bytes

/-- A character is received at the end of its stop bit (R2, R4 to R6). -/
def State.receiveChar (c : LineChar) (s : State) : State :=
  match s.line.rx, c.stopGood, c.mark with
  | some _, false, _ => s.abandonFrame
  | none, false, _ => s
  | some _, true, true => s.abandonFrame.inFrame [c.data]
  | none, true, true => s.inFrame [c.data]
  | some bytes, true, false => s.extendFrame (bytes ++ [c.data])
  | none, true, false => s

/-- The clock at the end of the character in progress, which then is over; after a good stop bit the line is recessive
from there (R2, R3). -/
def State.characterEnds (c : LineChar) (s : State) : State :=
  let reached :=
    match s.line.charEndsAt with
    | some i => s.reachInstant i
    | none => s
  { reached with
    line := { reached.line with
      charEndsAt := none, quiet := none, wait := none,
      recessiveSince := if c.stopGood then some reached.clock else none } }

/-- The character is the first of this frame of the station's own, as it comes back from the line. -/
def Transmission.opensWith (t : Transmission) (c : LineChar) : Bool :=
  c.stopGood && c.mark && decide (t.bytes.head? = some c.data)

/-- A character from the line. While the station itself drives, only the first character of its own frame is one: it
abandons a frame the receiver still holds when it ends (R6, log 7); the others go with the end of the attempt. -/
def State.lineReceives (c : LineChar) (s : State) : State :=
  match s.line.tx with
  | some t => if t.opensWith c && s.line.rx.isSome then (s.reachInstant (s.ownMarkEnd t)).abandonForOwn t else s
  | none => (s.characterEnds c).receiveChar c

end Sys2Proof.Machine
end

