-- ==== Sys2Proof/Machine/FaultVanEvents.lean ====
section
/-! DEFINITION. The timers of the fault unit (chapter 9) and the van window unit (chapter 10). -/

namespace Sys2Proof.Machine

/-- REPORTING_WINDOW_EXPIRY (R155, R156). -/
def execReportingWindowExpiry (s : State) : Host.Outcome State Fault Refusal :=
  answerNext
    (match s.fault.window with
     | some w =>
       let reached := s.reachMs w.expiresAt
       { reached with fault := { reached.fault with window := none } }
     | none => s)

/-- WINDOW_EXPIRY (R166, R177). -/
def execWindowExpiry (s : State) : Host.Outcome State Fault Refusal :=
  answerNext
    (match s.van.window with
     | some w => (s.reachMs w.expiresAt).closeWindow .expiry
     | none => s)

/-- OFFER_RETRY_EXPIRY (R170, R171): the own offer is evaluated again. -/
def execOfferRetryExpiry (s : State) : Host.Outcome State Fault Refusal :=
  answerNext
    (match s.van.retryAt with
     | some due =>
       let reached := s.reachMs due
       { reached with van := { reached.van with retryAt := none } }.evaluateOffer
     | none => s)

end Sys2Proof.Machine
end

