-- ==== Sys2Proof/Machine/HireEvents.lean ====
section
/-! DEFINITION. The timers of the lookup, the claim list and the hire controller (chapters 6 and 7). -/

namespace Sys2Proof.Machine

/-- The lookup's timer expires (R101, R109). -/
def State.lookupDue (s : State) : State :=
  match s.view.lookup with
  | some l =>
    let reached := s.reachMs l.expiresAt
    let ended := { reached with view := { reached.view with lookup := none } }
    if ended.hire.state = .lookup then ended.lookupExpires l.card else ended
  | none => s

/-- LOOKUP_TIMER_EXPIRY (R101, R109). -/
def execLookupTimerExpiry (s : State) : Host.Outcome State Fault Refusal := answerNext s.lookupDue

/-- CLAIM_AGE_EXPIRY (R111): the oldest claim leaves the list 30,000 ms after it was heard. -/
def execClaimAgeExpiry (s : State) : Host.Outcome State Fault Refusal :=
  answerNext
    (match s.hire.claims with
     | c :: rest =>
       let reached := s.reachMs (c.heard + 30000)
       { reached with hire := { reached.hire with claims := rest } }
     | [] => s)

/-- The claim window's expiry instant, while the state is CLAIMING (R112). -/
def State.claimWindow (s : State) : Option Ms :=
  if s.hire.state = .claiming then s.hire.record.bind HireRecord.windowAt else none

/-- CLAIM_WINDOW_EXPIRY (R113, R115). -/
def execClaimWindowExpiry (s : State) : Host.Outcome State Fault Refusal :=
  answerNext
    (match s.claimWindow with
     | some due => ((s.reachMs due).onRecord (fun r => { r with windowAt := none })).claimWindowEnds
     | none => s)

/-- The settle procedure's expiry instant (R121). -/
def State.settleDue (s : State) : Option Ms :=
  if s.hire.state = .releasing then s.hire.record.bind HireRecord.settleAt else none

/-- The settle timer expires: a count of 6 or more cancels the hire, a lower one is a take (R121). -/
def State.settleEnds (s : State) : State :=
  if 6 ≤ s.dock.count then s.enterCancelling none else s.treatAsTaken

/-- SETTLE_TIMER_EXPIRY (R118, R121, R122). -/
def execSettleTimerExpiry (s : State) : Host.Outcome State Fault Refusal :=
  answerNext
    (match s.settleDue with
     | some due => (s.reachMs due).settleEnds
     | none => s)

end Sys2Proof.Machine
end

