-- ==== Sys2Proof/Machine/LineEvents.lean ====
section
/-! DEFINITION. The commands of the Dock Line (chapter 1) and FULL_RESET: what the line does to the station, and what
the station does to the line. A command whose condition does not hold changes nothing (log 4). -/

namespace Sys2Proof.Machine

/-! ### FULL_RESET -/

/-- FULL_RESET (R21 and every chapter's reset rule): the straps and raw levels are sampled at the release, and every
block holds its state after a full reset. -/
def execFullReset (straps : Straps) (boltReadsOpen beamABroken beamBBroken : Bool) (s : State) :
    Host.Outcome State Fault Refusal :=
  .next (State.atRelease straps boltReadsOpen beamABroken beamBBroken s.pending)

/-! ### Quiet and access -/

/-- The instant at which the line has been recessive for 22 bit-times, where the start of the stretch is known (R3). -/
def State.reachQuiet (s : State) : State :=
  match s.line.recessiveSince with
  | some i => s.reachInstant (i.plusUs (22 * s.bitUs))
  | none => s

/-- A stuck-line condition ends at quiet, and the 60,000 ms count of LINE runs from its end (R17, R18). -/
def State.endStuck (s : State) : State :=
  if s.line.stuck then
    { s with
      line := { s.line with
        stuck := false, lineClearAt := if s.line.lineRaised then some (s.clock.ms + 60000) else none } }
  else s

/-- The line becomes quiet (R3): a stuck line ends, and a station that holds a sendable frame starts its access wait
with the last sender held now (R12). -/
def State.becomeQuiet (s : State) : State :=
  let ended := s.reachQuiet.endStuck
  let still :=
    { ended with
      line := { ended.line with quiet := some { start := ended.clock, lastSender := ended.line.lastSender } } }
  { still with line := { still.line with wait := still.waitDue } }

/-- No character and no transmission is in progress. -/
def State.lineFree (s : State) : Bool := s.line.tx.isNone && s.line.charEndsAt.isNone

/-- QUIET (R3, R12, R17). -/
def execQuiet (s : State) : Host.Outcome State Fault Refusal :=
  answerNext (if s.lineFree && s.line.quiet.isNone then s.becomeQuiet else s)

/-- The access wait ends with the line still quiet, and the head frame starts (R12, R14). -/
def State.accessWaitEnds (s : State) : State :=
  match s.line.quiet, s.line.wait with
  | some q, some bits => (s.reachInstant (q.start.plusUs (bits * s.bitUs))).startTransmission
  | _, _ => s

/-- ACCESS_WAIT_EXPIRY (R12, R14, R183). -/
def execAccessWaitExpiry (s : State) : Host.Outcome State Fault Refusal := answerNext s.accessWaitEnds

/-! ### The end of an attempt -/

/-- The bit-times of a frame of these bytes (R1). -/
def frameBits (bytes : List Byte) : Nat := bytes.length * 11

/-- The characters completed before the bit that differed are received, and the character in progress goes on (R15). -/
def State.keepOwnCharacters (t : Transmission) (bit : Nat) (s : State) : State :=
  let whole := bit / 11
  let ended := t.start.plusUs (whole * 11 * s.bitUs)
  let heard :=
    if whole = 0 then s
    else
      let out := s.abandonForOwn t
      { out with line := { out.line with rx := some (t.bytes.take whole), rxCharEnd := some ended } }
  { heard with line := { heard.line with charEndsAt := some (ended.plusUs (11 * s.bitUs)) } }

/-- The echo check fails at `bit` of the frame: the line is released at the next bit boundary and the attempt is
contended (R15). -/
def State.echoFails (bit : Nat) (s : State) : State :=
  match s.line.tx with
  | some t =>
    if bit < frameBits t.bytes then
      ((s.reachInstant (t.start.plusUs ((bit + 1) * s.bitUs))).keepOwnCharacters t bit).endContended
    else s
  | none => s

/-- ECHO_CHECK_FAIL (R9, R10, R15, R19). -/
def execEchoCheckFail (bit : Nat) (s : State) : Host.Outcome State Fault Refusal := answerNext (s.echoFails bit)

/-- The owner's "sent" answer (R11, Table 1-3): the hire controller alone acts on one, that of its CLM (R112). -/
def State.answerSent (e : TxEntry) (serial : BitVec 8) (s : State) : State :=
  if e.kind = .clm then s.clmSent e.ref serial s.clock.ms else s

/-- The line controller's own part of a clean send (R14, R16). -/
def State.countSent (e : TxEntry) (s : State) : State :=
  { s with
    line := { s.line with
      queue := removeEntry e.ref s.line.queue, tx := none, serial := s.line.serial + 1, lastSender := s.number,
      recessiveSince := some s.clock } }

/-- The station's own frame, as handed back. -/
def State.ownFrame (s : State) (e : TxEntry) : Frame :=
  { kind := e.kind, sender := s.number, serial := s.line.serial, body := e.body }

/-- The frame was sent intact (R14): the entry goes, the serial advances, the frame is handed back, the owner is
answered, and a held beacon body is offered anew (R9). -/
def State.sentIntact (t : Transmission) (e : TxEntry) (s : State) : State :=
  let counted := (s.abandonForOwn t).countSent e
  let answered := (counted.hearSelf.blocksTake (s.ownFrame e) (some e.ref)).answerSent e s.line.serial
  if e.kind = .bcn then answered.offerHeld else answered

/-- The last stop bit of the station's own frame has ended. -/
def State.transmissionEnds (s : State) : State :=
  match s.line.tx, s.line.txEntry with
  | some t, some e => (s.reachInstant (t.start.plusUs (frameBits t.bytes * s.bitUs))).sentIntact t e
  | _, _ => s

/-- SENT_INTACT (R9, R14, R16). -/
def execSentIntact (s : State) : Host.Outcome State Fault Refusal := answerNext s.transmissionEnds

/-! ### Reception -/

/-- The character is the second check character of the frame in progress. -/
def endsFrame (bytes : List Byte) (c : LineChar) : Bool :=
  c.stopGood && !c.mark && decide (4 ≤ bytes.length) && decide (bytes.length + 1 = 6 + fieldAt bytes 3 1)

/-- The character abandons the frame in progress: a framing error, an early mark, or a length above 48 (R4, R6). -/
def abandonsFrame (bytes : List Byte) (c : LineChar) : Bool :=
  !c.stopGood || c.mark || (decide (bytes.length = 3) && decide (48 < c.data.toNat))

/-- FRAME_RECEIVED (R5, R19, and the rule of each listening block). -/
def execFrameReceived (c : LineChar) (s : State) : Host.Outcome State Fault Refusal :=
  answerNext
    (match s.line.rx with
     | some bytes => if endsFrame bytes c then s.lineReceives c else s
     | none => s)

/-- FRAME_ABANDONED (R4, R6, R18). -/
def execFrameAbandoned (c : LineChar) (s : State) : Host.Outcome State Fault Refusal :=
  answerNext
    (match s.line.rx with
     | some bytes => if abandonsFrame bytes c then s.lineReceives c else s
     | none => s)

/-- The 34th recessive bit-time begins inside a frame (R6). -/
def State.receiveGap (s : State) : State :=
  match s.line.rx, s.line.rxCharEnd with
  | some _, some i => if s.lineFree then (s.reachInstant (i.plusUs (33 * s.bitUs))).abandonFrame else s
  | _, _ => s

/-- RECEIVE_GAP_EXPIRY (R6, R18). -/
def execReceiveGapExpiry (s : State) : Host.Outcome State Fault Refusal := answerNext s.receiveGap

/-- A start bit is accepted, at the middle of its bit-time (R2, R13): quiet and an access wait end, and the character
ends 10.5 bit-times later. -/
def State.startBitTaken (s : State) : State :=
  { s with
    line := { s.line with
      quiet := none, wait := none, recessiveSince := none,
      charEndsAt := some (s.clock.plusUs (s.bitUs * 21 / 2)) } }

/-- START_BIT (R2, R3, R13). -/
def execStartBit (s : State) : Host.Outcome State Fault Refusal :=
  answerNext (if s.lineFree then s.startBitTaken else s)

/-- LINE_CHARACTER (R2, R4 to R6). -/
def execLineCharacter (c : LineChar) (s : State) : Host.Outcome State Fault Refusal := answerNext (s.lineReceives c)

/-! ### Line faults and deadlines -/

/-- The stuck line is detected (R17): a wait is abandoned, LINE is raised (R18), and then an attempt ends contended; R17
names these effects without an order (DESIGN CHOICE, log 41). -/
def State.detectStuck (s : State) : State :=
  let stuck : State := { s with line := { s.line with stuck := true, quiet := none, wait := none, recessiveSince := none } }
  (stuck.raiseLine s.clock.ms).endContended

/-- STUCK_LINE (R17, R18); a MONITOR runs no line-fault mechanism. -/
def execStuckLine (s : State) : Host.Outcome State Fault Refusal :=
  answerNext (if s.sends && !s.line.stuck && s.line.charEndsAt.isNone then s.detectStuck else s)

/-- LINE is cleared (R18). -/
def State.lineClears (s : State) : State :=
  match s.line.lineRaised, s.line.stuck, s.line.lineClearAt with
  | true, false, some due =>
    let reached := s.reachMs due
    { reached with line := { reached.line with lineRaised := false, lineClearAt := none } }.clearPost .line
  | _, _, _ => s

/-- LINE_CLEAR (R18, R159). -/
def execLineClear (s : State) : Host.Outcome State Fault Refusal := answerNext s.lineClears

/-- The entries whose deadlines are still to be taken: all but one in transmission whose deadline has passed (R10). -/
def State.deadlinesRunning (s : State) : List TxEntry :=
  s.line.queue.filter (fun e => !(s.line.inTransmission e && msReached e.deadline s.clock.ms))

/-- The entry with the earliest deadline; of equal ones the first in the queue. -/
def earliestDeadline : List TxEntry → Option TxEntry
  | [] => none
  | e :: rest =>
    match earliestDeadline rest with
    | none => some e
    | some f => if msReached e.deadline f.deadline then some e else some f

/-- The earliest deadline passes (R10): the entry is removed, or in transmission left to the end of its attempt. -/
def State.deadlinePasses (s : State) : State :=
  match earliestDeadline s.deadlinesRunning with
  | some e =>
    let reached := s.reachMs e.deadline
    if s.line.inTransmission e then reached else reached.removeBusy e
  | none => s

/-- DEADLINE_EXPIRY (R10, R11). -/
def execDeadlineExpiry (s : State) : Host.Outcome State Fault Refusal := answerNext s.deadlinePasses

end Sys2Proof.Machine
end

