-- ==== Sys2Proof/Machine/PeerTimeEvents.lean ====
section
/-! DEFINITION. The commands of the peer table (chapter 2) and the timebase (chapter 3). -/

namespace Sys2Proof.Machine

/-! ### The peer table -/

/-- The beacon period timer expires (R22): the own beacon is offered, and the timer keeps its period. -/
def State.beaconDue (s : State) : State :=
  match s.peers.beaconAt with
  | some due =>
    let reached := s.reachMs due
    { reached with peers := { reached.peers with beaconAt := some (due + 2000) } }.send .bcn
      (bcnBody reached.ownBeacon)
  | none => s

/-- BEACON_TIMER_EXPIRY (R22 to R26). -/
def execBeaconTimerExpiry (s : State) : Host.Outcome State Fault Refusal := answerNext s.beaconDue

/-- Entry `n` goes SILENT (R30): a post closes its van window when it is the van's (R166), and the change is handed on
(R31). The window closes before the evaluation that the same peer change calls for (R170), which finds none open; R31
names both without an order (DESIGN CHOICE, log 41). -/
def State.goSilent (n : Nat) (s : State) : State :=
  let silent := s.setPeer n { s.storedPeer n with state := .silent, silenceAt := none }
  (if silent.isPost && decide (n = 31) then silent.closeWindow .silent else silent).peerChange n false

/-- The silence timer of entry `n` expires (R30). -/
def State.silenceDue (n : Nat) (s : State) : State :=
  match (s.storedPeer n).state, (s.storedPeer n).silenceAt with
  | .live, some due => if s.isOwnEntry n then s else (s.reachMs due).goSilent n
  | _, _ => s

/-- SILENCE_TIMER_EXPIRY (R30, R31, R34, R166). -/
def execSilenceTimerExpiry (station : BitVec 5) (s : State) : Host.Outcome State Fault Refusal :=
  answerNext (s.silenceDue station.toNat)

/-- The hold of DUPLICATE expires, and DUPLICATE is cleared without an FLT (R35). -/
def State.duplicateHoldEnds (s : State) : State :=
  match s.peers.duplicateHoldAt with
  | some due =>
    let reached := s.reachMs due
    let ended : State :=
      { reached with
        peers := { reached.peers with duplicateHoldAt := none }
        fault := { reached.fault with duplicate := false } }
    ended.evaluateSince reached
  | none => s

/-- DUPLICATE_HOLD_EXPIRY (R35, R151). -/
def execDuplicateHoldExpiry (s : State) : Host.Outcome State Fault Refusal := answerNext s.duplicateHoldEnds

/-! ### The timebase -/

/-- Both halves of the base pair advance by a day of milliseconds (R42). -/
def BasePair.carried (base : BasePair) : BasePair :=
  { localMs := base.localMs + dayMs, schemeMs := min (base.schemeMs + 86400000) lastSchemeMs }

/-- The base pair is carried, and the next carry is a day of milliseconds after `due` (R42). -/
def State.carryBase (due : Ms) (s : State) : State :=
  { s with time := { s.time with base := s.time.base.map BasePair.carried, carryAt := some (due + dayMs) } }

/-- The staleness timer expires (R41): the quality is STALE, and the carrying begins (R42). -/
def State.becomeStale (s : State) : State :=
  match s.time.staleAt with
  | some due =>
    let reached := s.reachMs due
    { reached with time := { reached.time with quality := .stale, staleAt := none } }.carryBase due
  | none => s

/-- STALENESS_EXPIRY (R41, R42). -/
def execStalenessExpiry (s : State) : Host.Outcome State Fault Refusal := answerNext s.becomeStale

/-- A carry while STALE (R42). -/
def State.carryDue (s : State) : State :=
  match s.time.carryAt with
  | some due => (s.reachMs due).carryBase due
  | none => s

/-- CARRY (R42). -/
def execCarry (s : State) : Host.Outcome State Fault Refusal := answerNext s.carryDue

/-- How long a conversion may stay pending, and a capture held (R47). -/
def lapseMs : Ms := 1073741824

/-- The capture a holder of pending conversions holds (R47). -/
def State.heldCapture (s : State) : PendingHolder → Option Capture
  | .slot source => s.time.slot source
  | .dockingCapture => s.tag.docking
  | .dockedSince => s.dock.dockedSince

/-- The holder's capture replaced. -/
def State.setHeldCapture (holder : PendingHolder) (c : Capture) (s : State) : State :=
  match holder with
  | .slot source => { s with time := s.time.setSlot source (some c) }
  | .dockingCapture => { s with tag := { s.tag with docking := some c } }
  | .dockedSince => { s with dock := { s.dock with dockedSince := some c } }

/-- A pending conversion lapses while the quality is still UNSET (R47). -/
def State.pendingLapses (holder : PendingHolder) (s : State) : State :=
  match s.heldCapture holder with
  | some c =>
    if decide (c.scheme = .pending) && s.timeUnset then
      (s.reachMs (c.ms + lapseMs)).setHeldCapture holder { c with scheme := .unknown }
    else s
  | none => s

/-- PENDING_LAPSE (R47). -/
def execPendingLapse (holder : PendingHolder) (s : State) : Host.Outcome State Fault Refusal :=
  answerNext (s.pendingLapses holder)

/-- A capture slot held unconsumed is emptied (R47). -/
def State.slotLapses (source : CaptureSource) (s : State) : State :=
  match s.time.slot source with
  | some c => (s.reachMs (c.ms + lapseMs)).consume source
  | none => s

/-- CAPTURE_SLOT_LAPSE (R47). -/
def execCaptureSlotLapse (source : CaptureSource) (s : State) : Host.Outcome State Fault Refusal :=
  answerNext (s.slotLapses source)

end Sys2Proof.Machine
end

