-- ==== Sys2Proof/Machine/PortOps.lean ====
section
/-! DEFINITION. The local port: the judging of a request record, each request's effect, and the read transaction
(chapter 11). -/

namespace Sys2Proof.Machine

/-! ### Responses (R180, R181) -/

/-- The filler byte. -/
def filler : Byte := 0xFF

/-- The port works in every role but POST (R179). -/
def State.portWorks (s : State) : Bool := !s.isPost

/-- The request is answered: the buffer takes the response with its read mark clear, and an unread one is discarded. -/
def State.respondCarrying (status : PortStatus) (body : List Byte) (carried : Carried) (s : State) : State :=
  { s with
    port := { s.port with response := some { bytes := responseBytes status body, carried := carried }, readMark := false } }

/-- The request is answered without a body. -/
def State.respond (status : PortStatus) (s : State) : State := s.respondCarrying status [] .nothing

/-- A notice is offered for a request, whose answer is OK, or LINE-BUSY when the offer is refused at once (R181). -/
def State.respondOffer (kind : Kind) (body : List Byte) (s : State) : State :=
  match s.offer kind body with
  | (s, some _) => s.respond .ok
  | (s, none) => s.respond .lineBusy

/-! ### Requests that read (R182, R188) -/

/-- The station id STATUS gives (R182). -/
def State.statusStation (s : State) : Nat := if s.isTerminal then s.terminal.stationId else s.peers.adoptedId

/-- The window bytes STATUS gives: the van's window record, NONE elsewhere. With state NONE the serial byte is 00H, for
which R182 and Table 12-8 give no value (DESIGN CHOICE, log 37). -/
def State.statusWindow (s : State) : List Byte :=
  match s.isVan, s.van.window with
  | true, some w => be1 1 ++ be1 w.serial
  | _, _ => be1 0 ++ be1 0

/-- The body of a STATUS response (Table 12-8). Its overflow byte, whose codes Table 12-8 does not give, is 1 while the mark
is set and 0 while it is clear (DESIGN CHOICE, log 39). -/
def State.statusBody (s : State) : List Byte :=
  be1 (roleCode s.straps.role) ++ be1 s.number ++ be2 s.statusStation ++ be1 s.time.quality.code ++
    be2 (if s.isTerminal then s.terminal.active.version else 0) ++
    be2 (if s.isTerminal then s.terminal.staging.version else 0) ++ be1 s.port.events.length ++
    be1 (flagBit s.port.overflow 0) ++ s.statusWindow

/-- STATUS (R182). -/
def State.requestStatus (body : List Byte) (s : State) : State :=
  if body = [] then s.respondCarrying .ok s.statusBody (.status false) else s.respond .refusedRange

/-- PEER-READ (R182). -/
def State.requestPeerRead (body : List Byte) (s : State) : State :=
  if decide (body.length = 1) && decide (fieldAt body 0 1 ≤ 31) then
    s.respondCarrying .ok (peerReadBody (fieldAt body 0 1) (s.peerEntry (fieldAt body 0 1))) .nothing
  else s.respond .refusedRange

/-- EVENT-READ (R188). -/
def State.requestEventRead (body : List Byte) (s : State) : State :=
  if body = [] then
    match s.port.events with
    | [] => s.respond .ok
    | e :: behind => s.respondCarrying .ok (eventResponse behind.length e) .event
  else s.respond .refusedRange

/-! ### The terminal's requests (R183 to R185) -/

/-- STATION-SET (R183). -/
def State.requestStationSet (body : List Byte) (s : State) : State :=
  if decide (body.length ≠ 2) || decide (fieldAt body 0 2 = 0) then s.respond .refusedRange
  else if s.terminal.stationId ≠ 0 then s.respond .refusedState
  else { s with terminal := { s.terminal with stationId := fieldAt body 0 2 } }.respond .ok

/-- The period of the TIM timer (R183). -/
def timPeriod : Ms := 10000

/-- The period of the TRF cycle timer (R184). -/
def trfPeriod : Ms := 6000

/-- A TIM is queued with an empty body, which its attempt fills (R183). -/
def timToFill : List Byte := []

/-- TIME-SET (R40, R183). -/
def State.requestTimeSet (body : List Byte) (s : State) : State :=
  if decide (body.length ≠ 6) || decide (999 < fieldAt body 4 2) then s.respond .refusedRange
  else
    let adopted := s.adoptTime (fieldAt body 0 4 * 1000 + fieldAt body 4 2)
    let restarted := { adopted with terminal := { adopted.terminal with timAt := some (s.clock.ms + timPeriod) } }
    if restarted.timQueued then restarted.respond .ok else restarted.respondOffer .tim timToFill

/-- The TIM timer expires (R183). -/
def State.timTimerExpires (due : Ms) (s : State) : State :=
  let restarted := { s with terminal := { s.terminal with timAt := some (due + timPeriod) } }
  if decide (restarted.time.quality = .set) && !restarted.timQueued then restarted.send .tim timToFill else restarted

/-- TARIFF-LOAD (R184). -/
def State.requestTariffLoad (body : List Byte) (s : State) : State :=
  match trfOf body with
  | none => s.respond .refusedRange
  | some v =>
    match stagePiece s.terminal.active s.terminal.staging v with
    | none => s.respond .refusedState
    | some staging =>
      { s with terminal := { s.terminal with staging := staging } }.respondOffer .trf
        (trfBody v.version v.index v.piece)

/-- TARIFF-COMMIT (R184). -/
def State.requestTariffCommit (body : List Byte) (s : State) : State :=
  if body ≠ [] then s.respond .refusedRange
  else if s.terminal.staging.complete then
    { s with
      terminal := { s.terminal with
        active := s.terminal.staging, staging := Tariff.empty, trfIndex := 0,
        trfAt := some (s.terminal.trfAt.getD (s.clock.ms + trfPeriod)) } }.respond .ok
  else s.respond .refusedState

/-- The TRF cycle timer expires (R184): the piece at the cycle's index is offered and the index advances. -/
def State.trfCycleExpires (due : Ms) (s : State) : State :=
  let index := s.terminal.trfIndex
  let advanced :=
    { s with
      terminal := { s.terminal with trfAt := some (due + trfPeriod), trfIndex := (index + 1) % 9 } }
  match s.terminal.active.pieces.getD index none with
  | some piece => advanced.send .trf (trfBody s.terminal.active.version index piece)
  | none => advanced

/-- MEMBER-PUSH (R93, R185). -/
def State.requestMemberPush (body : List Byte) (s : State) : State :=
  match mbrOf body with
  | some e => { s with view := s.view.put e }.respondOffer .mbr (mbrBody e)
  | none => s.respond .refusedRange

/-- FAULT-CLEAR (R185). -/
def State.requestFaultClear (body : List Byte) (s : State) : State :=
  if decide (body.length = 5) && decide (fieldAt body 0 4 ≠ 0) && clearableClass (fieldAt body 4 1) then
    s.respondOffer .fcl (fclBody (fieldAt body 0 4) (fieldAt body 4 1))
  else s.respond .refusedRange

/-! ### The van's requests (R186) -/

/-- The van's window record is OPEN with this serial. -/
def State.windowIs (s : State) (serial : Nat) : Bool :=
  match s.van.window with
  | some w => decide (w.serial = serial)
  | none => false

/-- VAN-OPEN (R186). -/
def State.requestVanOpen (body : List Byte) (s : State) : State :=
  match vopOf body with
  | none => s.respond .refusedRange
  | some v => if s.windowIs v.serial then s.respond .refusedState else s.respondOffer .vop (vopBody v)

/-- VAN-CLOSE (R186). -/
def State.requestVanClose (body : List Byte) (s : State) : State :=
  if body.length ≠ 1 then s.respond .refusedRange
  else if s.windowIs (fieldAt body 0 1) then s.respondOffer .vcl (vclBody (fieldAt body 0 1))
  else s.respond .refusedState

/-! ### The judging of a record (R181, Table 11-3) -/

/-- The roles Table 11-3 gives for a request. -/
def RequestKind.allows (k : RequestKind) (role : Role) : Bool :=
  match k with
  | .status => decide (role ≠ .post)
  | .peerRead => decide (role ≠ .post)
  | .stationSet => decide (role = .terminal)
  | .timeSet => decide (role = .terminal)
  | .tariffLoad => decide (role = .terminal)
  | .tariffCommit => decide (role = .terminal)
  | .memberPush => decide (role = .terminal)
  | .faultClear => decide (role = .terminal)
  | .vanOpen => decide (role = .van)
  | .vanClose => decide (role = .van)
  | .eventRead => decide (role ≠ .post)

/-- While a request transaction of `count` bytes runs, filler is shifted out (R180). -/
def State.shiftFiller (count : Nat) (s : State) : State :=
  { s with port := { s.port with shiftedOut := List.replicate count filler } }

/-- A well-formed record of a known kind: the role test, then the request itself. A post's port takes no request. -/
def State.takeRequest (k : RequestKind) (request : List Byte → State → State) (body : List Byte) (s : State) : State :=
  if s.portWorks then
    let shifted := s.shiftFiller (4 + body.length)
    if k.allows s.straps.role then request body shifted else shifted.respond .refusedRole
  else s

/-- The request of a kind. -/
def requestOf : RequestKind → List Byte → State → State
  | .status => fun body s => s.requestStatus body
  | .peerRead => fun body s => s.requestPeerRead body
  | .stationSet => fun body s => s.requestStationSet body
  | .timeSet => fun body s => s.requestTimeSet body
  | .tariffLoad => fun body s => s.requestTariffLoad body
  | .tariffCommit => fun body s => s.requestTariffCommit body
  | .memberPush => fun body s => s.requestMemberPush body
  | .faultClear => fun body s => s.requestFaultClear body
  | .vanOpen => fun body s => s.requestVanOpen body
  | .vanClose => fun body s => s.requestVanClose body
  | .eventRead => fun body s => s.requestEventRead body

/-- A request transaction of these bytes, judged in order (R181). -/
def State.takeRecord (bytes : List Byte) (s : State) : State :=
  if s.portWorks then
    if !requestWellFormed bytes then (s.shiftFiller bytes.length).respond .badCheck
    else
      match requestKindOf (fieldAt bytes 0 1) with
      | none => (s.shiftFiller bytes.length).respond .refusedRange
      | some k => s.takeRequest k (requestOf k) ((bytes.drop 2).take (fieldAt bytes 1 1))
  else s

/-! ### The read transaction (R180, R182, R188) -/

/-- The bytes shifted out: the response's, then filler. -/
def shiftOut (response : List Byte) (count : Nat) : List Byte :=
  response.take count ++ List.replicate (count - response.length) filler

/-- What a full read does beside emptying the buffer. -/
def LocalPort.readInFull (p : LocalPort) : Carried → LocalPort
  | .nothing => p
  | .status droppedSince => { p with overflow := p.overflow && droppedSince }
  | .event => { p with events := p.events.drop 1 }

/-- A read transaction that clocks `count` bytes out after the read code. -/
def State.readsResponse (count : Nat) (s : State) : State :=
  match s.port.response with
  | some r =>
    let shifted := { s.port with shiftedOut := shiftOut r.bytes count }
    if r.bytes.length ≤ count then
      { s with port := { shifted.readInFull r.carried with response := none, readMark := true } }
    else { s with port := shifted }
  | none => { s with port := { s.port with shiftedOut := shiftOut [] count } }

end Sys2Proof.Machine
end

