-- ==== Sys2Proof/Machine/PortRequests.lean ====
section
/-! DEFINITION. The commands of the local port and the terminal's send timers (chapter 11). -/

namespace Sys2Proof.Machine

/-- STATUS (R181, R182). -/
def execStatus (body : List Byte) (s : State) : Host.Outcome State Fault Refusal :=
  answerNext (s.takeRequest .status (fun b t => t.requestStatus b) body)

/-- PEER_READ (R181, R182). -/
def execPeerRead (body : List Byte) (s : State) : Host.Outcome State Fault Refusal :=
  answerNext (s.takeRequest .peerRead (fun b t => t.requestPeerRead b) body)

/-- STATION_SET (R181, R183). -/
def execStationSet (body : List Byte) (s : State) : Host.Outcome State Fault Refusal :=
  answerNext (s.takeRequest .stationSet (fun b t => t.requestStationSet b) body)

/-- TIME_SET (R40, R181, R183). -/
def execTimeSet (body : List Byte) (s : State) : Host.Outcome State Fault Refusal :=
  answerNext (s.takeRequest .timeSet (fun b t => t.requestTimeSet b) body)

/-- TIM_TIMER_EXPIRY (R183). -/
def execTimTimerExpiry (s : State) : Host.Outcome State Fault Refusal :=
  answerNext
    (match s.terminal.timAt with
     | some due => (s.reachMs due).timTimerExpires due
     | none => s)

/-- TARIFF_LOAD (R181, R184). -/
def execTariffLoad (body : List Byte) (s : State) : Host.Outcome State Fault Refusal :=
  answerNext (s.takeRequest .tariffLoad (fun b t => t.requestTariffLoad b) body)

/-- TARIFF_COMMIT (R181, R184). -/
def execTariffCommit (body : List Byte) (s : State) : Host.Outcome State Fault Refusal :=
  answerNext (s.takeRequest .tariffCommit (fun b t => t.requestTariffCommit b) body)

/-- TRF_CYCLE_EXPIRY (R184). -/
def execTrfCycleExpiry (s : State) : Host.Outcome State Fault Refusal :=
  answerNext
    (match s.terminal.trfAt with
     | some due => (s.reachMs due).trfCycleExpires due
     | none => s)

/-- MEMBER_PUSH (R93, R181, R185). -/
def execMemberPush (body : List Byte) (s : State) : Host.Outcome State Fault Refusal :=
  answerNext (s.takeRequest .memberPush (fun b t => t.requestMemberPush b) body)

/-- FAULT_CLEAR (R181, R185). -/
def execFaultClear (body : List Byte) (s : State) : Host.Outcome State Fault Refusal :=
  answerNext (s.takeRequest .faultClear (fun b t => t.requestFaultClear b) body)

/-- VAN_OPEN (R181, R186). -/
def execVanOpen (body : List Byte) (s : State) : Host.Outcome State Fault Refusal :=
  answerNext (s.takeRequest .vanOpen (fun b t => t.requestVanOpen b) body)

/-- VAN_CLOSE (R181, R186). -/
def execVanClose (body : List Byte) (s : State) : Host.Outcome State Fault Refusal :=
  answerNext (s.takeRequest .vanClose (fun b t => t.requestVanClose b) body)

/-- EVENT_READ (R181, R188). -/
def execEventRead (body : List Byte) (s : State) : Host.Outcome State Fault Refusal :=
  answerNext (s.takeRequest .eventRead (fun b t => t.requestEventRead b) body)

/-- A transaction whose first byte is the read code is a read (R180); a selection without a byte is none. -/
def State.takeTransaction (bytes : List Byte) (s : State) : State :=
  match bytes with
  | [] => s
  | kind :: rest =>
    if kind = 0x80 then (if s.portWorks then s.readsResponse rest.length else s) else s.takeRecord bytes

/-- UNKNOWN_REQUEST (R180, R181): every byte of the transaction, the kind first. -/
def execUnknownRequest (bytes : List Byte) (s : State) : Host.Outcome State Fault Refusal :=
  answerNext (s.takeTransaction bytes)

/-- READ_TRANSACTION (R180, R182, R188). -/
def execReadTransaction (count : Nat) (s : State) : Host.Outcome State Fault Refusal :=
  answerNext (if s.portWorks then s.readsResponse count else s)

end Sys2Proof.Machine
end

