-- ==== Sys2Proof/Machine/SettleEvents.lean ====
section
/-! DEFINITION. The timers of the settlement slots (chapter 8, POST role). -/

namespace Sys2Proof.Machine

/-- A slot becomes DONE with an UNRATED settlement and offers its STL (R134, R143). -/
def State.settleUnrated (name : SlotName) (r : ReturnRecord) (reason : Reason) (s : State) : State :=
  (s.enterDone name (unrated r reason)).offerSlot name

/-- The gathering timer expires (R134): UNRATED by TIME, else by TARIFF; with STATION alone set the slot rates, not at its
start post (R147). -/
def State.gatheringEnds (name : SlotName) (r : ReturnRecord) (time tariff : Bool) (s : State) : State :=
  if time then s.settleUnrated name r .time
  else if tariff then s.settleUnrated name r .tariff
  else s.enterRating name

/-- GATHERING_EXPIRY (R134, R143, R147). -/
def execGatheringExpiry (name : SlotName) (s : State) : Host.Outcome State Fault Refusal :=
  answerNext
    (match s.settle.slot name with
     | some { record := r, phase := .gathering time tariff _ expiresAt } =>
       (s.reachMs expiresAt).gatheringEnds name r time tariff
     | _ => s)

/-- RATING_COMPLETE (R138, R140 to R143): DONE with the priced settlement, a waiting swap, then the STL. -/
def execRatingComplete (name : SlotName) (s : State) : Host.Outcome State Fault Refusal :=
  answerNext
    (match s.settle.slot name with
     | some { phase := .rating inputs doneAt, .. } =>
       (((s.reachMs doneAt).enterDone name (rate inputs)).swapTariff).offerSlot name
     | _ => s)

/-- STL_RETRY_EXPIRY (R143): the same STL is offered again. -/
def execStlRetryExpiry (name : SlotName) (s : State) : Host.Outcome State Fault Refusal :=
  answerNext
    (match s.settle.slot name with
     | some { phase := .done _ (some due) _, .. } => (s.reachMs due).offerSlot name
     | _ => s)

/-- STL_ABANDON (R143, R145): the slot gives its STL up, decides its write-back and is FREE. -/
def execStlAbandon (name : SlotName) (s : State) : Host.Outcome State Fault Refusal :=
  answerNext
    (match s.settle.slot name with
     | some { phase := .done _ _ abandonAt, .. } => (s.reachMs abandonAt).finishSlot name
     | _ => s)

end Sys2Proof.Machine
end

