-- ==== Sys2Proof/Machine/TagEvents.lean ====
section
/-! DEFINITION. The commands of the tag port (chapter 5, POST role): what the tag answers to the command in progress. -/

namespace Sys2Proof.Machine

/-- TAG_ANSWER (R74, R80). -/
def execTagAnswer (s : State) : Host.Outcome State Fault Refusal := answerNext s.tagAnswers

/-- The tag has not answered 5 ms after the command in progress (R74): a read set is cut short (R78), the start-up
read's first command ends with no docking (R80), a write fails (R82). -/
def State.tagSilent (s : State) : State :=
  match s.tag.operation with
  | .readSet startUp got false issued =>
    let reached := s.reachMs (issued + 5)
    if startUp && decide (got = []) then { reached with tag := { reached.tag with operation := .idle } }
    else reached.readSetSilent got
  | .write r _ _ false issued => (s.reachMs (issued + 5)).finishWrite r .noTag
  | .readSet _ _ true _ => s
  | .write _ _ _ true _ => s
  | .idle => s

/-- NO_TAG (R74, R78, R80, R82). -/
def execNoTag (s : State) : Host.Outcome State Fault Refusal := answerNext s.tagSilent

/-- A section of a read set has been read: the next command follows at once, or the set is complete (R74, R77). -/
def State.sectionRead (bytes : List Byte) (s : State) : State :=
  match s.tag.operation with
  | .readSet startUp got _ issued =>
    let reached := s.reachMs (issued + 15)
    if 4 ≤ got.length + 1 then reached.readSetComplete (got ++ [bytes])
    else { reached with tag := { reached.tag with operation := .readSet startUp (got ++ [bytes]) false reached.clock.ms } }
  | .write r second true _ issued =>
    let reached := s.reachMs (issued + 15)
    if bytes = sectionBytes r.contents then reached.finishWrite r .written
    else if second then reached.finishWrite r .mismatch
    else { reached with tag := { reached.tag with operation := .write r true false false reached.clock.ms } }
  | .write _ _ false _ _ => s
  | .idle => s

/-- The command in progress is a section read. -/
def TagOperation.reading : TagOperation → Bool
  | .readSet _ _ _ _ => true
  | .write _ _ readBack _ _ => readBack
  | .idle => false

/-- SECTION_READ_COMPLETE (R74, R77, R82); a completed read implies that the tag began its answer. -/
def execSectionReadComplete (bytes : List Byte) (s : State) : Host.Outcome State Fault Refusal :=
  answerNext (if s.tag.operation.reading then s.tagAnswers.sectionRead bytes else s)

/-- SECTION_WRITE_COMPLETE (R74, R82): the read-back of the same section follows at once. -/
def execSectionWriteComplete (s : State) : Host.Outcome State Fault Refusal :=
  answerNext
    (match s.tag.operation with
     | .write r second false _ issued =>
       let reached := s.reachMs (issued + 30)
       { reached with tag := { reached.tag with operation := .write r second true false reached.clock.ms } }
     | .write _ _ true _ _ => s
     | .readSet _ _ _ _ => s
     | .idle => s)

end Sys2Proof.Machine
end

