-- ==== Sys2Proof/Machine/Dispatch.lean ====
section
/-! DEFINITION. The dispatch of a command to its meaning: one arm per constructor of `Instr`. -/

namespace Sys2Proof.Machine

/-- The effect of a command on the station. -/
def exec (i : Instr) (s : State) : Host.Outcome State Fault Refusal :=
  match i with
  | .fullReset straps boltReadsOpen beamABroken beamBBroken => Sys2Proof.Machine.execFullReset straps boltReadsOpen beamABroken beamBBroken s
  | .quiet => Sys2Proof.Machine.execQuiet s
  | .accessWaitExpiry => Sys2Proof.Machine.execAccessWaitExpiry s
  | .echoCheckFail bit => Sys2Proof.Machine.execEchoCheckFail bit s
  | .sentIntact => Sys2Proof.Machine.execSentIntact s
  | .frameReceived c => Sys2Proof.Machine.execFrameReceived c s
  | .frameAbandoned c => Sys2Proof.Machine.execFrameAbandoned c s
  | .receiveGapExpiry => Sys2Proof.Machine.execReceiveGapExpiry s
  | .stuckLine => Sys2Proof.Machine.execStuckLine s
  | .lineClear => Sys2Proof.Machine.execLineClear s
  | .deadlineExpiry => Sys2Proof.Machine.execDeadlineExpiry s
  | .beaconTimerExpiry => Sys2Proof.Machine.execBeaconTimerExpiry s
  | .silenceTimerExpiry station => Sys2Proof.Machine.execSilenceTimerExpiry station s
  | .duplicateHoldExpiry => Sys2Proof.Machine.execDuplicateHoldExpiry s
  | .stalenessExpiry => Sys2Proof.Machine.execStalenessExpiry s
  | .carry => Sys2Proof.Machine.execCarry s
  | .pendingLapse holder => Sys2Proof.Machine.execPendingLapse holder s
  | .captureSlotLapse source => Sys2Proof.Machine.execCaptureSlotLapse source s
  | .openEdge => Sys2Proof.Machine.execOpenEdge s
  | .closedEdge => Sys2Proof.Machine.execClosedEdge s
  | .pullInEnd => Sys2Proof.Machine.execPullInEnd s
  | .openCheckExpiry => Sys2Proof.Machine.execOpenCheckExpiry s
  | .takeWindowExpiry => Sys2Proof.Machine.execTakeWindowExpiry s
  | .closeCheckExpiry => Sys2Proof.Machine.execCloseCheckExpiry s
  | .pushAsideLimitExpiry => Sys2Proof.Machine.execPushAsideLimitExpiry s
  | .beamEdge aBroken bBroken => Sys2Proof.Machine.execBeamEdge aBroken bBroken s
  | .buttonPress => Sys2Proof.Machine.execButtonPress s
  | .buttonRelease => Sys2Proof.Machine.execButtonRelease s
  | .burstEndExpiry => Sys2Proof.Machine.execBurstEndExpiry s
  | .flashPhaseExpiry => Sys2Proof.Machine.execFlashPhaseExpiry s
  | .refusalDisplayEnd => Sys2Proof.Machine.execRefusalDisplayEnd s
  | .crewAcknowledgementEnd => Sys2Proof.Machine.execCrewAcknowledgementEnd s
  | .periodicTimerExpiry => Sys2Proof.Machine.execPeriodicTimerExpiry s
  | .ch0Request => Sys2Proof.Machine.execCh0Request s
  | .converterWakeEnd => Sys2Proof.Machine.execConverterWakeEnd s
  | .burstComplete code0 code1 code2 code3 => Sys2Proof.Machine.execBurstComplete code0 code1 code2 code3 s
  | .holdPhaseEnd => Sys2Proof.Machine.execHoldPhaseEnd s
  | .noTag => Sys2Proof.Machine.execNoTag s
  | .sectionReadComplete bytes => Sys2Proof.Machine.execSectionReadComplete bytes s
  | .sectionWriteComplete => Sys2Proof.Machine.execSectionWriteComplete s
  | .cardCharacter c => Sys2Proof.Machine.execCardCharacter c s
  | .recordGap => Sys2Proof.Machine.execRecordGap s
  | .lookupTimerExpiry => Sys2Proof.Machine.execLookupTimerExpiry s
  | .claimAgeExpiry => Sys2Proof.Machine.execClaimAgeExpiry s
  | .claimWindowExpiry => Sys2Proof.Machine.execClaimWindowExpiry s
  | .settleTimerExpiry => Sys2Proof.Machine.execSettleTimerExpiry s
  | .gatheringExpiry slot => Sys2Proof.Machine.execGatheringExpiry slot s
  | .ratingComplete slot => Sys2Proof.Machine.execRatingComplete slot s
  | .stlRetryExpiry slot => Sys2Proof.Machine.execStlRetryExpiry slot s
  | .stlAbandon slot => Sys2Proof.Machine.execStlAbandon slot s
  | .reportingWindowExpiry => Sys2Proof.Machine.execReportingWindowExpiry s
  | .windowExpiry => Sys2Proof.Machine.execWindowExpiry s
  | .offerRetryExpiry => Sys2Proof.Machine.execOfferRetryExpiry s
  | .status body => Sys2Proof.Machine.execStatus body s
  | .peerRead body => Sys2Proof.Machine.execPeerRead body s
  | .stationSet body => Sys2Proof.Machine.execStationSet body s
  | .timeSet body => Sys2Proof.Machine.execTimeSet body s
  | .timTimerExpiry => Sys2Proof.Machine.execTimTimerExpiry s
  | .tariffLoad body => Sys2Proof.Machine.execTariffLoad body s
  | .tariffCommit body => Sys2Proof.Machine.execTariffCommit body s
  | .trfCycleExpiry => Sys2Proof.Machine.execTrfCycleExpiry s
  | .memberPush body => Sys2Proof.Machine.execMemberPush body s
  | .faultClear body => Sys2Proof.Machine.execFaultClear body s
  | .vanOpen body => Sys2Proof.Machine.execVanOpen body s
  | .vanClose body => Sys2Proof.Machine.execVanClose body s
  | .eventRead body => Sys2Proof.Machine.execEventRead body s
  | .unknownRequest bytes => Sys2Proof.Machine.execUnknownRequest bytes s
  | .readTransaction count => Sys2Proof.Machine.execReadTransaction count s
  | .startBit => Sys2Proof.Machine.execStartBit s
  | .lineCharacter c => Sys2Proof.Machine.execLineCharacter c s
  | .tagAnswer => Sys2Proof.Machine.execTagAnswer s

end Sys2Proof.Machine
end

