-- ==== Sys2Proof/Safety.lean ====
section
/-! DEFINITION. What counts as a safe state of the station, and the terms the statements use: the invariants that every
step keeps, and the premises under which a frame is received or sent. -/

namespace Sys2Proof.Machine

/-! ### Invariants of every step -/

/-- A step has been concluded: the access wait is the one due (R12, R13), and a post's lamp shows the first row of
Table 4-4 whose condition holds (R63). -/
def State.settled (s : State) : Prop :=
  s.line.wait = s.waitDue ∧ (s.isPost = true → s.dock.lamp.row = s.lampRow)

/-- The queue holds at most 8 frames in class order, at most one of them a beacon (R7, R8). -/
def State.queueSound (s : State) : Prop :=
  s.line.queue.length ≤ 8 ∧ s.line.queue.Pairwise (fun a b => a.kind.cls ≤ b.kind.cls) ∧
    (s.line.queue.filter (fun e => decide (e.kind = .bcn))).length ≤ 1

/-- The references that tell the queued frames apart: each below the next one to be given, and no two alike (log 16). -/
def State.refsSound (s : State) : Prop :=
  (∀ e ∈ s.line.queue, e.ref < s.line.nextRef) ∧ (s.line.queue.map TxEntry.ref).Nodup

/-- The member view holds at most 256 entries, never two with the same member number (R92). -/
def State.viewSound (s : State) : Prop :=
  s.view.entries.length ≤ 256 ∧ (s.view.entries.map ViewEntry.member).Nodup

/-- The claim list holds at most 16 claims, never two of one claimant and claim serial (R110). -/
def State.claimsSound (s : State) : Prop :=
  s.hire.claims.length ≤ 16 ∧ (s.hire.claims.map (fun c => (c.claimant, c.serial))).Nodup

/-- The stores that are bounded by a count: the bad-frame record (R18), the peer table (Table 2-2), the event queue
(R187), the accepted list (R167), the card record (R89) and its run count (R91), the mouth count (R59), the noise
count (R60) and the press burst (R62). -/
def State.storesBounded (s : State) : Prop :=
  s.line.badFrames.length ≤ 21 ∧ s.peers.entries.length = 32 ∧ s.port.events.length ≤ 64 ∧
    s.van.window.all (fun w => decide (w.accepted.length ≤ w.places)) = true ∧
    (s.card.assembler = .complete ∧ s.card.chars.length = 16 ∨ s.card.chars.length < 16) ∧
    s.card.unreadableRun ≤ 8 ∧ s.dock.count ≤ 15 ∧ s.dock.noise ≤ 16 ∧
    s.dock.burst.all (fun b => decide (b.count ≤ 255)) = true

/-- The coil is driven exactly while the bolt is OPENING or HELD, in PULL-IN exactly while the one-shot runs, and in
PULL-IN only while OPENING (R50, R52). -/
def State.coilSafe (s : State) : Prop :=
  (s.dock.coil ≠ .off ↔ s.dock.bolt.drawn = true) ∧ (s.dock.coil = .pullIn ↔ s.dock.pullInEndAt.isSome = true) ∧
    (s.dock.coil = .pullIn → s.dock.bolt = .opening)

/-- A van hold is held only with a bike docked, and van hold or a deliver target only in the one window open, of its
mode, with an own offer accepted (R172, R173, R176). -/
def State.holdSafe (s : State) : Prop :=
  (s.van.hold = true →
    s.dock.docked = true ∧ s.van.offer = .accepted ∧ s.van.window.any (fun w => decide (w.mode = .collect)) = true) ∧
  (s.van.target = true →
    s.van.offer = .accepted ∧ s.van.window.any (fun w => decide (w.mode = .deliver)) = true)

/-- A station that may send nothing queues nothing and transmits nothing: a MONITOR (R12) and a barred post (R20). -/
def State.silentSafe (s : State) : Prop :=
  s.sends = false ∨ s.barred = true → s.line.queue = [] ∧ s.line.tx = none

/-- While the station sends, the line does not count as quiet: quiet ended with the start bit of its own frame (R3, R14). -/
def State.attemptSound (s : State) : Prop := s.line.tx.isSome = true → s.line.quiet = none

/-- The time quality goes with the base pair and the timers: no base pair while UNSET, the staleness timer exactly while
SET, the carry exactly while STALE (R38, R41, R42). -/
def State.timeSound (s : State) : Prop :=
  (s.time.base = none ↔ s.time.quality = .unset) ∧ (s.time.staleAt.isSome = true ↔ s.time.quality = .set) ∧
    (s.time.carryAt.isSome = true ↔ s.time.quality = .stale)

/-- A hire record is held exactly while the hire state is not IDLE (R105, R106). -/
def State.hireSound (s : State) : Prop := s.hire.record.isSome = true ↔ s.hire.state ≠ .idle

/-- The blocks a role does not have stay as a full reset leaves them (Table 0-2). -/
def State.roleSound (s : State) : Prop :=
  (s.straps.role ≠ .post →
    s.dock = Dock.afterReset s.straps s.dock.sensorOpen s.dock.beamA s.dock.beamB ∧
    s.tag = TagPort.afterReset s.straps ∧ s.card = CardPort.afterReset ∧ s.hire = HireController.afterReset ∧
    s.settle = SettlementUnit.afterReset ∧ s.fault = FaultUnit.afterReset s.straps) ∧
  (s.straps.role = .post → s.port = LocalPort.afterReset) ∧
  (s.straps.role ≠ .terminal → s.terminal = TerminalStore.afterReset) ∧
  (s.straps.role = .terminal ∨ s.straps.role = .monitor → s.van = VanUnit.afterReset) ∧
  (s.straps.role = .van ∨ s.straps.role = .monitor → s.view = MemberView.afterReset)

/-! ### Premises -/

/-- The receiver is about to take the character `c` as the last of a frame whose characters before it are `bytes`. -/
def State.ending (s : State) (bytes : List Byte) (c : LineChar) : Prop :=
  s.line.tx = none ∧ s.line.rx = some bytes ∧ endsFrame bytes c = true

/-- With the character `c` the station takes the frame `f` intact from another station (R5, R19). -/
def State.takes (s : State) (c : LineChar) (f : Frame) : Prop :=
  ∃ bytes, s.ending bytes c ∧ frameOf (bytes ++ [c.data]) = some f ∧ s.isOwnEntry f.sender = false

/-- The local ms at which the character `c` ends. -/
def State.heardAt (s : State) (c : LineChar) : Ms := (s.characterEnds c).clock.ms

/-- A command completes with a next state of which `P` holds. -/
def completes (i : Instr) (s : State) (P : State → Prop) : Prop := ∃ t, exec i s = .next t ∧ P t

/-- What a step changes outside the line controller, the own offer and the lamp, which follow the other blocks: nothing
but the clock in the blocks named by the flags that are not set. -/
structure Touched where
  peers : Bool := false
  time : Bool := false
  dock : Bool := false
  tag : Bool := false
  card : Bool := false
  view : Bool := false
  hire : Bool := false
  settle : Bool := false
  fault : Bool := false
  van : Bool := false
  port : Bool := false
  terminal : Bool := false

/-- The dock mechanism without its lamp, which follows the other blocks. -/
def Dock.sansLamp (d : Dock) : Dock := { d with lamp := { row := .off, phase := 0, phaseAt := none } }

/-- The van window unit without the own offer that a step may evaluate. -/
def VanUnit.sansOffer (v : VanUnit) : VanUnit :=
  { v with offer := .none_, offerRef := 0, voidMark := false, retryAt := none }

/-- The blocks not touched are as before. -/
def Touched.frame (b : Touched) (s t : State) : Prop :=
  t.straps = s.straps ∧ t.pending = s.pending ∧
  (b.peers = false → t.peers = s.peers) ∧ (b.time = false → t.time = s.time) ∧
  (b.dock = false → t.dock.sansLamp = s.dock.sansLamp) ∧ (b.tag = false → t.tag = s.tag) ∧
  (b.card = false → t.card = s.card) ∧ (b.view = false → t.view = s.view) ∧ (b.hire = false → t.hire = s.hire) ∧
  (b.settle = false → t.settle = s.settle) ∧ (b.fault = false → t.fault = s.fault) ∧
  (b.van = false → t.van.sansOffer = s.van.sansOffer) ∧ (b.port = false → t.port = s.port) ∧
  (b.terminal = false → t.terminal = s.terminal)

end Sys2Proof.Machine
end

