-- ==== Sys2Proof/Certificates/Slice0/Obligations.lean ====
section
/-! DEFINITION. The statements about the DS30 for the provers. A statement of several clauses names each of them as a
`Claims` definition and is their conjunction. -/

open Sys2Proof Sys2Proof.Machine

/-! ### The machine -/

/-- A step runs the command at the front of the queue on the state with the rest of the queue. -/
def Obligations.StepRunsFrontCommand : Prop :=
  ∀ (c : Instr) (rest : List Instr) (s : State), s.pending = c :: rest → step s = exec c { s with pending := rest }

/-- With no command waiting a step is one microsecond: the local ms advances each 1,000 of them, from 4,294,967,295 to 0,
and nothing else changes. That a step on an empty queue is a microsecond is the model's choice (log 3). -/
def Claims.IdleStepIsOneMicrosecond : Prop :=
  ∀ s : State, s.pending = [] →
    (s.clock.us + 1 < 1000 → step s = .next { s with clock := { ms := s.clock.ms, us := s.clock.us + 1 } }) ∧
    (1000 ≤ s.clock.us + 1 → step s = .next { s with clock := { ms := s.clock.ms + 1, us := 0 } })

/-- A timer's command is taken at the timer's instant: a clock that has reached it stays, one that has not is brought to
it, and nothing else changes (log 2). -/
def Claims.TimersAreTakenAtTheirInstant : Prop :=
  ∀ (due : Ms) (s : State),
    (msReached due s.clock.ms = true → s.reachMs due = s) ∧
    (msReached due s.clock.ms = false → s.reachMs due = { s with clock := { ms := due, us := 0 } }) ∧
    msReached due (s.reachMs due).clock.ms = true

/-- A command of a timer that does not run, of an operation that is not in progress or of a frame that is not there
changes nothing (log 4). -/
def Claims.StoppedTimersChangeNothing : Prop :=
  ∀ s : State, s.settled →
    (s.line.wait = none → exec .accessWaitExpiry s = .next s) ∧
    (s.line.tx = none → exec .sentIntact s = .next s ∧ ∀ bit, exec (.echoCheckFail bit) s = .next s) ∧
    (s.line.rx = none → exec .receiveGapExpiry s = .next s ∧
      ∀ c, exec (.frameReceived c) s = .next s ∧ exec (.frameAbandoned c) s = .next s) ∧
    (s.line.lineRaised = false → exec .lineClear s = .next s) ∧
    (s.line.queue = [] → exec .deadlineExpiry s = .next s) ∧
    (s.peers.beaconAt = none → exec .beaconTimerExpiry s = .next s) ∧
    (∀ n : BitVec 5, (s.storedPeer n.toNat).silenceAt = none → exec (.silenceTimerExpiry n) s = .next s) ∧
    (s.peers.duplicateHoldAt = none → exec .duplicateHoldExpiry s = .next s) ∧
    (s.time.staleAt = none → exec .stalenessExpiry s = .next s) ∧ (s.time.carryAt = none → exec .carry s = .next s) ∧
    (∀ source, s.time.slot source = none → exec (.captureSlotLapse source) s = .next s) ∧
    (s.dock.pullInEndAt = none → exec .pullInEnd s = .next s) ∧
    (s.dock.openCheckAt = none → exec .openCheckExpiry s = .next s) ∧
    (s.dock.takeWindowAt = none → exec .takeWindowExpiry s = .next s) ∧
    (s.dock.closeCheckAt = none → exec .closeCheckExpiry s = .next s) ∧
    (s.dock.pushAsideAt = none → exec .pushAsideLimitExpiry s = .next s) ∧
    (s.dock.holdEndAt = none → exec .holdPhaseEnd s = .next s) ∧
    (s.dock.burst = none → exec .burstEndExpiry s = .next s) ∧
    (s.dock.lamp.phaseAt = none → exec .flashPhaseExpiry s = .next s) ∧
    (s.dock.refusal = none → exec .refusalDisplayEnd s = .next s) ∧
    (s.dock.crewAckAt = none → exec .crewAcknowledgementEnd s = .next s) ∧
    (s.dock.periodicAt = none → exec .periodicTimerExpiry s = .next s) ∧
    (s.dock.ch0At = none → exec .ch0Request s = .next s) ∧
    (s.dock.converter = .idle → exec .converterWakeEnd s = .next s ∧
      ∀ a b c d, exec (.burstComplete a b c d) s = .next s) ∧
    (s.tag.operation = .idle → exec .tagAnswer s = .next s ∧ exec .noTag s = .next s ∧
      exec .sectionWriteComplete s = .next s ∧ ∀ bytes, exec (.sectionReadComplete bytes) s = .next s) ∧
    (s.card.gapAt = none → exec .recordGap s = .next s) ∧
    (s.view.lookup = none → exec .lookupTimerExpiry s = .next s) ∧
    (s.hire.claims = [] → exec .claimAgeExpiry s = .next s) ∧
    (s.hire.state ≠ .claiming → exec .claimWindowExpiry s = .next s) ∧
    (s.hire.state ≠ .releasing → exec .settleTimerExpiry s = .next s) ∧
    (∀ name, s.settle.slot name = none → exec (.gatheringExpiry name) s = .next s ∧
      exec (.ratingComplete name) s = .next s ∧ exec (.stlRetryExpiry name) s = .next s ∧
      exec (.stlAbandon name) s = .next s) ∧
    (s.fault.window = none → exec .reportingWindowExpiry s = .next s) ∧
    (s.van.window = none → exec .windowExpiry s = .next s) ∧
    (s.van.retryAt = none → exec .offerRetryExpiry s = .next s) ∧
    (s.terminal.timAt = none → exec .timTimerExpiry s = .next s) ∧
    (s.terminal.trfAt = none → exec .trfCycleExpiry s = .next s)

/-- The commands of a post's sensors, button and card link change nothing at a station of another role, which has none. -/
def Claims.OtherRolesHaveNoDock : Prop :=
  ∀ s : State, s.settled → s.isPost = false →
    exec .openEdge s = .next s ∧ exec .closedEdge s = .next s ∧ (∀ a b, exec (.beamEdge a b) s = .next s) ∧
    exec .buttonPress s = .next s ∧ exec .buttonRelease s = .next s ∧ (∀ c, exec (.cardCharacter c) s = .next s)

/-- Idling, timers taken at their instant, and commands that find nothing to act on (model's choices: logs 2, 3, 4). -/
def Obligations.CommandsWithoutEffect : Prop :=
  Claims.IdleStepIsOneMicrosecond ∧ Claims.TimersAreTakenAtTheirInstant ∧ Claims.StoppedTimersChangeNothing ∧
  Claims.OtherRolesHaveNoDock

/-- FULL_RESET completes in every state, whatever the straps and levels, and leaves every field of every block as given
here; the commands that wait stay. The reset rules name most of these fields; the others hold the model's choice (log
17): rxCharEnd, charEndsAt, recessiveSince, tx, both nextRef, holdDutyFrom, pullIns, pushAsideAt, dockedSince, the
lamp's phase, the fresh marks, captureHeld, offerRef, readMark and shiftedOut. -/
def Obligations.FullResetLeavesEachBlock : Prop :=
  ∀ (straps : Straps) (opened a b : Bool) (s : State),
    completes (.fullReset straps opened a b) s (fun t =>
      t.straps = straps ∧ t.pending = s.pending ∧ t.clock = { ms := 0, us := 0 } ∧
      t.line = { rx := none, rxCharEnd := none, charEndsAt := none, recessiveSince := some { ms := 0, us := 0 },
                 quiet := none, lastSender := 31, queue := [], heldBeacon := none, tx := none, serial := 0,
                 wait := none, badFrames := [], stuck := false, lineRaised := false, lineClearAt := none,
                 clash := t.barred, nextRef := 0 } ∧
      t.peers.entries.length = 32 ∧
      (∀ n, n < 32 → t.storedPeer n =
        if t.isOwnEntry n then { state := .live, beacon := none, heard := some 0, silenceAt := none }
        else { state := .absent, beacon := none, heard := none, silenceAt := none }) ∧
      t.peers.adoptedId = 0 ∧ t.peers.conflictSeen = false ∧ t.peers.duplicate = false ∧
      t.peers.duplicateHoldAt = none ∧ t.peers.beaconAt = (if straps.role = .monitor then none else some 0) ∧
      t.time = { base := none, quality := .unset, staleAt := none, carryAt := none, boltClosed := none,
                 boltOpen := none, mouthIn := none, mouthOut := none, button := none, card := none } ∧
      t.dock = { sensorOpen := opened, bolt := if opened then .closing else .closed, coil := .off,
                 holdDutyFrom := none, seenOpen := false, release := false, pullIns := 0, pullInEndAt := none,
                 ch0At := none, openCheckAt := none, takeWindowAt := none,
                 closeCheckAt := if opened ∧ straps.role = .post then some 300 else none,
                 pushAsideAt := none, selfTest := none, holdEndAt := none, docked := false, dockedSince := none,
                 beamA := a, beamB := b, count := 0, noise := 0, pressed := false, pressAt := none, burst := none,
                 lamp := if straps.role ≠ .post then { row := .off, phase := 0, phaseAt := none }
                   else if t.barred then { row := .redSteady, phase := 0, phaseAt := none }
                   else { row := .workAmberFlash, phase := 0, phaseAt := some 200 },
                 refusal := none, crewAckAt := none, converter := .idle, pendingPeriodic := false,
                 pendingEvent := none, periodicAt := if straps.role = .post then some 0 else none,
                 ch0 := { last := none, fresh := false }, ch1 := { last := none, fresh := false },
                 ch2 := { last := none, fresh := false }, ch3 := { last := none, fresh := false } } ∧
      t.tag = { operation := if straps.role = .post then .readSet true [] false 0 else .idle, requests := [],
                copy := { state := .empty, id := .unread, hire := .unread, last := none, faults := .unread },
                docking := none, nextRef := 0 } ∧
      t.card = { waitsIdle := true, assembler := .idle, voidReason := none, chars := [], gapAt := none,
                 captureHeld := false, unreadableRun := 0 } ∧
      t.view = { entries := [], lookup := none } ∧
      t.hire = { state := .idle, record := none, claims := [], unwanted := [] } ∧
      t.settle = { slotA := none, slotB := none,
                   active := { version := 0, pieces := List.replicate 9 none },
                   staging := { version := 0, pieces := List.replicate 9 none }, returned := [] } ∧
      t.fault = { tagMark := false, lowCharge := false, flat := false, duplicate := false, writes := [],
                  deferred := [], window := none, raised := if t.barred then [.clash] else [] } ∧
      t.van = { window := none, offer := .none_, offerRef := 0, voidMark := false, retryAt := none, hold := false,
                target := false, holdSerial := 0, selfTestBike := 0 } ∧
      t.port = { response := none, readMark := false, events := [], overflow := false, shiftedOut := [] } ∧
      t.terminal = { stationId := 0, active := { version := 0, pieces := List.replicate 9 none },
                     staging := { version := 0, pieces := List.replicate 9 none }, timAt := none, trfAt := none,
                     trfIndex := 0 } ∧
      (t.barred = true ↔ straps.role = .post ∧ (straps.number = 0 ∨ straps.number = 31)) ∧
      (t.isOwnEntry t.number = true ↔ straps.role ≠ .monitor))

/-- The state right after reset meets every invariant the statements below keep, with no command waiting. -/
def Obligations.ResetMeetsTheInvariants : Prop :=
  State.reset.settled ∧ State.reset.queueSound ∧ State.reset.refsSound ∧ State.reset.attemptSound ∧
    State.reset.viewSound ∧ State.reset.claimsSound ∧ State.reset.storesBounded ∧ State.reset.coilSafe ∧
    State.reset.holdSafe ∧ State.reset.silentSafe ∧ State.reset.timeSound ∧ State.reset.hireSound ∧
    State.reset.roleSound ∧ State.reset.pending = []

/-- What the end of a step does (`conclude`), whatever the command did before it: it lets the access wait follow the head,
and the lamp its conditions. It settles the state, it keeps the frames queued and every other part of the state as it
was, and a settled state stays whole. -/
def Obligations.ConclusionSettlesAndFrames : Prop :=
  ∀ s : State,
    (conclude s).settled ∧
    conclude s =
      { s with
        line := { s.line with
          queue := (conclude s).line.queue, tx := (conclude s).line.tx, quiet := (conclude s).line.quiet,
          wait := (conclude s).line.wait, recessiveSince := (conclude s).line.recessiveSince,
          charEndsAt := (conclude s).line.charEndsAt }
        dock := { s.dock with lamp := (conclude s).dock.lamp } } ∧
    (conclude s).line.queue.map TxEntry.ref = s.line.queue.map TxEntry.ref ∧
    (s.settled → conclude s = s)

/-- Every step leaves the station settled: the access wait is the one due after the head and the last sender, and a post's
lamp shows the first row of Table 4-4 whose condition holds. -/
def Obligations.EveryStepSettles : Prop :=
  ∀ s t : State, s.settled → step s = .next t → t.settled

/-- Every step keeps the transmit queue at 8 frames at most, in class order, with at most one beacon. -/
def Claims.EveryStepKeepsTheQueue : Prop :=
  ∀ s t : State, s.queueSound → step s = .next t → t.queueSound

/-- Every step keeps the references of the queued frames below the next reference, and no two of them alike. -/
def Claims.EveryStepKeepsTheReferences : Prop :=
  ∀ s t : State, s.refsSound → step s = .next t → t.refsSound

/-- Every step keeps a sending station from counting the line as quiet. -/
def Claims.EveryStepKeepsTheAttempt : Prop :=
  ∀ s t : State, s.attemptSound → step s = .next t → t.attemptSound

/-- The transmit queue stays within 8 frames in class order with one beacon, references differ, no quiet while sending
(model's choice: log 16). -/
def Obligations.EveryStepKeepsTheQueue : Prop :=
  Claims.EveryStepKeepsTheQueue ∧ Claims.EveryStepKeepsTheReferences ∧ Claims.EveryStepKeepsTheAttempt

/-- Every step keeps the member view at 256 entries at most, one per member. -/
def Claims.EveryStepKeepsTheView : Prop :=
  ∀ s t : State, s.viewSound → step s = .next t → t.viewSound

/-- Every step keeps the claim list at 16 claims at most, one per claimant and claim serial. -/
def Claims.EveryStepKeepsTheClaims : Prop :=
  ∀ s t : State, s.claimsSound → step s = .next t → t.claimsSound

/-- Every step keeps the bounds of the bad-frame record, the peer table, the event queue, the accepted list, the card
record and the dock counters. -/
def Claims.EveryStepKeepsTheBounds : Prop :=
  ∀ s t : State, s.storesBounded → step s = .next t → t.storesBounded

/-- The member view, the claim list and every counted store stay within their bounds. -/
def Obligations.EveryStepKeepsTheStores : Prop :=
  Claims.EveryStepKeepsTheView ∧ Claims.EveryStepKeepsTheClaims ∧ Claims.EveryStepKeepsTheBounds

/-- Every step keeps the coil driven exactly while the bolt is OPENING or HELD, and in PULL-IN exactly while the one-shot
runs. -/
def Obligations.EveryStepKeepsTheCoilSafe : Prop :=
  ∀ s t : State, s.coilSafe → step s = .next t → t.coilSafe

/-- Every step keeps a van hold to a docked bike, and a van hold or a deliver target to the one open window of its mode
with an accepted own offer. -/
def Obligations.EveryStepKeepsTheHold : Prop :=
  ∀ s t : State, s.holdSafe → step s = .next t → t.holdSafe

/-- Every step keeps a MONITOR and a barred post silent: nothing queued, nothing in transmission. -/
def Claims.EveryStepKeepsSilence : Prop :=
  ∀ s t : State, s.silentSafe → step s = .next t → t.silentSafe

/-- Every step leaves the blocks that the station's role does not have as a full reset left them. -/
def Claims.EveryStepKeepsTheRole : Prop :=
  ∀ s t : State, s.roleSound → step s = .next t → t.roleSound

/-- A monitor and a barred post stay silent, and a station keeps untouched the blocks its role does not have. -/
def Obligations.EveryStepKeepsSilence : Prop :=
  Claims.EveryStepKeepsSilence ∧ Claims.EveryStepKeepsTheRole

/-- Every step keeps the time quality in agreement with the base pair, the staleness timer and the carry. -/
def Claims.EveryStepKeepsTheTimebase : Prop :=
  ∀ s t : State, s.timeSound → step s = .next t → t.timeSound

/-- Every step keeps a hire record exactly while the hire state is not IDLE. -/
def Claims.EveryStepKeepsTheHireRecord : Prop :=
  ∀ s t : State, s.hireSound → step s = .next t → t.hireSound

/-- The time quality agrees with the base pair and its timers, and the hire record with the hire state. -/
def Obligations.EveryStepKeepsTimeAndHire : Prop :=
  Claims.EveryStepKeepsTheTimebase ∧ Claims.EveryStepKeepsTheHireRecord

/-! ### The line (chapter 1) -/

/-- QUIET: 22 bit-times after the line became recessive, where that instant is known, a free line is quiet. A stuck line
ends, and a head that may be sent waits (class × 32 + turn) × 4 bit-times. -/
def Claims.QuietStartsTheAccessWait : Prop :=
  ∀ s : State, s.line.tx = none → s.line.charEndsAt = none → s.line.quiet = none →
    let r := match s.line.recessiveSince with
      | some i => s.reachInstant (i.plusUs (22 * s.bitUs))
      | none => s
    exec .quiet s = .next (conclude
      { r with
        line := { r.line with
          quiet := some { start := r.clock, lastSender := s.line.lastSender }
          stuck := false
          lineClearAt :=
            if s.line.stuck then (if s.line.lineRaised then some (r.clock.ms + 60000) else none)
            else s.line.lineClearAt
          wait := match s.line.queue with
            | [] => none
            | head :: _ =>
              if s.sends && !s.barred then
                some ((head.kind.cls * 32 + (s.number + 63 - s.line.lastSender) % 32) * 4)
              else none } })

/-- ACCESS_WAIT_EXPIRY: the head starts with the present serial and its check, and its start bit ends the quiet. A TIM
carries the scheme time at which its last stop bit ends. -/
def Claims.AccessWaitExpirySendsTheHead : Prop :=
  ∀ (s : State) (q : QuietSpan) (bits : Nat) (e : TxEntry) (rest : List TxEntry),
    s.line.quiet = some q → s.line.wait = some bits → s.line.queue = e :: rest →
    let r := s.reachInstant (q.start.plusUs (bits * s.bitUs))
    let at_ := r.time.schemeAt (r.clock.ms + (if s.straps.rateHigh then 0 else 2))
    let body := if e.kind = .tim then be4 (at_ / 1000) ++ be2 (at_ % 1000) else e.body
    exec .accessWaitExpiry s = .next (conclude
      { r with
        line := { r.line with
          queue := replaceBody e.ref body s.line.queue
          tx := some { ref := e.ref, bytes := frameBytes e.kind s.number s.line.serial body, start := r.clock }
          quiet := none, wait := none, recessiveSince := none, charEndsAt := none } })

/-- Quiet starts the head's access wait, and its expiry sends the head (model's choices: log 2, 11). -/
def Obligations.QuietAndAccessWait : Prop :=
  Claims.QuietStartsTheAccessWait ∧ Claims.AccessWaitExpirySendsTheHead

/-- SENT_INTACT, whatever the frame: the serial counter advances by one, from 255 to 0, the last sender is the station
itself, and its own entry is heard at the end of the last stop bit. -/
def Claims.SentIntactCountsTheFrame : Prop :=
  ∀ (s : State) (x : Transmission) (e : TxEntry),
    s.line.tx = some x → s.line.txEntry = some e → s.peers.entries.length = 32 →
    completes .sentIntact s (fun t =>
      t.line.serial = s.line.serial + 1 ∧ t.line.lastSender = s.number ∧
      (t.storedPeer s.number).heard =
        some (s.reachInstant (x.start.plusUs (x.bytes.length * 11 * s.bitUs))).clock.ms ∧
      t.straps = s.straps ∧ t.pending = s.pending ∧ t.card = s.card)

/-- SENT_INTACT of a frame no block of the station itself takes: a post's FLT, LKP, VTK or beacon, a terminal's FCL, MBR,
TIM, TRF or beacon, and a van's beacon. The entry leaves the queue and nothing else happens, but that a beacon body
held aside is offered anew. -/
def Claims.SentIntactOfAnUnheardFrame : Prop :=
  ∀ (s : State) (x : Transmission) (e : TxEntry),
    s.line.tx = some x → s.line.txEntry = some e → s.line.rx = none →
    (s.straps.role = .post ∧ e.kind ∈ [.flt, .lkp, .vtk, .bcn] ∨
      s.straps.role = .terminal ∧ e.kind ∈ [.fcl, .mbr, .tim, .trf, .bcn] ∨ s.straps.role = .van ∧ e.kind = .bcn) →
    let r := s.reachInstant (x.start.plusUs (x.bytes.length * 11 * s.bitUs))
    let sent : State :=
      { r with
        line := { r.line with
          queue := s.line.queue.filter (fun q => decide (q.ref ≠ e.ref))
          tx := none
          serial := s.line.serial + 1
          lastSender := s.number
          recessiveSince := some r.clock }
        peers := { r.peers with
          entries := s.peers.entries.set s.number { s.storedPeer s.number with heard := some r.clock.ms } } }
    (e.kind ≠ .bcn ∨ s.line.heldBeacon = none → exec .sentIntact s = .next (conclude sent)) ∧
    (∀ body, e.kind = .bcn → s.line.heldBeacon = some body →
      exec .sentIntact s =
        .next (conclude ({ sent with line := { sent.line with heldBeacon := none } }.offer .bcn body).1))

/-- SENT_INTACT of the CLM of a hire in CLAIMING: the claim is identified by its serial, its window ends 250 ms after the
end of the frame, and the claim is in the post's own list. -/
def Claims.SentClaimOpensItsWindow : Prop :=
  ∀ (s : State) (x : Transmission) (e : TxEntry) (h : HireRecord) (allowance : Nat),
    s.straps.role = .post → s.line.tx = some x → s.line.txEntry = some e → e.kind = .clm → s.line.rx = none →
    s.hire.state = .claiming → s.hire.record = some h → h.clmRef = some e.ref → h.claim = none →
    e.body = be4 h.card.member ++ be1 allowance → 1 ≤ allowance → allowance ≤ 4 →
    0 < h.card.member → h.card.member < 2 ^ 32 →
    s.hire.claims.length < 16 →
    (∀ c ∈ s.hire.claims, ¬ (c.claimant = s.number ∧ c.serial = s.line.serial)) →
    let now := (s.reachInstant (x.start.plusUs (x.bytes.length * 11 * s.bitUs))).clock.ms
    completes .sentIntact s (fun t =>
      t.hire =
        { s.hire with
          record := some { h with claim := some { serial := s.line.serial, at_ := now }, windowAt := some (now + 250) }
          claims := s.hire.claims ++
            [{ member := h.card.member, claimant := s.number, serial := s.line.serial, heard := now }] } ∧
      ({ peers := true, hire := true } : Touched).frame s t)

/-- A frame sent intact: the serial, the last sender, the own entry, and the CLM's window (model's choices: log 2, 11). -/
def Obligations.SentIntactCompletesTheFrame : Prop :=
  Claims.SentIntactCountsTheFrame ∧ Claims.SentIntactOfAnUnheardFrame ∧ Claims.SentClaimOpensItsWindow

/-- ECHO_CHECK_FAIL: the line is released at the next bit boundary and the attempt is contended. The characters completed
before it are received. The entry keeps its place and its deadline, and the serial and the last sender stay; an entry
whose deadline has passed, or of class 0 under the clash mark, is removed. -/
def Claims.EchoCheckFailContends : Prop :=
  ∀ (bit : Nat) (s : State) (x : Transmission) (e : TxEntry),
    s.line.tx = some x → s.line.txEntry = some e → s.line.rx = none → bit < x.bytes.length * 11 →
    let r := s.reachInstant (x.start.plusUs ((bit + 1) * s.bitUs))
    let ended := x.start.plusUs (bit / 11 * 11 * s.bitUs)
    let released : State :=
      { r with
        line := { r.line with
          tx := none
          rx := if bit / 11 = 0 then none else some (x.bytes.take (bit / 11))
          rxCharEnd := if bit / 11 = 0 then s.line.rxCharEnd else some ended
          charEndsAt := some (ended.plusUs (11 * s.bitUs)) } }
    let out : Bool := msReached e.deadline r.clock.ms || (s.line.clash && decide (e.kind.cls = 0))
    (out = false → e.kind ≠ .bcn ∨ s.line.heldBeacon = none →
      exec (.echoCheckFail bit) s = .next (conclude released)) ∧
    (out = false → e.kind = .bcn → ∀ body, s.line.heldBeacon = some body →
      exec (.echoCheckFail bit) s = .next (conclude
        { released with
          line := { released.line with heldBeacon := none, queue := replaceBody e.ref body s.line.queue } })) ∧
    (out = true → e.kind ∉ [.clm, .ofr, .bcn] →
      exec (.echoCheckFail bit) s = .next (conclude
        { released with
          line := { released.line with queue := s.line.queue.filter (fun q => decide (q.ref ≠ e.ref)) } }))

/-- DEADLINE_EXPIRY: the earliest deadline is taken at its instant. An entry outside transmission leaves the queue, and
the hire whose CLM it was is refused with group 4; an entry in transmission is left to the end of its attempt. -/
def Claims.DeadlineExpiryRemovesTheEntry : Prop :=
  ∀ (s : State) (e : TxEntry), earliestDeadline s.deadlinesRunning = some e →
    let r := s.reachMs e.deadline
    let gone : State :=
      { r with line := { r.line with queue := s.line.queue.filter (fun q => decide (q.ref ≠ e.ref)) } }
    (s.line.inTransmission e = true → exec .deadlineExpiry s = .next (conclude r)) ∧
    (s.line.inTransmission e = false → e.kind ∉ [.clm, .ofr] → exec .deadlineExpiry s = .next (conclude gone)) ∧
    (s.line.inTransmission e = false → e.kind = .clm → s.awaitsClm e.ref = true →
      completes .deadlineExpiry s (fun t =>
        t.hire = { s.hire with state := .idle, record := none } ∧
        t.dock.refusal = some { flashes := 4, endAt := r.clock.ms + 3000 } ∧
        ({ dock := true, hire := true } : Touched).frame s t)) ∧
    (s.line.inTransmission e = false → e.kind = .ofr → s.van.offer = .queued → s.van.offerRef = e.ref →
      completes .deadlineExpiry s (fun t =>
        t.van = { s.van with offer := .none_, retryAt := some (r.clock.ms + 500) } ∧
        ({} : Touched).frame s t))

/-- A frame offered to a full queue of entries in class order (R8): where an entry outside transmission has a higher class
number than the frame, the newest of the highest such class is removed and the frame takes its place by class and age;
where none has, the frame is refused and nothing changes. -/
def Claims.FullQueueDisplaces : Prop :=
  ∀ (kind : Kind) (body : List Byte) (s : State), s.refusesOffer kind = false → kind ≠ .bcn → s.line.queue.length = 8 →
    s.line.queue.Pairwise (fun a b => a.kind.cls ≤ b.kind.cls) →
    (∀ before e after, s.line.queue = before ++ e :: after → s.line.inTransmission e = false →
      kind.cls < e.kind.cls → (∀ x ∈ after, s.line.inTransmission x = true) →
      (∀ x ∈ s.line.queue, x.kind.cls ≤ e.kind.cls ∨ s.line.inTransmission x = true) ∧
      s.offer kind body =
        ({ s with
           line := { s.line with
             queue :=
               let left := s.line.queue.filter (fun q => decide (q.ref ≠ e.ref))
               let new : TxEntry :=
                 { kind := kind, body := body, ref := s.line.nextRef, queuedAt := s.clock.ms
                   deadline := s.clock.ms + (if kind.cls = 0 then 1000 else 5000) }
               left.takeWhile (fun x => decide (x.kind.cls ≤ kind.cls)) ++
                 new :: left.dropWhile (fun x => decide (x.kind.cls ≤ kind.cls))
             nextRef := s.line.nextRef + 1 } }, some s.line.nextRef)) ∧
    ((∀ e ∈ s.line.queue, s.line.inTransmission e = true ∨ e.kind.cls ≤ kind.cls) →
      s.offer kind body = (s, none))

/-- A contended attempt keeps its entry, a deadline removes it, and an offer to a full queue displaces (model's choices:
log 2, 11, 21). -/
def Obligations.ContendedAndLapsedFrames : Prop :=
  Claims.EchoCheckFailContends ∧ Claims.DeadlineExpiryRemovesTheEntry ∧ Claims.FullQueueDisplaces

/-- STUCK_LINE at a sending station outside a character: the wait is abandoned, LINE is raised and does not begin to
clear, and a frame in transmission ends contended. The frames stay queued: every entry outside transmission, in a
queue with room for what LINE itself queues at a post, and the contended one unless its deadline or the clash mark
removes it. STUCK_LINE changes nothing at a MONITOR. -/
def Claims.StuckLineStopsSending : Prop :=
  ∀ s : State, s.line.stuck = false → s.line.charEndsAt = none →
    (s.sends = true → completes .stuckLine s (fun t =>
      t.line.stuck = true ∧ t.line.wait = none ∧ t.line.tx = none ∧ t.line.lineRaised = true ∧
      t.line.lineClearAt = none ∧ t.line.serial = s.line.serial ∧ t.line.lastSender = s.line.lastSender ∧
      (s.isPost = true → .line ∈ t.fault.raised) ∧
      (s.isPost = false ∨ s.line.queue.length ≤ 6 →
        (∀ e ∈ s.line.queue, s.line.inTransmission e = false → e.kind ≠ .bcn ∨ s.line.heldBeacon = none →
          e ∈ t.line.queue) ∧
        (∀ e, s.line.txEntry = some e → msReached e.deadline s.clock.ms = false →
          s.line.clash = false ∨ e.kind.cls ≠ 0 → ∃ q ∈ t.line.queue, q.ref = e.ref ∧ q.kind = e.kind)))) ∧
    (s.sends = false → s.settled → exec .stuckLine s = .next s)

/-- LINE_CLEAR: LINE is cleared at its instant, and at a post the post fault with it, without an FLT; a post fault level
that changes with it has the own offer evaluated (R170). -/
def Claims.LineClearClearsTheFault : Prop :=
  ∀ (s : State) (due : Ms), s.line.lineRaised = true → s.line.stuck = false → s.line.lineClearAt = some due →
    let cleared : State :=
      { s.reachMs due with
        line := { s.line with lineRaised := false, lineClearAt := none }
        fault := { s.fault with raised := s.fault.raised.filter (fun f => decide (f ≠ .line)) } }
    exec .lineClear s = .next (conclude (cleared.evaluateSince s))

/-- A stuck line stops sending, keeps its frames and raises LINE, and LINE clears after its time (model's choices: log 8,
11). -/
def Obligations.StuckLineAndItsFault : Prop :=
  Claims.StuckLineStopsSending ∧ Claims.LineClearClearsTheFault

/-- START_BIT on a free line ends quiet and abandons an access wait; the character it begins ends 10.5 bit-times later. -/
def Claims.StartBitEndsQuiet : Prop :=
  ∀ s : State, s.line.tx = none → s.line.charEndsAt = none →
    exec .startBit s = .next (conclude
      { s with
        line := { s.line with
          quiet := none, wait := none, recessiveSince := none,
          charEndsAt := some (s.clock.plusUs (s.bitUs * 21 / 2)) } })

/-- LINE_CHARACTER with a good stop bit while the station drives nothing: out of frame a mark character begins a frame and
any other is discarded; in frame a character without the mark that neither ends the frame nor is a length above 48 is
added; a framing error out of frame is discarded. -/
def Claims.LineCharacterIsCollected : Prop :=
  ∀ (c : LineChar) (s : State), s.line.tx = none →
    let r := s.characterEnds c
    (c.stopGood = true → c.mark = true → s.line.rx = none →
      exec (.lineCharacter c) s =
        .next (conclude { r with line := { r.line with rx := some [c.data], rxCharEnd := some r.clock } })) ∧
    (c.mark = false ∨ c.stopGood = false → s.line.rx = none →
      exec (.lineCharacter c) s = .next (conclude r)) ∧
    (∀ bytes, c.stopGood = true → c.mark = false → s.line.rx = some bytes →
      (bytes.length < 3 ∨ bytes.length = 3 ∧ c.data.toNat ≤ 48 ∨
        4 ≤ bytes.length ∧ fieldAt bytes 3 1 ≤ 48 ∧ bytes.length + 1 < 6 + fieldAt bytes 3 1) →
      exec (.lineCharacter c) s = .next (conclude
        { r with line := { r.line with rx := some (bytes ++ [c.data]), rxCharEnd := some r.clock } }))

/-- The last character of a frame that R5 discards (FRAME_RECEIVED), a character that abandons one (FRAME_ABANDONED) and
the receive gap (RECEIVE_GAP_EXPIRY) each leave the frame, add one entry to a sending station's bad-frame record with
its local ms, drop the oldest of 21, and leave the last sender; a mark character begins a new frame. -/
def Claims.BadFramesAreRecorded : Prop :=
  ∀ (c : LineChar) (bytes : List Byte) (s : State), s.line.tx = none → s.line.rx = some bytes → s.sends = true →
    let record : Ms → List Ms := fun at_ => (s.line.badFrames ++ [at_]).drop (s.line.badFrames.length + 1 - 21)
    (endsFrame bytes c = true → frameOf (bytes ++ [c.data]) = none →
      completes (.frameReceived c) s (fun t =>
        t.line.rx = none ∧ t.line.badFrames = record (s.heardAt c) ∧ t.line.lastSender = s.line.lastSender ∧
        ({ fault := true } : Touched).frame s t)) ∧
    (abandonsFrame bytes c = true →
      completes (.frameAbandoned c) s (fun t =>
        t.line.rx = (if c.stopGood && c.mark then some [c.data] else none) ∧
        t.line.badFrames = record (s.heardAt c) ∧ t.line.lastSender = s.line.lastSender ∧
        ({ fault := true } : Touched).frame s t)) ∧
    (∀ i, s.line.rxCharEnd = some i → s.line.charEndsAt = none →
      completes .receiveGapExpiry s (fun t =>
        t.line.rx = none ∧ t.line.badFrames = record (s.reachInstant (i.plusUs (33 * s.bitUs))).clock.ms ∧
        t.line.lastSender = s.line.lastSender ∧ ({ fault := true } : Touched).frame s t))

/-- A frame still in progress when the station itself starts one (R6, R15): the first character of the station's own
frame, a mark, abandons it when it ends, 11 bit-times after the start; that instant enters the bad-frame record, and
LINE, when it shows an excess, is raised and its clearing counted from it. The end of the attempt counts the same
instant where the character itself was not presented (model's choice: log 7). -/
def Claims.OwnFirstCharacterAbandons : Prop :=
  ∀ (c : LineChar) (bytes : List Byte) (s : State) (x : Transmission) (e : TxEntry), s.line.tx = some x →
    s.line.rx = some bytes → s.sends = true →
    let end_ := x.start.plusUs (11 * s.bitUs)
    let record := (s.line.badFrames ++ [end_.ms]).drop (s.line.badFrames.length + 1 - 21)
    let counted (t : State) : Prop :=
      t.line.badFrames = record ∧
      (badFrameExcess record = true → s.line.stuck = false →
        t.line.lineRaised = true ∧ t.line.lineClearAt = some (end_.ms + 60000)) ∧
      (badFrameExcess record = false →
        t.line.lineRaised = s.line.lineRaised ∧ t.line.lineClearAt = s.line.lineClearAt)
    (c.stopGood = true → c.mark = true → x.bytes.head? = some c.data →
      completes (.frameAbandoned c) s (fun t =>
        counted t ∧ t.line.rx = none ∧ t.line.tx = some x ∧ t.line.serial = s.line.serial ∧
        t.clock = (s.reachInstant end_).clock ∧ ({ fault := true } : Touched).frame s t)) ∧
    (s.attemptSound → s.line.txEntry = some e → s.straps.role = .terminal → e.kind = .fcl →
      completes .sentIntact s (fun t => counted t ∧ t.line.rx = none ∧ t.line.tx = none))

/-- Start bits, characters and bad frames on the line, the own first character among them (model's choices: log 7, 18). -/
def Obligations.CharactersAreCollected : Prop :=
  Claims.StartBitEndsQuiet ∧ Claims.LineCharacterIsCollected ∧ Claims.BadFramesAreRecorded ∧
  Claims.OwnFirstCharacterAbandons

/-! ### Frames taken intact (chapters 1 to 3 and 6 to 11) -/

/-- A frame taken intact from another station: the last sender is its sender, and the sender's entry is LIVE, heard now,
silent 6,000 ms later, with the beacon of a BCN or the beacon held before. -/
def Claims.FrameFromAPeerIsHeard : Prop :=
  ∀ (c : LineChar) (f : Frame) (s : State), s.takes c f → s.peers.entries.length = 32 →
    completes (.frameReceived c) s (fun t =>
      t.line.rx = none ∧ t.line.lastSender = f.sender ∧ t.line.serial = s.line.serial ∧
      t.line.badFrames = s.line.badFrames ∧
      t.peers.entries = s.peers.entries.set f.sender
        { state := .live
          beacon := if f.kind = .bcn then some (bcnOf f.body) else (s.storedPeer f.sender).beacon
          heard := some (s.heardAt c), silenceAt := some (s.heardAt c + 6000) } ∧
      t.peers.beaconAt = s.peers.beaconAt)

/-- A frame bearing a sending station's own number sets the last sender and the clash mark, and reaches neither the peer
table nor a listening block. Every class 0 frame leaves the queue, and a post holds CLASH. -/
def Claims.OwnNumberHeardIsAClash : Prop :=
  ∀ (c : LineChar) (f : Frame) (bytes : List Byte) (s : State),
    s.ending bytes c → frameOf (bytes ++ [c.data]) = some f → s.sends = true → f.sender = s.number →
    completes (.frameReceived c) s (fun t =>
      t.line.lastSender = s.number ∧ t.line.clash = true ∧ (∀ e ∈ t.line.queue, e.kind.cls ≠ 0) ∧
      t.peers = s.peers ∧ t.view.entries = s.view.entries ∧ t.hire.claims = s.hire.claims ∧ t.time = s.time ∧
      t.tag = s.tag ∧ t.settle = s.settle ∧ t.van.window = s.van.window ∧
      (s.isPost = true → .clash ∈ t.fault.raised))

/-- The terminal's beacon gives a station without a station id its own: the adopted id is the beacon's, and no GATHERING
slot waits for it any longer. A different id at a post that has one sets the conflict-seen mark and raises IDCONF, and
the adopted id stays. -/
def Claims.TerminalBeaconGivesTheStationId : Prop :=
  ∀ (c : LineChar) (f : Frame) (s : State), s.takes c f → f.kind = .bcn → f.sender = 0 → s.straps.role ≠ .terminal →
    fieldAt f.body 0 1 = 1 → fieldAt f.body 17 2 ≠ 0 →
    (s.peers.adoptedId = 0 → completes (.frameReceived c) s (fun t =>
      t.peers.adoptedId = fieldAt f.body 17 2 ∧
      ∀ name r time tariff station at_,
        (t.settle.slot name) = some { record := r, phase := .gathering time tariff station at_ } → station = false)) ∧
    (s.peers.adoptedId ≠ 0 → s.peers.adoptedId ≠ fieldAt f.body 17 2 → completes (.frameReceived c) s (fun t =>
      t.peers.adoptedId = s.peers.adoptedId ∧ t.settle = s.settle ∧
      (s.isPost = true → s.peers.conflictSeen = false →
        t.peers.conflictSeen = true ∧ .idConf ∈ t.fault.raised)))

/-- A frame of a peer is heard, one bearing the own number is a clash, and the terminal's beacon gives the station id. -/
def Obligations.FramesFromPeersAndClashes : Prop :=
  Claims.FrameFromAPeerIsHeard ∧ Claims.OwnNumberHeardIsAClash ∧ Claims.TerminalBeaconGivesTheStationId

/-- A CLM at a post enters the claim list as its newest entry: a malformed one is disregarded, an entry of its claimant
and serial goes first, and then the oldest of 16. -/
def Claims.ClaimHeardEntersTheList : Prop :=
  ∀ (c : LineChar) (f : Frame) (s : State), s.takes c f → s.straps.role = .post → f.kind = .clm →
    let member := fieldAt f.body 0 4
    let allowance := fieldAt f.body 4 1
    let others := s.hire.claims.filter (fun x => !(decide (x.claimant = f.sender) && decide (x.serial = f.serial)))
    (member = 0 ∨ allowance = 0 ∨ 4 < allowance →
      completes (.frameReceived c) s (fun t => t.hire = s.hire)) ∧
    (member ≠ 0 → 1 ≤ allowance → allowance ≤ 4 → s.hire.claims.length ≤ 16 →
      completes (.frameReceived c) s (fun t =>
        t.hire =
          { s.hire with
            claims := (if others.length = 16 then others.drop 1 else others) ++
              [{ member := member, claimant := f.sender, serial := f.serial, heard := s.heardAt c }] } ∧
        ({ peers := true, hire := true, fault := true } : Touched).frame s t))

/-- A WDR or an HIR at a post removes the claim of its sender, claim serial and member and no other, in place; an HIR
first raises the member's bikes out by one, to 15 at most, and makes its entry the most recently used. -/
def Claims.WithdrawalOrHireRemovesTheClaim : Prop :=
  ∀ (c : LineChar) (f : Frame) (s : State), s.takes c f → s.straps.role = .post →
    let member := fieldAt f.body 1 4
    let claims := s.hire.claims.filter (fun x =>
      !(decide (x.claimant = f.sender) && decide (x.serial = BitVec.ofNat 8 (fieldAt f.body 0 1)) &&
        decide (x.member = member)))
    (f.kind = .wdr → completes (.frameReceived c) s (fun t =>
      t.hire = { s.hire with claims := claims } ∧ t.view = s.view ∧
      ({ peers := true, hire := true, fault := true } : Touched).frame s t)) ∧
    (f.kind = .hir → completes (.frameReceived c) s (fun t =>
      t.hire = { s.hire with claims := claims } ∧
      (∀ e, member ≠ 0 → s.view.find member = some e →
        t.view.entries = s.view.entries.filter (fun x => decide (x.member ≠ member)) ++
          [{ e with bikesOut := min (e.bikesOut + 1) 15 }]) ∧
      (member = 0 ∨ s.view.find member = none → t.view = s.view) ∧
      ({ peers := true, hire := true, fault := true, view := true } : Touched).frame s t))

/-- CLM, WDR and HIR heard at a post change its claim list, and an HIR its view. -/
def Obligations.ClaimsHeardAndWithdrawn : Prop :=
  Claims.ClaimHeardEntersTheList ∧ Claims.WithdrawalOrHireRemovesTheClaim

/-- An STL at a post or a terminal lowers the member's bikes out by one, to 0 at least, and makes the entry the most
recently used. With a fare the greater day spend stands for the same day, a later day replaces day and spend, an
earlier one changes neither; UNRATED changes bikes out alone. A member without an entry gets none. Every fare field
but FFFFFFH counts as a fare, and the day spend is stored as received (model's choice: log 32). -/
def Claims.SettlementHeardUpdatesTheView : Prop :=
  ∀ (c : LineChar) (f : Frame) (s : State), s.takes c f → s.straps.role = .post ∨ s.straps.role = .terminal →
    f.kind = .stl →
    let member := fieldAt f.body 0 4
    let spend := fieldAt f.body 24 3
    let day := fieldAt f.body 27 2
    completes (.frameReceived c) s (fun t =>
      (∀ e, member ≠ 0 → s.view.find member = some e →
        t.view.entries = s.view.entries.filter (fun x => decide (x.member ≠ member)) ++
          [if fieldAt f.body 18 3 = 0xFFFFFF ∨ day < e.day then { e with bikesOut := e.bikesOut - 1 }
           else if day = e.day then { e with bikesOut := e.bikesOut - 1, spend := max e.spend spend }
           else { e with bikesOut := e.bikesOut - 1, day := day, spend := spend }]) ∧
      (member = 0 ∨ s.view.find member = none → t.view = s.view) ∧
      ({ peers := true, fault := true, view := true, port := true } : Touched).frame s t)

/-- An MBR from the terminal that passes its tests replaces or inserts the member's entry whole, as the most recently
used, the least recently used of 256 going first. One that fails a test, or comes from another sender, is disregarded.
With no lookup outstanding for the member nothing else happens. -/
def Claims.MemberNoticeReplacesTheEntry : Prop :=
  ∀ (c : LineChar) (f : Frame) (s : State), s.takes c f → s.straps.role = .post → f.kind = .mbr →
    (∀ e, f.sender = 0 → mbrOf f.body = some e → s.view.entries.length ≤ 256 →
      (∀ l, s.view.lookup = some l → l.card.member ≠ e.member) →
      let others := s.view.entries.filter (fun x => decide (x.member ≠ e.member))
      completes (.frameReceived c) s (fun t =>
        t.view = { s.view with entries := (if others.length = 256 then others.drop 1 else others) ++ [e] } ∧
        ({ peers := true, fault := true, view := true } : Touched).frame s t)) ∧
    (f.sender ≠ 0 ∨ mbrOf f.body = none → completes (.frameReceived c) s (fun t => t.view = s.view ∧ t.hire = s.hire))

/-- An MBR for the member of an outstanding lookup answers it: the lookup ends, and the hire in LOOKUP claims with the
entry's answer when every check passes and the CLM is queued. -/
def Claims.MemberNoticeAnswersTheLookup : Prop :=
  ∀ (c : LineChar) (f : Frame) (e : ViewEntry) (l : Lookup) (h : HireRecord) (s : State),
    s.takes c f → s.straps.role = .post → f.kind = .mbr → f.sender = 0 → mbrOf f.body = some e →
    s.view.lookup = some l → l.card.member = e.member → s.hire.state = .lookup → s.hire.record = some h →
    h.card = l.card →
    (s.storedPeer 0).state = .live → s.line.queue = [] → s.barred = false → s.line.clash = false →
    s.timeUnset = false → s.peers.adoptedId ≠ 0 → s.dock.docked = true → s.tagCondition = true → s.bikeLevel < 2 →
    s.van.hold = false → s.postLevel < 2 →
    let today := (s.characterEnds c).today
    today ≤ l.card.expiryDay → e.minSequence ≤ l.card.sequence → e.status = .good → e.bikesOut < e.allowance →
    completes (.frameReceived c) s (fun t =>
      t.view.lookup = none ∧ t.hire.state = .claiming ∧
      (∃ ref, t.hire.record = some
        { h with
          clmRef := some ref
          answer := some
            { status := .good, plan := e.plan, allowance := e.allowance, bikesOut := e.bikesOut,
              spend := (if today ≤ e.day then e.spend else 0), minSequence := e.minSequence, unverified := false } } ∧
        ∃ q ∈ t.line.queue, q.ref = ref ∧ q.kind = .clm ∧ q.body = be4 h.card.member ++ be1 e.allowance))

/-- STL and MBR heard update the member view, and an MBR answers a lookup (model's choices: log 32). -/
def Obligations.SettlementsAndMemberNotices : Prop :=
  Claims.SettlementHeardUpdatesTheView ∧ Claims.MemberNoticeReplacesTheEntry ∧
  Claims.MemberNoticeAnswersTheLookup

/-- A VOP from the van whose values are in range opens its window at a post, whatever window of another serial was open:
no offer accepted yet, the expiry the window length later, van hold and deliver target ended. One of the open window's
serial, one out of range and one from another sender change no window. -/
def Claims.WindowNoticeOpensTheWindow : Prop :=
  ∀ (c : LineChar) (f : Frame) (s : State), s.takes c f → s.straps.role = .post → f.kind = .vop →
    (∀ v, f.sender = 31 → vopOf f.body = some v → (∀ w, s.van.window = some w → w.serial ≠ v.serial) →
      (s.van.window = none → s.van.hold = false ∧ s.van.target = false) →
      completes (.frameReceived c) s (fun t =>
        t.van.window = some
          { serial := v.serial, mode := v.mode, places := v.places, crew := v.crew,
            expiresAt := s.heardAt c + BitVec.ofNat 32 (v.seconds * 1000), accepted := [] } ∧
        t.van.hold = false ∧ t.van.target = false ∧ t.van.offer ∈ [OwnOffer.none_, OwnOffer.queued] ∧
        ({ peers := true, fault := true, van := true } : Touched).frame s t)) ∧
    (f.sender ≠ 31 ∨ vopOf f.body = none ∨
        (∃ v w, vopOf f.body = some v ∧ s.van.window = some w ∧ w.serial = v.serial) →
      completes (.frameReceived c) s (fun t =>
        t.van.window = s.van.window ∧ t.van.hold = s.van.hold ∧ t.van.target = s.van.target))

/-- A window closes at a post on a VCL of its serial from the van, at its expiry, and when the van falls silent: van hold
and deliver target end, the accepted list, the own offer and its retry timer go. A VCL of another serial or sender
closes nothing. The silence closes it before the own offer is evaluated (model's choice: log 41). -/
def Claims.WindowCloses : Prop :=
  ∀ (s : State) (w : VanWindow), s.straps.role = .post → s.van.window = some w →
    let closed : VanUnit :=
      { s.van with
        window := none, offer := .none_, voidMark := false, retryAt := none, hold := false, target := false }
    (∀ c f, s.takes c f → f.kind = .vcl → f.sender = 31 → fieldAt f.body 0 1 = w.serial →
      completes (.frameReceived c) s (fun t => t.van = { closed with offerRef := t.van.offerRef })) ∧
    (∀ c f, s.takes c f → f.kind = .vcl → f.sender ≠ 31 ∨ fieldAt f.body 0 1 ≠ w.serial →
      completes (.frameReceived c) s (fun t => t.van.window = some w ∧ t.van.hold = s.van.hold)) ∧
    completes .windowExpiry s (fun t => t.van = closed ∧ ({ van := true } : Touched).frame s t) ∧
    (∀ due, (s.storedPeer 31).state = .live → (s.storedPeer 31).silenceAt = some due → s.number ≠ 31 →
      s.peers.entries.length = 32 →
      completes (.silenceTimerExpiry 31) s (fun t => t.van = closed ∧ (t.storedPeer 31).state = .silent))

/-- The van's own window (R177): its VOP sent intact opens it from the end of its last stop bit, closing one of another
serial first; its VCL sent intact, and the expiry, close it. Each close of an open window gives the host one
WINDOW-CLOSED event with its serial, its crew member and the cause: NEW-VOP, VCL or EXPIRY. A VOP of the open window's
serial, and a VCL of another, change no window. -/
def Claims.VanKeepsItsWindow : Prop :=
  ∀ (s : State), s.straps.role = .van → s.port.events.length < 64 →
    let told (at_ : Ms) (cause : WindowCause) : List Event :=
      match s.van.window with
      | some w => [{ at_ := at_, body := .windowClosed w.serial w.crew cause }]
      | none => []
    let closed : VanUnit :=
      { s.van with
        window := none, offer := .none_, voidMark := false, retryAt := none, hold := false, target := false }
    (∀ x e, s.line.tx = some x → s.line.txEntry = some e → s.line.rx = none →
      let now := (s.reachInstant (x.start.plusUs (x.bytes.length * 11 * s.bitUs))).clock.ms
      let kept (t : State) : Prop :=
        t.van = s.van ∧ t.port.events = s.port.events ∧ ({ peers := true } : Touched).frame s t
      (∀ v, e.kind = .vop → vopOf e.body = some v → (∀ w, s.van.window = some w → w.serial ≠ v.serial) →
        completes .sentIntact s (fun t =>
          t.van.window = some
            { serial := v.serial, mode := v.mode, places := v.places, crew := v.crew
              expiresAt := now + BitVec.ofNat 32 (v.seconds * 1000), accepted := [] } ∧
          t.van.offer = .none_ ∧ t.port.events = s.port.events ++ told now .newVop ∧
          ({ peers := true, van := true, port := true } : Touched).frame s t)) ∧
      (∀ v w, e.kind = .vop → vopOf e.body = some v → s.van.window = some w → w.serial = v.serial →
        completes .sentIntact s kept) ∧
      (∀ w, e.kind = .vcl → s.van.window = some w → fieldAt e.body 0 1 = w.serial →
        completes .sentIntact s (fun t => t.van = closed ∧ t.port.events = s.port.events ++ told now .vcl ∧
          ({ peers := true, van := true, port := true } : Touched).frame s t)) ∧
      (e.kind = .vcl → (∀ w, s.van.window = some w → fieldAt e.body 0 1 ≠ w.serial) →
        completes .sentIntact s kept)) ∧
    (∀ w, s.van.window = some w → completes .windowExpiry s (fun t =>
      t.van = closed ∧ t.port.events = s.port.events ++ told (s.reachMs w.expiresAt).clock.ms .expiry ∧
      ({ van := true, port := true } : Touched).frame s t))

/-- A VOP opens a window at a post and at the van; VCL, its expiry and the van's silence close it (model's choices: log 2,
41). -/
def Obligations.WindowsOpenAndClose : Prop :=
  Claims.WindowNoticeOpensTheWindow ∧ Claims.WindowCloses ∧ Claims.VanKeepsItsWindow

/-- Another post's OFR joins the accepted list of a post or the van when its serial is the window's, its sender 1 to 30
without an entry, its bike id 0 in DELIVER, and a place is left; otherwise it changes nothing there. -/
def Claims.OfferHeardJoinsTheList : Prop :=
  ∀ (c : LineChar) (f : Frame) (s : State) (w : VanWindow), s.takes c f → f.kind = .ofr →
    s.straps.role = .post ∨ s.straps.role = .van → s.van.window = some w →
    (fieldAt f.body 0 1 = w.serial → 1 ≤ f.sender → f.sender ≤ 30 → (w.mode = .deliver → fieldAt f.body 1 4 = 0) →
      w.accepts f.sender = false → w.accepted.length < w.places →
      completes (.frameReceived c) s (fun t =>
        t.van.window = some
          { w with
            accepted := w.accepted ++
              [{ station := f.sender, bikeId := fieldAt f.body 1 4, rank := fieldAt f.body 5 1,
                 heard := s.heardAt c }] } ∧
        t.van.hold = s.van.hold ∧ t.van.target = s.van.target)) ∧
    (fieldAt f.body 0 1 ≠ w.serial ∨ f.sender = 0 ∨ f.sender = 31 ∨ (w.mode = .deliver ∧ fieldAt f.body 1 4 ≠ 0) ∨
        w.accepts f.sender = true ∨ w.places ≤ w.accepted.length →
      completes (.frameReceived c) s (fun t =>
        t.van.window = some w ∧ t.van.hold = s.van.hold ∧ t.van.target = s.van.target))

/-- An OFR whose frame also makes a peer change, as that of a post not LIVE does: the OFR is applied to the accepted list
with its evaluation before the van window unit takes the change (R167), so that a post which has no offer evaluates on
the list with that OFR. It makes no offer once the list is full; with places left it offers if it ranks within those
the OFR leaves, and else, with no change of the duplicate condition, it makes no offer, whatever its rank was before. -/
def Claims.OfferIsAppliedBeforeThePeerChange : Prop :=
  ∀ (c : LineChar) (f : Frame) (s : State) (w : VanWindow), s.takes c f → f.kind = .ofr → s.straps.role = .post →
    s.van.window = some w → s.van.offer = .none_ → fieldAt f.body 0 1 = w.serial → 1 ≤ f.sender → f.sender ≤ 30 →
    (w.mode = .deliver → fieldAt f.body 1 4 = 0) → w.accepts f.sender = false → w.accepted.length < w.places →
    let joined : VanWindow :=
      { w with
        accepted := w.accepted ++
          [{ station := f.sender, bikeId := fieldAt f.body 1 4, rank := fieldAt f.body 5 1, heard := s.heardAt c }] }
    let heard : State :=
      s.setPeer f.sender
        { state := .live, beacon := (s.storedPeer f.sender).beacon, heard := some (s.heardAt c),
          silenceAt := some (s.heardAt c + 6000) }
    let fits : Prop := heard.ownCandidate joined = true ∧ heard.ownRank joined + joined.accepted.length ≤ w.places
    let silent (t : State) : Prop :=
      t.van.offer = .none_ ∧ ∀ q ∈ t.line.queue, q.kind = .ofr → ∃ q' ∈ s.line.queue, q'.ref = q.ref
    (w.accepted.length + 1 = w.places → completes (.frameReceived c) s silent) ∧
    (w.accepted.length + 1 < w.places → fits → s.refusesOffer .ofr = false → s.line.queue.length < 8 →
      (∀ e ∈ s.line.queue, e.ref < s.line.nextRef) → completes (.frameReceived c) s (fun t =>
        t.van.offer = .queued ∧ t.van.offerRef = s.line.nextRef ∧
        ∃ q ∈ t.line.queue, q.kind = .ofr ∧ q.ref = s.line.nextRef ∧
          q.body = be1 w.serial ++
            be4 (if w.mode = .collect then (s.copyId.map IdSection.bikeId).getD 0 else 0) ++
            be1 (heard.ownRank joined))) ∧
    (w.accepted.length + 1 < w.places → ¬ fits → heard.duplicateCondition = s.peers.duplicate →
      completes (.frameReceived c) s silent)

/-- A post's own OFR sent intact: in the list it makes the own offer ACCEPTED, and unless the void mark is set it begins a
van hold with the window's serial (COLLECT, a bike docked) or a deliver target (DELIVER, none docked). With no place
left the own offer is NOT-ACCEPTED. -/
def Claims.OwnOfferSentIsHeld : Prop :=
  ∀ (s : State) (x : Transmission) (e : TxEntry) (w : VanWindow),
    s.straps.role = .post → s.line.tx = some x → s.line.txEntry = some e → s.line.rx = none → e.kind = .ofr →
    s.van.window = some w → s.van.offer = .queued → s.van.offerRef = e.ref → fieldAt e.body 0 1 = w.serial →
    1 ≤ s.number → s.number ≤ 30 → w.accepts s.number = false → (w.mode = .deliver → fieldAt e.body 1 4 = 0) →
    (w.accepted.length < w.places → completes .sentIntact s (fun t =>
      t.van.offer = .accepted ∧
      t.van.hold =
        (s.van.hold || (!s.van.voidMark && s.dock.docked && decide (w.mode = .collect))) ∧
      t.van.target =
        (s.van.target || (!s.van.voidMark && !s.dock.docked && decide (w.mode = .deliver))) ∧
      (s.van.voidMark = false → s.dock.docked = true → w.mode = .collect → t.van.holdSerial = w.serial) ∧
      (∃ entry, entry.station = s.number ∧ t.van.window = some { w with accepted := w.accepted ++ [entry] }))) ∧
    (w.places ≤ w.accepted.length → completes .sentIntact s (fun t =>
      t.van.offer = .notAccepted ∧ t.van.window = some w ∧ t.van.hold = s.van.hold ∧ t.van.target = s.van.target))

/-- OFFER_RETRY_EXPIRY: a candidate whose rank is within the places left queues one OFR with the window's serial, its bike
and its rank; the own offer is QUEUED, the retry timer gone and the void mark clear. A post without an open window
queues nothing. -/
def Claims.OfferRetryOffersAgain : Prop :=
  ∀ (s : State) (due : Ms), s.van.retryAt = some due →
    (∀ w, s.straps.role = .post → s.van.window = some w → s.van.offer = .none_ →
      w.accepted.length < w.places → s.ownCandidate w = true → s.ownRank w ≤ w.places - w.accepted.length →
      s.barred = false → s.line.clash = false → s.line.queue.length < 8 →
      (∀ e ∈ s.line.queue, e.ref < s.line.nextRef) →
      completes .offerRetryExpiry s (fun t =>
        t.van =
          { s.van with
            offer := .queued, offerRef := s.line.nextRef, voidMark := false, retryAt := none } ∧
        (∃ q ∈ t.line.queue, q.kind = .ofr ∧ q.ref = s.line.nextRef ∧
          q.body = be1 w.serial ++ be4 (s.offerBike w) ++ be1 (s.ownRank w)) ∧
        ({} : Touched).frame s t)) ∧
    (s.van.window = none → completes .offerRetryExpiry s (fun t =>
      t.van = { s.van with retryAt := none } ∧ t.line.nextRef = s.line.nextRef ∧
      ({} : Touched).frame s t))

/-- OFRs heard join the accepted list before the peer change, the own OFR begins the hold, a retry offers again (model's
choices: log 11, 27). -/
def Obligations.OffersAreHeardAndHeld : Prop :=
  Claims.OfferHeardJoinsTheList ∧ Claims.OfferIsAppliedBeforeThePeerChange ∧ Claims.OwnOfferSentIsHeld ∧
  Claims.OfferRetryOffersAgain

/-- An evaluation of the own offer (R170): a post with an open window that has a place left, whose own offer is NONE, that
is itself a candidate and ranks within the places left, queues an OFR of the window's serial, its bike id and that
rank, and its own offer is QUEUED with the void mark clear; refused at once, the offer stays NONE and the retry timer
starts. Otherwise nothing changes, and never anything but the queue and the own offer. -/
def Claims.EvaluationOffersTheCandidate : Prop :=
  ∀ s : State,
    (∀ w, s.van.window = some w → s.van.offer = .none_ → s.isPost = true → s.ownCandidate w = true →
      w.accepted.length < w.places → s.ownRank w + w.accepted.length ≤ w.places →
      (s.refusesOffer .ofr = false → s.line.queue.length < 8 →
        s.evaluateOffer.line.queue = insertEntry (s.newEntry .ofr (be1 w.serial ++
          be4 (if w.mode = .collect then (s.copyId.map IdSection.bikeId).getD 0 else 0) ++ be1 (s.ownRank w)))
            s.line.queue ∧
        s.evaluateOffer.van = { s.van with offer := .queued, offerRef := s.line.nextRef, voidMark := false }) ∧
      (s.refusesOffer .ofr = true →
        s.evaluateOffer.line = s.line ∧
        s.evaluateOffer.van = { s.van with retryAt := some (s.clock.ms + 500) })) ∧
    (s.van.window = none ∨ s.van.offer ≠ .none_ ∨ s.isPost = false ∨ s.hire.state ≠ .idle ∨ s.dock.selfTest ≠ none ∨
      1 < s.postLevel ∨
      (∃ w, s.van.window = some w ∧ (s.ownCandidate w = false ∨ w.places < s.ownRank w + w.accepted.length)) →
      s.evaluateOffer = s) ∧
    s.evaluateOffer =
      { s with
        line := { s.line with queue := s.evaluateOffer.line.queue, nextRef := s.evaluateOffer.line.nextRef }
        van := { s.van with
          offer := s.evaluateOffer.van.offer, offerRef := s.evaluateOffer.van.offerRef,
          voidMark := s.evaluateOffer.van.voidMark, retryAt := s.evaluateOffer.van.retryAt } }

/-- Two causes of R170 in one step are two evaluations, each on the state as it stands. A released bike treated as taken:
the hire is IDLE first, the post is a candidate of a COLLECT window then and queues its OFR, and the bike's leaving
makes that offer void. A battery below 5 %: LOW-CHARGE comes before FLAT, and the OFR carries the rank at level 1. -/
def Claims.EachCauseIsEvaluated : Prop :=
  ∀ (s : State) (w : VanWindow), s.straps.role = .post → s.van.window = some w → w.mode = .collect →
    s.van.offer = .none_ → w.accepted.length < w.places → s.barred = false → s.line.clash = false →
    s.line.queue.length < 5 → (∀ e ∈ s.line.queue, e.ref < s.line.nextRef) →
    let offered (u t : State) : Prop :=
      t.van.offer = .queued ∧
      ∃ q ∈ t.line.queue, q.kind = .ofr ∧ q.ref = t.van.offerRef ∧
        q.body = be1 w.serial ++ be4 ((u.copyId.map IdSection.bikeId).getD 0) ++ be1 (u.ownRank w)
    (∀ due h, s.hire.state = .releasing → s.hire.record = some h → h.settleAt = some due → s.dock.count < 6 →
      s.dock.docked = true →
      let u : State := { s.reachMs due with hire := { s.hire with state := .idle, record := none } }
      u.ownCandidate w = true → u.ownRank w + w.accepted.length ≤ w.places →
      completes .settleTimerExpiry s (fun t =>
        offered u t ∧ t.van.voidMark = true ∧ t.dock.docked = false ∧ t.hire.state = .idle)) ∧
    (∀ i code0 code1 code2 code3, s.dock.converter = .busy (.periodic true) i → s.dock.docked = true →
      s.copyHeld = true → s.bikeLevel = 0 →
      chargePercent code1 < 5 →
      let u : State :=
        { s.reachInstant i with
          dock := { s.dock with ch1 := { last := some code1, fresh := false } },
          fault := { s.fault with lowCharge := true } }
      u.ownCandidate w = true → u.ownRank w + w.accepted.length ≤ w.places →
      completes (.burstComplete code0 code1 code2 code3) s (fun t =>
        offered u t ∧ t.fault.lowCharge = true ∧ t.fault.flat = true ∧ t.van.voidMark = false))

/-- An evaluation offers a candidate that ranks within the places, and each cause is one evaluation (model's choices: log
2, 11, 41). -/
def Obligations.EvaluationsAreMade : Prop :=
  Claims.EvaluationOffersTheCandidate ∧ Claims.EachCauseIsEvaluated

/-- A TIM from the terminal with 999 milliseconds or fewer is adopted by a post, the van and a monitor: the base pair is
the local ms of its end with its scheme time, the quality SET, the staleness timer a day later, and no carry is due.
At the first adoption every pending conversion held in a capture slot, with the docking capture or as docked-since is
made, and later ones change none. Other TIMs change no time. -/
def Claims.TimeNoticeIsAdopted : Prop :=
  ∀ (c : LineChar) (f : Frame) (s : State), s.takes c f → f.kind = .tim → s.straps.role ≠ .terminal →
    let seconds := fieldAt f.body 0 4
    let millis := fieldAt f.body 4 2
    let now := s.heardAt c
    (f.sender = 0 → millis ≤ 999 → completes (.frameReceived c) s (fun t =>
      t.time.base = some { localMs := now, schemeMs := seconds * 1000 + millis } ∧ t.time.quality = .set ∧
      t.time.staleAt = some (now + 86400000) ∧ t.time.carryAt = none ∧
      let held (s : State) (holder : PendingHolder) : Option Capture :=
        match holder with
        | .slot source => s.time.slot source
        | .dockingCapture => s.tag.docking
        | .dockedSince => s.dock.dockedSince
      (s.timeUnset = false → ∀ holder, held t holder = held s holder) ∧
      (s.timeUnset = true → ∀ holder, held s holder = none → held t holder = none) ∧
      (s.timeUnset = true → ∀ holder capture, held s holder = some capture →
        held t holder = some
          (if capture.scheme = .pending then
            { capture with
              scheme := .known (schemeFrom { localMs := now, schemeMs := seconds * 1000 + millis } capture.ms) }
           else capture)))) ∧
    (f.sender ≠ 0 ∨ 999 < millis → completes (.frameReceived c) s (fun t => t.time = s.time))

/-- The first adoption gives a GATHERING slot that lacks TIME its end; with no other mark set, and the plan's record in
the active tariff, the slot enters RATING with the tariff in force, done 2 ms later. -/
def Claims.FirstTimeStartsTheRating : Prop :=
  ∀ (c : LineChar) (f : Frame) (s : State) (r : ReturnRecord) (at_ : Ms) (plan : PlanRecord),
    s.takes c f → s.straps.role = .post → f.kind = .tim → f.sender = 0 → fieldAt f.body 4 2 ≤ 999 →
    s.timeUnset = true → s.settle.slotA = some { record := r, phase := .gathering true false false at_ } →
    s.settle.slotB = none → r.end_ = .pending → s.settle.active.planRecord r.plan = some plan →
    let now := s.heardAt c
    let end_ := schemeFrom { localMs := now, schemeMs := fieldAt f.body 0 4 * 1000 + fieldAt f.body 4 2 } r.capture
    completes (.frameReceived c) s (fun t =>
      t.settle.slotA = some
        { record := { r with end_ := .known end_ }
          phase := .rating
            { start := r.start, end_ := end_ / 1000, plan := plan, bands := s.settle.active.bandTable,
              version := s.settle.active.version, startSpend := r.startSpend, ebike := r.ebike,
              atStartPost := decide (s.peers.adoptedId ≠ 0) && decide (s.peers.adoptedId = r.startStation) &&
                decide (r.startPost = s.number) } (now + 2) } ∧
      t.settle.slotB = none)

/-- A TIM is adopted, back-dates every pending conversion, and starts the rating of a waiting return. -/
def Obligations.TimeIsAdopted : Prop :=
  Claims.TimeNoticeIsAdopted ∧ Claims.FirstTimeStartsTheRating

/-- A TRF from the terminal that passes its tests is staged: a version not above the active one is disregarded, a version
above the staging one empties staging first, and of the staging version it is stored at its index. A completed staging
becomes the active tariff, when no slot is in RATING, and every GATHERING slot's TARIFF mark is tested again by it:
one left without a mark and with its end known enters RATING by the new tariff. -/
def Obligations.TariffIsStaged : Prop :=
  ∀ (c : LineChar) (f : Frame) (s : State), s.takes c f → s.straps.role = .post → f.kind = .trf →
    (∀ v, f.sender = 0 → trfOf f.body = some v →
      let base := if s.settle.staging.version < v.version then List.replicate 9 none else s.settle.staging.pieces
      let staged : Tariff := { version := v.version, pieces := base.set v.index (some v.piece) }
      (v.version ≤ s.settle.active.version ∨ v.version < s.settle.staging.version →
        completes (.frameReceived c) s (fun t => t.settle = s.settle)) ∧
      (s.settle.active.version < v.version → s.settle.staging.version ≤ v.version → staged.complete = false →
        completes (.frameReceived c) s (fun t => t.settle = { s.settle with staging := staged })) ∧
      (s.settle.active.version < v.version → s.settle.staging.version ≤ v.version → staged.complete = true →
        slotRating s.settle.slotA = false → slotRating s.settle.slotB = false →
        completes (.frameReceived c) s (fun t =>
          t.settle.active = staged ∧ t.settle.staging = { version := 0, pieces := List.replicate 9 none } ∧
          ∀ name r time tariff station at_,
            s.settle.slot name = some { record := r, phase := .gathering time tariff station at_ } →
            (time = true ∨ station = true ∨ staged.planRecord r.plan = none → t.settle.slot name = some
              { record := r, phase := .gathering time (staged.planRecord r.plan).isNone station at_ }) ∧
            (∀ ms plan, time = false → station = false → staged.planRecord r.plan = some plan → r.end_ = .known ms →
              t.settle.slot name = some
                { record := r
                  phase := .rating
                    { start := r.start, end_ := ms / 1000, plan := plan, bands := staged.bandTable
                      version := v.version, startSpend := r.startSpend, ebike := r.ebike
                      atStartPost := decide (s.peers.adoptedId ≠ 0) && decide (s.peers.adoptedId = r.startStation) &&
                        decide (r.startPost = s.number) } (s.heardAt c + 2) }))) ∧
      (s.settle.active.version < v.version → s.settle.staging.version ≤ v.version →
        slotRating s.settle.slotA = true ∨ slotRating s.settle.slotB = true →
        completes (.frameReceived c) s (fun t => t.settle = { s.settle with staging := staged }))) ∧
    (f.sender ≠ 0 ∨ trfOf f.body = none → completes (.frameReceived c) s (fun t => t.settle = s.settle))

/-- An FCL from the terminal for the bike docked clears the held TAG mark for class 0 or 8, and asks for the fault list
without the entries of its class (all, for class 0) as one write; without such an entry it asks for none. While FAULTS
reads DAMAGED and its rewrite is pending the removal is deferred. An FCL for another bike, from another sender, with
no bike docked or of a class other than 0 to 5 and 8 to 11 (the classes listed: log 36) changes nothing. -/
def Obligations.FaultsAreCleared : Prop :=
  ∀ (c : LineChar) (f : Frame) (s : State), s.takes c f → s.straps.role = .post → f.kind = .fcl →
    let cls := fieldAt f.body 4 1
    let kept := s.workingList.filter (fun e => !(decide (cls = 0) || decide (e.cls = cls)))
    (∀ i, f.sender = 0 → s.dock.docked = true → s.copyId = some i → i.bikeId = fieldAt f.body 0 4 →
      cls ∈ [0, 1, 2, 3, 4, 5, 8, 9, 10, 11] → s.faultsDamaged = false →
      (kept = s.workingList → completes (.frameReceived c) s (fun t =>
        t.tag = s.tag ∧ t.fault.tagMark = (s.fault.tagMark && !(decide (cls = 0) || decide (cls = 8))))) ∧
      (kept ≠ s.workingList → s.tag.operation = .idle → s.tag.requests = [] →
        completes (.frameReceived c) s (fun t =>
          t.tag.operation =
            .write { contents := .faults kept, requester := .fault, ref := s.tag.nextRef } false false false
              (s.heardAt c) ∧
          t.fault.tagMark = (s.fault.tagMark && !(decide (cls = 0) || decide (cls = 8))) ∧ t.workingList = kept))) ∧
    (∀ i, f.sender = 0 → s.dock.docked = true → s.copyId = some i → i.bikeId = fieldAt f.body 0 4 →
      cls ∈ [0, 1, 2, 3, 4, 5, 8, 9, 10, 11] → s.faultsDamaged = true →
      completes (.frameReceived c) s (fun t =>
        t.tag = s.tag ∧ t.fault.tagMark = (s.fault.tagMark && !(decide (cls = 0) || decide (cls = 8))) ∧
        t.fault.deferred =
          if s.rewritePending then s.fault.deferred ++ [.remove cls] else s.fault.deferred)) ∧
    (f.sender ≠ 0 ∨ s.dock.docked = false ∨ s.copyId = none ∨
        (∃ i, s.copyId = some i ∧ i.bikeId ≠ fieldAt f.body 0 4) ∨
        cls ∉ [0, 1, 2, 3, 4, 5, 8, 9, 10, 11] →
      completes (.frameReceived c) s (fun t =>
        t.tag = s.tag ∧ t.fault.tagMark = s.fault.tagMark ∧ t.fault.writes = s.fault.writes ∧
        t.fault.deferred = s.fault.deferred))

/-- The events a frame makes while fewer than 64 are held: at the terminal HIRE, SETTLE, FAULT, VAN-TAKE and LOOKUP, at
the van VAN-TAKE and, for an OFR that joins its list, OFFER, each for a frame of a LIVE sender other than a beacon; at
a monitor HEARD for every frame, beacons and unheard senders included, with its kind, sender, serial and body. -/
def Claims.FramesMakeEvents : Prop :=
  ∀ (c : LineChar) (f : Frame) (s : State), s.takes c f → s.port.events.length < 64 →
    let now := s.heardAt c
    let told : EventBody → Prop := fun body =>
      completes (.frameReceived c) s (fun t =>
        t.port = { s.port with events := s.port.events ++ [{ at_ := now, body := body }] })
    ((s.storedPeer f.sender).state = .live →
    (s.straps.role = .terminal → f.kind = .hir → told (.hire f.sender f.body)) ∧
    (s.straps.role = .terminal → f.kind = .stl → told (.settle f.sender f.body)) ∧
    (s.straps.role = .terminal → f.kind = .flt → told (.fault f.sender f.body)) ∧
    (s.straps.role = .terminal → f.kind = .vtk → told (.vanTake f.sender f.body)) ∧
    (s.straps.role = .terminal → f.kind = .lkp → ∀ e, s.view.find (fieldAt f.body 0 4) = some e →
      told (.lookup f.sender (fieldAt f.body 0 4) (fieldAt f.body 4 1)
        (some { e with spend := (s.characterEnds c).daySpend e }))) ∧
    (s.straps.role = .terminal → f.kind = .lkp → s.view.find (fieldAt f.body 0 4) = none →
      told (.lookup f.sender (fieldAt f.body 0 4) (fieldAt f.body 4 1) none)) ∧
    (s.straps.role = .van → f.kind = .vtk → told (.vanTake f.sender f.body)) ∧
    (∀ w, s.straps.role = .van → f.kind = .ofr → s.van.window = some w → fieldAt f.body 0 1 = w.serial →
      1 ≤ f.sender → f.sender ≤ 30 → (w.mode = .deliver → fieldAt f.body 1 4 = 0) → w.accepts f.sender = false →
      w.accepted.length < w.places →
      told (.offer w.serial f.sender (fieldAt f.body 1 4) (fieldAt f.body 5 1)))) ∧
    (s.straps.role = .monitor → told (.heard f.kind f.sender f.serial f.body))

/-- Peer changes reach the host of the terminal and the van: a beacon that makes an entry LIVE or changes its fields makes
one PEER-CHANGE event, one that repeats the fields of a LIVE entry makes none. -/
def Claims.BeaconChangesMakePeerEvents : Prop :=
  ∀ (c : LineChar) (f : Frame) (s : State), s.takes c f → f.kind = .bcn →
    s.straps.role = .terminal ∨ s.straps.role = .van → s.port.events.length < 64 → s.peers.entries.length = 32 →
    let changed := decide (some (bcnOf f.body) ≠ (s.storedPeer f.sender).beacon)
    completes (.frameReceived c) s (fun t =>
      t.port.events = s.port.events ++
        (if (s.storedPeer f.sender).state ≠ .live ∨ changed = true then
          [{ at_ := s.heardAt c, body := .peerChange f.sender .live changed }] else []))

/-- The events frames and beacons make at the terminal, the van and a monitor, WINDOW-CLOSED apart (model's choices: log
9). -/
def Obligations.FramesMakeEvents : Prop :=
  Claims.FramesMakeEvents ∧ Claims.BeaconChangesMakePeerEvents

/-! ### Beacons, the peer table and the timebase (chapters 2 and 3) -/

/-- The hireable flag of a post's beacon is set exactly while a bike is docked, the copy's ID and HIRE sections read good,
HIRE is CLOSED or RETURNED and the bike fault level is 0 or 1. No other part of the state clears it. -/
def Obligations.HireableFlag : Prop :=
  ∀ s : State, s.isPost = true →
    (s.ownBeacon.hireable = true ↔
      s.dock.docked = true ∧ (∃ i h, s.tag.copy.state = .held ∧ s.tag.copy.id = .good i ∧ s.tag.copy.hire = .good h ∧
        (h.mark = .closed ∨ h.mark = .returned)) ∧ (s.bikeLevel = 0 ∨ s.bikeLevel = 1))

/-- The beacon of a terminal or a van: every field as R26 lists it. -/
def Obligations.HostStationsBeacon : Prop :=
  ∀ s : State, s.straps.role = .terminal ∨ s.straps.role = .van →
    s.ownBeacon =
      { role := if s.straps.role = .terminal then 1 else 2
        postState := 0, docked := false, hireable := false, vanHold := false, boltClosed := false, bikeId := 0
        bikeFault := 0
        postFault := if s.line.clash = true then 2 else if s.line.lineRaised = true then 1 else 0
        dockedSince := 0, charge := 255
        tariff := if s.straps.role = .terminal then s.terminal.active.version else 0
        quality := s.time.quality.code
        stationId := if s.straps.role = .terminal then s.terminal.stationId else s.peers.adoptedId }

/-- BEACON_TIMER_EXPIRY: the period of 2,000 ms is kept, and a beacon of the station as it stands is offered. A queued
beacon's body is replaced in place, or held aside while it is in transmission; with room it is queued with 5,000 ms. -/
def Obligations.BeaconTimerOffersABeacon : Prop :=
  ∀ (s : State) (due : Ms), s.peers.beaconAt = some due → s.sends = true → s.barred = false →
    let r := s.reachMs due
    let timed : State := { r with peers := { r.peers with beaconAt := some (due + 2000) } }
    (∀ e, s.line.queuedBeacon = some e → s.line.inTransmission e = false →
      exec .beaconTimerExpiry s = .next (conclude
        { timed with line := { timed.line with queue := replaceBody e.ref (bcnBody r.ownBeacon) s.line.queue } })) ∧
    (∀ e, s.line.queuedBeacon = some e → s.line.inTransmission e = true →
      exec .beaconTimerExpiry s = .next (conclude
        { timed with line := { timed.line with heldBeacon := some (bcnBody r.ownBeacon) } })) ∧
    (s.line.queuedBeacon = none → s.line.queue.length < 8 →
      exec .beaconTimerExpiry s = .next (conclude
        { timed with
          line := { timed.line with
            queue := s.line.queue ++
              [{ kind := .bcn, body := bcnBody r.ownBeacon, ref := s.line.nextRef, queuedAt := r.clock.ms,
                 deadline := r.clock.ms + 5000 }]
            nextRef := s.line.nextRef + 1 } }))

/-- SILENCE_TIMER_EXPIRY: a LIVE entry other than the own becomes SILENT and keeps its beacon and its heard time; the
terminal and the van tell their hosts. The own entry never goes silent. -/
def Claims.SilenceMakesAPeerSilent : Prop :=
  ∀ (n : BitVec 5) (s : State) (due : Ms), s.peers.entries.length = 32 → (s.storedPeer n.toNat).state = .live →
    (s.storedPeer n.toNat).silenceAt = some due →
    (s.isOwnEntry n.toNat = false → completes (.silenceTimerExpiry n) s (fun t =>
      t.peers.entries =
        s.peers.entries.set n.toNat { s.storedPeer n.toNat with state := .silent, silenceAt := none } ∧
      t.peers.adoptedId = s.peers.adoptedId ∧
      (s.straps.role = .terminal ∨ s.straps.role = .van → s.port.events.length < 64 →
        t.port.events = s.port.events ++
          [{ at_ := (s.reachMs due).clock.ms, body := .peerChange n.toNat .silent false }]) ∧
      ({ peers := true, fault := true, van := true, port := true } : Touched).frame s t)) ∧
    (s.isOwnEntry n.toNat = true → s.settled → exec (.silenceTimerExpiry n) s = .next s)

/-- The duplicate-bike check: where the condition begins DUPLICATE is held and its hold timer is cancelled, with one FLT
of class 11 and level 2 only when it was not held; where the condition ends a hold of 60,000 ms starts. -/
def Claims.DuplicateBikeIsHeld : Prop :=
  ∀ s : State,
    (s.peers.duplicate = false → s.duplicateCondition = true →
      s.duplicateCheck.peers = { s.peers with duplicate := true, duplicateHoldAt := none } ∧
      s.duplicateCheck.fault = { s.fault with duplicate := true } ∧
      (s.fault.duplicate = true → s.duplicateCheck.line = s.line) ∧
      (s.fault.duplicate = false → s.refusesOffer .flt = false → s.line.queue = [] → s.van.window = none →
        ∀ i, s.copyId = some i → s.duplicateCheck.line.queue =
          [{ kind := .flt, body := be4 i.bikeId ++ be1 11 ++ be1 2 ++ be1 1 ++ be1 s.number, ref := s.line.nextRef,
             queuedAt := s.clock.ms, deadline := s.clock.ms + 5000 }])) ∧
    (s.peers.duplicate = true → s.duplicateCondition = false →
      s.duplicateCheck =
        { s with peers := { s.peers with duplicate := false, duplicateHoldAt := some (s.clock.ms + 60000) } }) ∧
    (s.peers.duplicate = s.duplicateCondition → s.duplicateCheck = s)

/-- DUPLICATE_HOLD_EXPIRY clears DUPLICATE without an FLT; a bike fault level that changes with it has the own offer
evaluated (R170). -/
def Claims.DuplicateHoldEnds : Prop :=
  ∀ (s : State) (due : Ms), s.peers.duplicateHoldAt = some due →
    let ended : State :=
      { s.reachMs due with
        peers := { s.peers with duplicateHoldAt := none }, fault := { s.fault with duplicate := false } }
    exec .duplicateHoldExpiry s = .next (conclude (ended.evaluateSince s))

/-- A silent peer's entry becomes SILENT, and the duplicate-bike condition holds DUPLICATE until its hold ends (model's
choices: log 2, 11). -/
def Obligations.SilenceMakesAPeerSilent : Prop :=
  Claims.SilenceMakesAPeerSilent ∧ Claims.DuplicateBikeIsHeld ∧ Claims.DuplicateHoldEnds

/-- STALENESS_EXPIRY and CARRY: the quality is STALE, both halves of the base pair advance by 86,400,000 ms, the scheme
half held at its limit, and the next carry is a day later. -/
def Claims.StaleTimeIsCarried : Prop :=
  ∀ (s : State) (due : Ms),
    let carried : Option BasePair := s.time.base.map (fun b =>
      { localMs := b.localMs + 86400000, schemeMs := min (b.schemeMs + 86400000) 4294967295999 })
    (s.time.staleAt = some due → exec .stalenessExpiry s = .next (conclude
      { s.reachMs due with
        time := { s.time with
          quality := .stale, staleAt := none, base := carried, carryAt := some (due + 86400000) } })) ∧
    (s.time.carryAt = some due → exec .carry s = .next (conclude
      { s.reachMs due with time := { s.time with base := carried, carryAt := some (due + 86400000) } }))

/-- A carry leaves every conversion unchanged of an instant within reach (2^31 ms) of both the old and the new base, short
of the limit of scheme time. -/
def Claims.CarryKeepsConversions : Prop :=
  ∀ (b : BasePair) (i : Ms),
    let d := (i - b.localMs).toNat
    b.schemeMs + 86400000 ≤ 4294967295999 → d < 2 ^ 31 ∨ 2 ^ 32 + 86400000 ≤ 2 ^ 31 + d →
    schemeFrom { localMs := b.localMs + 86400000, schemeMs := min (b.schemeMs + 86400000) 4294967295999 } i =
      schemeFrom b i

/-- PENDING_LAPSE: while the quality is UNSET a pending conversion of a slot, the docking capture or docked-since becomes
unknown 2^30 ms after its instant; it is no command once time is known. CAPTURE_SLOT_LAPSE empties a slot. -/
def Claims.CapturesLapse : Prop :=
  ∀ (s : State) (c : Capture),
    (∀ source, s.time.slot source = some c → exec (.captureSlotLapse source) s = .next (conclude
      { s.reachMs (c.ms + 1073741824) with time := s.time.setSlot source none })) ∧
    (∀ source, s.time.slot source = some c → c.scheme = .pending → s.time.quality = .unset →
      exec (.pendingLapse (.slot source)) s = .next (conclude
        { s.reachMs (c.ms + 1073741824) with
          time := s.time.setSlot source (some { c with scheme := .unknown }) })) ∧
    (s.tag.docking = some c → c.scheme = .pending → s.time.quality = .unset →
      exec (.pendingLapse .dockingCapture) s = .next (conclude
        { s.reachMs (c.ms + 1073741824) with tag := { s.tag with docking := some { c with scheme := .unknown } } })) ∧
    (s.dock.dockedSince = some c → c.scheme = .pending → s.time.quality = .unset →
      exec (.pendingLapse .dockedSince) s = .next (conclude
        { s.reachMs (c.ms + 1073741824) with
          dock := { s.dock with dockedSince := some { c with scheme := .unknown } } })) ∧
    (∀ holder, s.time.quality ≠ .unset → s.settled → exec (.pendingLapse holder) s = .next s)

/-- Stale time is carried a day at a time, and pending conversions and captures lapse after 2^30 ms (model's choices: log
2). -/
def Obligations.StaleTimeIsCarried : Prop :=
  Claims.StaleTimeIsCarried ∧ Claims.CarryKeepsConversions ∧ Claims.CapturesLapse

/-! ### The dock mechanism (chapter 4) -/

/-- OPEN_EDGE at a post, by the bolt state: CLOSED starts the push-aside limit of 2,000 ms and discards the capture;
OPENING records the bolt as seen open, and is HELD at once, the own offer evaluated upon that change (R170), where the
pull-in has ended and the mouth is not empty; HELD and CLOSING keep the capture; JAMMED discards it. -/
def Obligations.OpenEdgeByBoltState : Prop :=
  ∀ s : State, s.isPost = true → s.dock.sensorOpen = false →
    let stamped := s.time.setSlot .boltOpen
      (some { ms := s.clock.ms, scheme := s.time.stampScheme s.clock.ms, startUp := false })
    let gone := s.time.setSlot .boltOpen none
    (s.dock.bolt = .closed → exec .openEdge s = .next (conclude
      { s with
        time := gone, dock := { s.dock with sensorOpen := true, pushAsideAt := some (s.clock.ms + 2000) } })) ∧
    (s.dock.bolt = .opening → s.dock.pullInEndAt.isSome = true → exec .openEdge s = .next (conclude
      { s with time := gone, dock := { s.dock with sensorOpen := true, seenOpen := true } })) ∧
    (s.dock.bolt = .opening → s.dock.pullInEndAt = none → s.dock.selfTest = none → s.dock.count ≠ 0 →
      let held : State :=
        { s with time := gone, dock := { s.dock with sensorOpen := true, seenOpen := true, bolt := .held } }
      exec .openEdge s = .next (conclude (held.evaluateSince s))) ∧
    (s.dock.bolt = .held ∨ s.dock.bolt = .closing → exec .openEdge s = .next (conclude
      { s with time := stamped, dock := { s.dock with sensorOpen := true } })) ∧
    (s.dock.bolt = .jammed → exec .openEdge s = .next (conclude
      { s with time := gone, dock := { s.dock with sensorOpen := true } }))

/-- CLOSED_EDGE with the bolt CLOSED is the docking test: with no bike docked, a count of 6 or more and a mouth-in capture
held the bike is docked, the captures are consumed, and the read set begins with the edge's capture; otherwise the
edge's capture is discarded alone. Either way the push-aside limit is cancelled. -/
def Claims.ClosedEdgeDocksABike : Prop :=
  ∀ s : State, s.isPost = true → s.dock.sensorOpen = true → s.dock.bolt = .closed →
    let c : Capture := { ms := s.clock.ms, scheme := s.time.stampScheme s.clock.ms, startUp := false }
    (s.dock.docked = false → 6 ≤ s.dock.count → s.time.mouthIn.isSome = true →
      completes .closedEdge s (fun t =>
        t.dock.docked = true ∧ t.dock.noise = 0 ∧ t.dock.dockedSince = some c ∧ t.dock.pushAsideAt = none ∧
        t.dock.bolt = .closed ∧ t.dock.sensorOpen = false ∧
        t.time = { s.time with boltClosed := none, mouthIn := none } ∧
        t.tag.operation = .readSet false [] false s.clock.ms ∧ t.tag.copy.state = .reading ∧
        t.tag.docking = some c ∧ t.tag.requests = s.tag.requests ∧
        t.fault = { s.fault with lowCharge := false, flat := false } ∧ t.van.target = false ∧ t.van.hold = s.van.hold ∧
        ({ time := true, dock := true, tag := true, fault := true, van := true } : Touched).frame s t)) ∧
    (s.dock.docked = true ∨ s.dock.count < 6 ∨ s.time.mouthIn = none →
      exec .closedEdge s = .next (conclude
        { s with
          time := { s.time with boltClosed := none }
          dock := { s.dock with sensorOpen := false, pushAsideAt := none } }))

/-- CLOSED_EDGE with the bolt drawn and seen open is a dropped bolt: CLOSED, the coil OFF, every timer of the pull-in
cancelled, no fault. A member hire whose bike stands below the count of 6 enters the settle procedure. -/
def Claims.ClosedEdgeDropsADrawnBolt : Prop :=
  ∀ s : State, s.isPost = true → s.dock.sensorOpen = true →
    s.dock.bolt = .held ∨ (s.dock.bolt = .opening ∧ s.dock.seenOpen = true) →
    let dropped : Dock :=
      { s.dock with
        sensorOpen := false, bolt := .closed, coil := .off, holdDutyFrom := none, pullInEndAt := none, ch0At := none
        openCheckAt := none, takeWindowAt := none, holdEndAt := none, release := false, selfTest := none }
    (s.dock.selfTest.isSome = true ∨ s.dock.release = false → completes .closedEdge s (fun t =>
      t.dock.sansLamp = dropped.sansLamp ∧ t.fault = s.fault ∧ t.hire = s.hire ∧
      ({ dock := true, time := true } : Touched).frame s t)) ∧
    (∀ h, s.dock.selfTest = none → s.dock.release = true → s.hire.state = .releasing → s.hire.record = some h →
      0 < s.dock.count → s.dock.count < 6 → completes .closedEdge s (fun t =>
        t.dock.sansLamp = dropped.sansLamp ∧ t.fault = s.fault ∧
        t.hire = { s.hire with record := some { h with settleAt := some (s.clock.ms + 2000) } } ∧
        ({ dock := true, time := true, hire := true } : Touched).frame s t))

/-- CLOSED_EDGE with the bolt CLOSING seats it (R54): the close check is cancelled, the bolt is CLOSED, and a release
ends, or else a self-test. The requester's SEATED report changes the hire only in the settle procedure with a count of
6 or more, where the hire is in CANCELLING and asks for its prior HIRE back. Then the edge is submitted to the docking
test. With the bolt JAMMED the edge is submitted to the test alone and the bolt stays JAMMED (R57). -/
def Claims.ClosedEdgeSeatsOrStaysJammed : Prop :=
  ∀ s : State, s.isPost = true → s.dock.sensorOpen = true →
    let c : Capture := { ms := s.clock.ms, scheme := s.time.stampScheme s.clock.ms, startUp := false }
    let docks := s.dock.docked = false ∧ 6 ≤ s.dock.count ∧ s.time.mouthIn.isSome = true
    let tested (t : State) : Prop :=
      t.dock.sensorOpen = false ∧
      (docks → t.dock.docked = true ∧ t.dock.dockedSince = some c ∧ t.dock.noise = 0 ∧
        t.time = { s.time with boltClosed := none, mouthIn := none } ∧
        t.tag.operation = .readSet false [] false s.clock.ms ∧ t.tag.copy.state = .reading ∧
        t.tag.docking = some c ∧ t.fault = { s.fault with lowCharge := false, flat := false } ∧ t.van.target = false) ∧
      (¬ docks → t.dock.docked = s.dock.docked ∧ t.dock.dockedSince = s.dock.dockedSince ∧
        t.dock.noise = s.dock.noise ∧ t.time = { s.time with boltClosed := none } ∧ t.fault = s.fault ∧
        t.van.target = s.van.target)
    (s.dock.bolt = .closing → s.settling = false ∨ s.dock.release = false ∨ s.dock.count < 6 →
      completes .closedEdge s (fun t =>
        tested t ∧ t.dock.bolt = .closed ∧ t.dock.closeCheckAt = none ∧ t.dock.coil = s.dock.coil ∧
        t.dock.release = false ∧ (s.dock.release = false → t.dock.selfTest = none) ∧
        (s.dock.release = true → t.dock.selfTest = s.dock.selfTest) ∧ (¬ docks → t.tag = s.tag) ∧
        ({ time := true, dock := true, tag := true, fault := true, van := true } : Touched).frame s t)) ∧
    (∀ h prior, s.dock.bolt = .closing → s.dock.release = true → s.hire.state = .releasing →
      s.hire.record = some h → h.settleAt.isSome = true → h.prior = some prior → 6 ≤ s.dock.count →
      s.dock.docked = true → s.copyHeld = true → s.tag.requests = [] → s.tag.operation = .idle →
      completes .closedEdge s (fun t =>
        tested t ∧ t.dock.bolt = .closed ∧ t.dock.release = false ∧
        t.hire = { s.hire with
          state := .cancelling, record := some { h with settleAt := none, writeRef := some s.tag.nextRef } } ∧
        t.tag.operation =
          .write { contents := .hire prior, requester := .hire, ref := s.tag.nextRef } false false false s.clock.ms ∧
        t.dock.refusal = s.dock.refusal)) ∧
    (s.dock.bolt = .jammed → completes .closedEdge s (fun t =>
      tested t ∧ t.dock.bolt = .jammed ∧ t.dock.release = s.dock.release ∧ t.dock.selfTest = s.dock.selfTest ∧
      (¬ docks → t.tag = s.tag) ∧
      ({ time := true, dock := true, tag := true, fault := true, van := true } : Touched).frame s t))

/-- The bolt sensor's closing: the docking test, the seat, a dropped bolt and a jammed one. -/
def Obligations.ClosedEdgeDocksOrDrops : Prop :=
  Claims.ClosedEdgeDocksABike ∧ Claims.ClosedEdgeDropsADrawnBolt ∧ Claims.ClosedEdgeSeatsOrStaysJammed

/-- PULL_IN_END: the coil goes to HOLD from the next period boundary. A bolt seen open with the mouth not empty is HELD,
the own offer evaluated upon that change (R170); one not seen open stays OPENING. -/
def Claims.PullInEndHoldsTheBolt : Prop :=
  ∀ (s : State) (due : Ms), s.dock.pullInEndAt = some due →
    let r := s.reachMs due
    let holding : Dock := { s.dock with pullInEndAt := none, coil := .hold, holdDutyFrom := some (r.clock.ms + 1) }
    (s.dock.seenOpen = false → exec .pullInEnd s = .next (conclude { r with dock := holding })) ∧
    (s.dock.seenOpen = true → s.dock.count ≠ 0 → s.dock.selfTest = none →
      let held : State := { r with dock := { holding with bolt := .held } }
      exec .pullInEnd s = .next (conclude (held.evaluateSince s))) ∧
    (∀ test, s.dock.seenOpen = true → s.dock.count ≠ 0 → s.dock.selfTest = some test →
      exec .pullInEnd s = .next (conclude
        { r with
          dock := { holding with
            bolt := .held, selfTest := some { test with phase := .hold }, holdEndAt := some (r.clock.ms + 2000) } }))

/-- TAKE_WINDOW_EXPIRY while HELD with the mouth not empty and the sensor open: the coil goes OFF, the bolt is CLOSING
with its close check of 300 ms, the bike stays docked, and the hire settles for 2,000 ms. -/
def Claims.TakeWindowExpiryClosesTheBolt : Prop :=
  ∀ (s : State) (due : Ms) (h : HireRecord), s.dock.takeWindowAt = some due → s.dock.bolt = .held →
    s.dock.count ≠ 0 → s.dock.sensorOpen = true → s.hire.state = .releasing → s.hire.record = some h →
    let r := s.reachMs due
    exec .takeWindowExpiry s = .next (conclude
      { r with
        dock := { s.dock with
          bolt := .closing, coil := .off, holdDutyFrom := none, pullInEndAt := none, ch0At := none, openCheckAt := none
          takeWindowAt := none, holdEndAt := none, closeCheckAt := some (r.clock.ms + 300) }
        hire := { s.hire with record := some { h with settleAt := some (r.clock.ms + 2000) } } })

/-- HOLD_PHASE_END: the self-test goes to its close phase, the coil OFF and the bolt CLOSING with its close check. -/
def Claims.HoldPhaseEndClosesTheBolt : Prop :=
  ∀ (s : State) (due : Ms) (test : SelfTest), s.dock.holdEndAt = some due → s.dock.selfTest = some test →
    s.dock.sensorOpen = true →
    let r := s.reachMs due
    exec .holdPhaseEnd s = .next (conclude
      { r with
        dock := { s.dock with
          bolt := .closing, coil := .off, holdDutyFrom := none, pullInEndAt := none, ch0At := none, openCheckAt := none
          takeWindowAt := none, holdEndAt := none, closeCheckAt := some (r.clock.ms + 300)
          selfTest := some { test with phase := .close } } })

/-- The pull-in's end, the take window's end and the self-test's hold phase end (model's choices: log 2, 14). -/
def Obligations.BoltTimersRun : Prop :=
  Claims.PullInEndHoldsTheBolt ∧ Claims.TakeWindowExpiryClosesTheBolt ∧ Claims.HoldPhaseEndClosesTheBolt

/-- The three checks that jam a bolt: the open check of a bolt not seen open, the close check while CLOSING and the
push-aside limit of a bolt still pushed aside. Each leaves the bolt JAMMED with the coil OFF and JAM raised; the close
check ends the release, and a self-test ends with the open or the close check. An open check of a bolt seen open, and
a push-aside limit with the sensor closed, jam nothing. -/
def Obligations.FailedChecksJamTheBolt : Prop :=
  ∀ (s : State) (due : Ms), s.isPost = true →
    let jammed : State → Prop := fun t =>
      t.dock.bolt = .jammed ∧ t.dock.coil = .off ∧ t.dock.pullInEndAt = none ∧ t.dock.takeWindowAt = none ∧
      t.dock.ch0At = none ∧ .jam ∈ t.fault.raised
    (s.dock.openCheckAt = some due → s.dock.bolt = .opening → s.dock.seenOpen = false → 0 < s.dock.count →
      completes .openCheckExpiry s (fun t => jammed t ∧ t.dock.selfTest = none ∧
        (s.dock.selfTest = none → t.dock.release = false) ∧
        ({ dock := true, fault := true, hire := true } : Touched).frame s t)) ∧
    (s.dock.openCheckAt = some due → s.dock.bolt ≠ .opening ∨ s.dock.seenOpen = true →
      exec .openCheckExpiry s = .next (conclude
        { s.reachMs due with dock := { s.dock with openCheckAt := none } })) ∧
    (s.dock.closeCheckAt = some due → s.dock.bolt = .closing →
      completes .closeCheckExpiry s (fun t => jammed t ∧ t.dock.release = false ∧ t.dock.selfTest = none ∧
        t.hire = s.hire ∧ ({ dock := true, fault := true } : Touched).frame s t)) ∧
    (s.dock.pushAsideAt = some due → s.dock.bolt = .closed → s.dock.sensorOpen = true →
      completes .pushAsideLimitExpiry s (fun t => jammed t ∧ ({ dock := true, fault := true } : Touched).frame s t)) ∧
    (s.dock.pushAsideAt = some due → s.dock.sensorOpen = false →
      exec .pushAsideLimitExpiry s = .next (conclude
        { s.reachMs due with dock := { s.dock with pushAsideAt := none } }))

/-- BEAM_EDGE at a post. One beam changed: the phase moves one step forward and the count rises by 1 to 15 at most, or one
step backward and it falls by 1 to 0 at least; the mouth-in slot is stamped as it passes from 5 to 6. Both changed:
the count stays and the noise count rises, raising SENSOR at 16. -/
def Claims.BeamEdgesCount : Prop :=
  ∀ (a b : Bool) (s : State), s.isPost = true →
    let before := beamPhase s.dock.beamA s.dock.beamB
    let after := beamPhase a b
    let moved : Dock := { s.dock with beamA := a, beamB := b }
    (after = (before + 1) % 4 → s.dock.count ≠ 5 → exec (.beamEdge a b) s = .next (conclude
      { s with dock := { moved with count := min (s.dock.count + 1) 15 } })) ∧
    (after = (before + 1) % 4 → s.dock.count = 5 → exec (.beamEdge a b) s = .next (conclude
      { s with
        dock := { moved with count := 6 }
        time := { s.time with
          mouthIn := some { ms := s.clock.ms, scheme := s.time.stampScheme s.clock.ms, startUp := false } } })) ∧
    (before = (after + 1) % 4 → s.dock.count ≠ 1 → exec (.beamEdge a b) s = .next (conclude
      { s with dock := { moved with count := s.dock.count - 1 } })) ∧
    (after = (before + 2) % 4 → .sensor ∉ s.fault.raised → s.dock.noise < 15 →
      exec (.beamEdge a b) s = .next (conclude { s with dock := { moved with noise := s.dock.noise + 1 } })) ∧
    (after = (before + 2) % 4 → .sensor ∉ s.fault.raised → s.dock.noise = 15 → completes (.beamEdge a b) s (fun t =>
      t.dock.noise = 16 ∧ t.dock.count = s.dock.count ∧ t.dock.beamA = a ∧ t.dock.beamB = b ∧
      t.fault = { s.fault with raised := s.fault.raised ++ [.sensor] } ∧
      ({ dock := true, fault := true } : Touched).frame s t)) ∧
    (after = (before + 2) % 4 → .sensor ∈ s.fault.raised →
      exec (.beamEdge a b) s = .next (conclude { s with dock := moved }))

/-- The mouth empties (BEAM_EDGE, the count from 1 to 0): with no bike docked both mouth slots are discarded; a bike
docked at a bolt that is not HELD leaves when the sensor reads open, and stays when it reads closed. -/
def Claims.EmptyMouthByTheSensor : Prop :=
  ∀ (a b : Bool) (s : State), s.isPost = true → s.dock.count = 1 →
    beamPhase s.dock.beamA s.dock.beamB = (beamPhase a b + 1) % 4 → s.dock.bolt ≠ .held →
    let emptied : Dock := { s.dock with beamA := a, beamB := b, count := 0 }
    (s.dock.docked = false → exec (.beamEdge a b) s = .next (conclude
      { s with dock := emptied, time := { s.time with mouthOut := none, mouthIn := none } })) ∧
    (s.dock.docked = true → s.dock.sensorOpen = false → exec (.beamEdge a b) s = .next (conclude
      { s with
        dock := emptied
        time := { s.time with
          mouthOut := some { ms := s.clock.ms, scheme := s.time.stampScheme s.clock.ms, startUp := false } } })) ∧
    (s.dock.docked = true → s.dock.sensorOpen = true → s.hire.state = .idle → completes (.beamEdge a b) s (fun t =>
      t.dock.docked = false ∧ t.dock.noise = 0 ∧ t.dock.count = 0 ∧ t.dock.dockedSince = none ∧
      t.dock.ch1.last = none ∧ t.tag.operation = .idle ∧ t.tag.requests = [] ∧ t.tag.copy.state = .empty ∧
      t.tag.docking = none ∧ t.time.mouthOut = none ∧ t.bikeLevel = 0 ∧
      t.fault =
        { tagMark := false, lowCharge := false, flat := false, duplicate := false, writes := [], deferred := []
          window := none, raised := s.fault.raised } ∧
      t.peers = { s.peers with duplicate := false, duplicateHoldAt := none } ∧ t.van.hold = false ∧
      t.settle = { s.settle with returned := [] } ∧ t.hire = s.hire))

/-- Beam edges move the mouth count and the noise count, and an empty mouth is judged by the sensor. -/
def Obligations.MouthIsCounted : Prop :=
  Claims.BeamEdgesCount ∧ Claims.EmptyMouthByTheSensor

/-- The take (BEAM_EDGE, the count from 1 to 0 while HELD for a member release): the coil goes OFF, the bolt is CLOSING,
the bike leaves, the hire ends, and one HIR with the claim serial, the member, the bike and the hire start is queued. -/
def Obligations.EmptyMouthTakesTheBike : Prop :=
  ∀ (a b : Bool) (s : State) (h : HireRecord) (claim : SentClaim) (w : HireSection) (bike : IdSection),
    s.straps.role = .post → s.dock.count = 1 → beamPhase s.dock.beamA s.dock.beamB = (beamPhase a b + 1) % 4 →
    s.dock.bolt = .held → s.dock.selfTest = none → s.dock.release = true → s.dock.docked = true →
    s.dock.sensorOpen = true → s.hire.state = .releasing → s.hire.record = some h → h.kind = .member →
    h.claim = some claim → h.written = some w → h.bike = some bike → h.settleAt = none →
    s.refusesOffer .hir = false → s.line.queue.length < 8 → (∀ e ∈ s.line.queue, e.ref < s.line.nextRef) →
    s.van.window = none →
    completes (.beamEdge a b) s (fun t =>
      t.dock.coil = .off ∧ t.dock.bolt = .closing ∧ t.dock.closeCheckAt = some (s.clock.ms + 300) ∧
      t.dock.docked = false ∧ t.dock.release = true ∧ t.tag.copy.state = .empty ∧ t.van.hold = false ∧
      t.hire = { s.hire with state := .idle, record := none } ∧
      ∃ q ∈ t.line.queue, q.kind = .hir ∧ q.ref = s.line.nextRef ∧
        q.body = hirBody claim.serial h.card.member bike.bikeId w.start w.plan w.unverified
          (decide (bike.kind = .ebike)) h.summary)

/-- BUTTON_PRESS and BUTTON_RELEASE at a post: a press opens a burst of 1 or adds 1 to it, to 255 at most, and its end
timer is 3,000 ms from the press; a release ends the hold alone. -/
def Claims.ButtonPressesMakeABurst : Prop :=
  ∀ s : State, s.isPost = true →
    (s.dock.pressed = false → s.dock.burst = none → exec .buttonPress s = .next (conclude
      { s with
        time := { s.time with button := none }
        dock := { s.dock with
          pressed := true, pressAt := some s.clock.ms
          burst := some { count := 1, discarded := false, endAt := s.clock.ms + 3000 } } })) ∧
    (∀ burst, s.dock.pressed = false → s.dock.burst = some burst → exec .buttonPress s = .next (conclude
      { s with
        time := { s.time with button := none }
        dock := { s.dock with
          pressed := true, pressAt := some s.clock.ms
          burst := some
            { count := min (burst.count + 1) 255, discarded := burst.discarded, endAt := s.clock.ms + 3000 } } })) ∧
    exec .buttonRelease s = .next (conclude { s with dock := { s.dock with pressed := false } })

/-- BURST_END_EXPIRY: a burst marked discarded, or one that finds no unused reporting window, ends with nothing handed on.
Otherwise it is a report of class min(presses, 5) by the window's reporter, which uses the window: with room on the
tag the entry is asked for as the newest, and one FLT is queued. Its body (Table 9-6) is the bike id of a good ID and
0 otherwise (model's choice: log 35), the class, the level of the class after the report, the source MEMBER or CREW,
the post's number and the reporter. -/
def Claims.PressBurstMakesAReport : Prop :=
  ∀ (s : State) (burst : PressBurst), s.dock.burst = some burst →
    let r := s.reachMs burst.endAt
    let closed : State := { r with dock := { s.dock with burst := none } }
    (burst.discarded = true ∨ s.fault.window = none ∨ (∃ w, s.fault.window = some w ∧ w.used = true) →
      exec .burstEndExpiry s = .next (conclude closed)) ∧
    (∀ w, burst.discarded = false → s.fault.window = some w → w.used = false →
      completes .burstEndExpiry s (fun t =>
        t.fault.window = some { w with used := true } ∧ t.dock.burst = none ∧
        (s.copyHeld = true → s.faultsDamaged = false → s.workingList.length < 4 → s.tag.requests = [] →
          s.tag.operation = .idle →
          t.tag.operation =
            .write
              { contents := .faults (s.workingList ++
                  [{ cls := min burst.count 5, level := if min burst.count 5 = 1 then 2 else 1,
                     source := if w.crew = true then .crew else .member, reporter := w.reporter }])
                requester := .fault, ref := s.tag.nextRef } false false false r.clock.ms) ∧
        (s.refusesOffer .flt = false → s.line.queue.length < 7 ∨ (s.line.queue.length = 7 ∧ s.van.window = none) →
          (∀ e ∈ s.line.queue, e.ref < s.line.nextRef) →
          let cls := min burst.count 5
          let levels := (t.workingList.filter (fun e => decide (e.cls = cls))).map (raisedLevel t.workingList)
          ∃ q ∈ t.line.queue, q.kind = .flt ∧ s.line.nextRef ≤ q.ref ∧ (s.van.window = none → q.ref = s.line.nextRef) ∧
            q.body = be4 ((s.copyId.map IdSection.bikeId).getD 0) ++ be1 cls ++
              be1 (levels.foldl max (if cls = 1 then 2 else 1)) ++
              be1 (if w.crew = true then FaultSource.crew.code else FaultSource.member.code) ++ be1 s.number ++
              be4 w.reporter)))

/-- A new entry's place in the fault list: appended to fewer than 4; of 4 entries the oldest of the lowest stored level
goes when that level is not above the new entry's, the rest keeping their order; otherwise the new entry is dropped
and no write is requested for it. -/
def Claims.NewEntriesArePlaced : Prop :=
  ∀ (entries : List FaultEntry) (e : FaultEntry),
    (entries.length < 4 → placeEntry entries e = some (entries ++ [e])) ∧
    (∀ before oldest after, entries.length = 4 → entries = before ++ oldest :: after →
      (∀ x ∈ entries, oldest.level ≤ x.level) → (∀ x ∈ before, x.level ≠ oldest.level) → oldest.level ≤ 2 →
      (oldest.level ≤ e.level → placeEntry entries e = some (before ++ after ++ [e])) ∧
      (e.level < oldest.level → placeEntry entries e = none)) ∧
    (∀ s : State, s.workingList = entries → s.faultsDamaged = false → placeEntry entries e = none →
      s.changeFaults (.add e) = s)

/-- REPORTING_WINDOW_EXPIRY closes the reporting window alone. -/
def Claims.ReportingWindowEnds : Prop :=
  ∀ (s : State) (w : ReportWindow), s.fault.window = some w →
    exec .reportingWindowExpiry s = .next (conclude
      { s.reachMs w.expiresAt with fault := { s.fault with window := none } })

/-- The button's bursts, the report they make, its place on the tag, and the reporting window's end (model's choices: log
2, 11, 35). -/
def Obligations.ButtonReportsAFault : Prop :=
  Claims.ButtonPressesMakeABurst ∧ Claims.PressBurstMakesAReport ∧ Claims.NewEntriesArePlaced ∧
  Claims.ReportingWindowEnds

/-- The lamp's timers: a flash phase lasts 200 ms and a refusal of n flashes stays dark after its nth; the refusal display
and the crew acknowledgement end. -/
def Claims.LampTimersExpire : Prop :=
  ∀ (s : State) (due : Ms),
    (s.dock.lamp.phaseAt = some due → s.dock.lamp.row ≠ .refusalRedFlash → exec .flashPhaseExpiry s = .next (conclude
      { s.reachMs due with
        dock := { s.dock with
          lamp := { row := s.dock.lamp.row, phase := s.dock.lamp.phase + 1, phaseAt := some (due + 200) } } })) ∧
    (∀ d, s.dock.lamp.phaseAt = some due → s.dock.lamp.row = .refusalRedFlash → s.dock.refusal = some d →
      exec .flashPhaseExpiry s = .next (conclude
        { s.reachMs due with
          dock := { s.dock with
            lamp :=
              { row := .refusalRedFlash, phase := s.dock.lamp.phase + 1
                phaseAt := if 2 * d.flashes ≤ s.dock.lamp.phase + 2 then none else some (due + 200) } } })) ∧
    (∀ d, s.dock.refusal = some d → exec .refusalDisplayEnd s = .next (conclude
      { s.reachMs d.endAt with dock := { s.dock with refusal := none } })) ∧
    (s.dock.crewAckAt = some due → exec .crewAcknowledgementEnd s = .next (conclude
      { s.reachMs due with dock := { s.dock with crewAckAt := none } }))

/-- The converter: a periodic expiry every 500 ms and a pull-in's CH0 request each start a burst when the converter is
IDLE, after a wake-up of 40 µs, and are held otherwise; the wake-up gives way to 20 µs for each channel. A CH0 request
made while another is held takes its place (model's choice: log 26). -/
def Claims.ConverterTakesBursts : Prop :=
  ∀ (s : State) (due : Ms),
    let r := s.reachMs due
    (s.dock.periodicAt = some due → s.dock.converter = .idle → exec .periodicTimerExpiry s = .next (conclude
      { r with
        dock := { s.dock with
          periodicAt := some (due + 500), converter := .pend (.periodic s.ebikeDocked) (r.clock.plusUs 40) } })) ∧
    (s.dock.periodicAt = some due → s.dock.converter ≠ .idle → exec .periodicTimerExpiry s = .next (conclude
      { r with dock := { s.dock with periodicAt := some (due + 500), pendingPeriodic := true } })) ∧
    (s.dock.ch0At = some due → s.dock.converter = .idle → exec .ch0Request s = .next (conclude
      { r with
        dock := { s.dock with ch0At := none, converter := .pend (.event s.dock.pullIns) (r.clock.plusUs 40) } })) ∧
    (s.dock.ch0At = some due → s.dock.converter ≠ .idle → exec .ch0Request s = .next (conclude
      { r with dock := { s.dock with ch0At := none, pendingEvent := some s.dock.pullIns } })) ∧
    (∀ burst i, s.dock.converter = .pend burst i → exec .converterWakeEnd s = .next (conclude
      { s.reachInstant i with
        dock := { s.dock with
          converter := .busy burst ((s.reachInstant i).clock.plusUs (20 * (match burst with
            | .periodic true => 3
            | .periodic false => 2
            | .event _ => 1))) } }))

/-- The lamp's timers and the converter's bursts (model's choices: log 2, 26). -/
def Obligations.LampAndConverterTimers : Prop :=
  Claims.LampTimersExpire ∧ Claims.ConverterTakesBursts

/-- BURST_COMPLETE of a periodic burst without CH1: the CH2 and CH3 results are stored, SUPPLY-LOW is raised below 20,000
mV and cleared above 21,000 mV, LAMP is raised for a lit lamp below 20 mA, and the converter goes on to a held burst
or to IDLE. -/
def Claims.PeriodicBurstIsJudged : Prop :=
  ∀ (s : State) (i : Instant) (code0 code1 code2 code3 : BitVec 10), s.isPost = true →
    s.dock.converter = .busy (.periodic false) i →
    let volts := code2.toNat * 30000 / 1023
    completes (.burstComplete code0 code1 code2 code3) s (fun t =>
      t.dock.ch2.last = some code2 ∧ t.dock.ch3.last = some code3 ∧ t.dock.ch0 = s.dock.ch0 ∧
      t.dock.ch1 = s.dock.ch1 ∧
      (volts < 20000 → .supplyLow ∈ t.fault.raised) ∧ (21000 < volts → .supplyLow ∉ t.fault.raised) ∧
      (20000 ≤ volts → volts ≤ 21000 → (.supplyLow ∈ t.fault.raised ↔ .supplyLow ∈ s.fault.raised)) ∧
      (.lamp ∈ t.fault.raised ↔
        .lamp ∈ s.fault.raised ∨ s.lampLit = true ∧ code3.toNat * 500 / 1023 < 20) ∧
      (∀ f, f ≠ .supplyLow → f ≠ .lamp → (f ∈ t.fault.raised ↔ f ∈ s.fault.raised)) ∧
      (s.dock.pendingEvent = none → s.dock.pendingPeriodic = false → t.dock.converter = .idle) ∧
      (∀ n, s.dock.pendingEvent = some n →
        t.dock.converter = .pend (.event n) ((s.reachInstant i).clock.plusUs 40) ∧ t.dock.pendingEvent = none) ∧
      ({ dock := true, fault := true } : Touched).frame s t)

/-- BURST_COMPLETE with CH1 of a docked e-bike: LOW-CHARGE is held below 15 %, FLAT below 5 %, both go at 20 % or more and
stay as they are between. -/
def Claims.BatteryIsJudged : Prop :=
  ∀ (s : State) (i : Instant) (code0 code1 code2 code3 : BitVec 10),
    s.dock.converter = .busy (.periodic true) i → s.dock.docked = true →
    let millivolts := code1.toNat * 50000 / 1023
    let percent := if millivolts ≤ 30000 then 0 else min 100 ((millivolts - 30000) * 100 / 12000)
    completes (.burstComplete code0 code1 code2 code3) s (fun t =>
      t.dock.ch1.last = some code1 ∧
      t.fault.lowCharge = (if percent < 15 then true else if percent < 20 then s.fault.lowCharge else false) ∧
      t.fault.flat = (if percent < 5 then true else if percent < 20 then s.fault.flat else false) ∧
      ({ dock := true, fault := true } : Touched).frame s t)

/-- BURST_COMPLETE of a pull-in's CH0: with the coil still driven for that pull-in a current below 600 mA raises COIL-OPEN
and one above 2,400 mA COIL-SHORT, and either sends the bolt of a release to CLOSING with the coil OFF; a current in
the range, or a result for another pull-in, changes nothing but the result. -/
def Claims.CoilCurrentIsJudged : Prop :=
  ∀ (s : State) (n : Nat) (i : Instant) (code0 code1 code2 code3 : BitVec 10), s.isPost = true →
    s.dock.converter = .busy (.event n) i → s.dock.pendingEvent = none → s.dock.pendingPeriodic = false →
    let amps := code0.toNat * 2500 / 1023
    (s.dock.coil = .off ∨ s.dock.pullIns ≠ n ∨ (600 ≤ amps ∧ amps ≤ 2400) →
      exec (.burstComplete code0 code1 code2 code3) s = .next (conclude
        { s.reachInstant i with
          dock := { s.dock with ch0 := { last := some code0, fresh := false }, converter := .idle } })) ∧
    (s.dock.coil ≠ .off → s.dock.pullIns = n → amps < 600 ∨ 2400 < amps → s.dock.sensorOpen = true →
      s.dock.selfTest = none → 0 < s.dock.count →
      completes (.burstComplete code0 code1 code2 code3) s (fun t =>
        t.dock.coil = .off ∧ t.dock.bolt = .closing ∧ t.dock.takeWindowAt = none ∧ t.dock.ch0.last = some code0 ∧
        (amps < 600 → .coilOpen ∈ t.fault.raised) ∧ (2400 < amps → .coilShort ∈ t.fault.raised) ∧
        ({ dock := true, fault := true, hire := true } : Touched).frame s t))

/-- Each analog result is stored and judged by its channel's window (model's choices: log 2, 26). -/
def Obligations.AnalogResultsAreJudged : Prop :=
  Claims.PeriodicBurstIsJudged ∧ Claims.BatteryIsJudged ∧ Claims.CoilCurrentIsJudged

/-! ### The tag port, cards, lookups and hires (chapters 5 to 7) -/

/-- TAG_ANSWER marks the command in progress as answered. At the first command of the start-up read it docks the bike: the
flag set, the count 15, docked-since and the docking capture the release instant with the start-up mark, the copy
READING. -/
def Claims.TagAnswerIsNoted : Prop :=
  ∀ (s : State) (issued : Ms),
    (∀ got startUp, s.tag.operation = .readSet startUp got false issued → startUp = false ∨ got ≠ [] →
      exec .tagAnswer s = .next (conclude
        { s with tag := { s.tag with operation := .readSet startUp got true issued } })) ∧
    (∀ w second back, s.tag.operation = .write w second back false issued → exec .tagAnswer s = .next (conclude
      { s with tag := { s.tag with operation := .write w second back true issued } })) ∧
    (s.tag.operation = .readSet true [] false issued →
      let c : Capture := { ms := issued, scheme := s.time.stampScheme issued, startUp := true }
      exec .tagAnswer s = .next (conclude
        { s with
          time := { s.time with boltClosed := none }
          dock := { s.dock with docked := true, count := 15, dockedSince := some c }
          tag := { s.tag with
            operation := .readSet true [] true issued, docking := some c
            copy := { state := .reading, id := .unread, hire := .unread, last := none, faults := .unread } } }))

/-- SECTION_READ_COMPLETE of a read set short of its fourth section issues the next read at once. -/
def Claims.SectionReadGoesOn : Prop :=
  ∀ (bytes : List Byte) (s : State) (startUp : Bool) (got : List (List Byte)) (issued : Ms),
    s.tag.operation = .readSet startUp got true issued → got.length < 3 →
    let r := s.reachMs (issued + 15)
    exec (.sectionReadComplete bytes) s = .next (conclude
      { r with tag := { s.tag with operation := .readSet startUp (got ++ [bytes]) false r.clock.ms } })

/-- NO_TAG, 5 ms after a command without an answer: the start-up read ends with no docking and an EMPTY copy; a docking's
read set ends with the copy NO-TAG and the TAG mark held; a write fails with the copy unchanged and the TAG mark held. -/
def Claims.SilentTagEndsTheOperation : Prop :=
  ∀ (s : State) (issued : Ms),
    (s.tag.operation = .readSet true [] false issued → exec .noTag s = .next (conclude
      { s.reachMs (issued + 5) with tag := { s.tag with operation := .idle } })) ∧
    (∀ got, s.tag.operation = .readSet false got false issued → s.tag.requests = [] →
      completes .noTag s (fun t =>
        t.tag.copy = { state := .noTag, id := .unread, hire := .unread, last := none, faults := .unread } ∧
        t.tag.docking = none ∧ t.fault.tagMark = true ∧ t.hire = s.hire)) ∧
    (∀ w second back, s.tag.operation = .write w second back false issued → w.requester = .settlement →
      s.tag.requests = [] → completes .noTag s (fun t =>
        t.tag.copy = s.tag.copy ∧ t.fault.tagMark = true ∧ t.hire = s.hire))

/-- A tag's answer, the next section of a read set, and a silent tag (model's choices: log 2, 13). -/
def Obligations.TagAnswersAndSilence : Prop :=
  Claims.TagAnswerIsNoted ∧ Claims.SectionReadGoesOn ∧ Claims.SilentTagEndsTheOperation

/-- The fourth section completes a read set: the copy is HELD with the sections as judged. With ID, HIRE and FAULTS good
and HIRE CLOSED or RETURNED nothing is written, no slot is taken and nothing is held against the bike. -/
def Claims.ReadSetHoldsTheCopy : Prop :=
  ∀ (bytes id hire last : List Byte) (s : State) (startUp : Bool) (issued : Ms) (i : IdSection) (h : HireSection)
    (entries : List FaultEntry),
    s.straps.role = .post → s.tag.operation = .readSet startUp [id, hire, last] true issued →
    judgeId id = .good i → judgeHire hire = .good h → h.mark = .closed ∨ h.mark = .returned →
    judgeFaults bytes = .good entries → s.tag.requests = [] →
    completes (.sectionReadComplete bytes) s (fun t =>
      t.tag =
        { s.tag with
          operation := .idle, docking := none
          copy := { state := .held, id := .good i, hire := .good h, last := judgeLast last
                    faults := .good entries } } ∧
      t.settle = s.settle ∧ t.fault.tagMark = s.fault.tagMark ∧ t.fault.writes = s.fault.writes ∧ t.hire = s.hire ∧
      ({ tag := true, peers := true, fault := true } : Touched).frame s t)

/-- A return: the fourth section completes a read set whose HIRE reads OPEN. The RETURNED write begins, with the end of
the docking capture, and slot A takes the return. With the end known, the plan's record held and a station id adopted
the slot is in RATING at once, done 2 ms later. -/
def Claims.OpenHireIsReturned : Prop :=
  ∀ (bytes id hire last : List Byte) (s : State) (startUp : Bool) (issued : Ms) (i : IdSection) (h : HireSection)
    (entries : List FaultEntry) (c : Capture) (ms : Nat) (plan : PlanRecord),
    s.straps.role = .post → s.tag.operation = .readSet startUp [id, hire, last] true issued →
    judgeId id = .good i → judgeHire hire = .good h → h.mark = .opened → judgeFaults bytes = .good entries →
    s.tag.requests = [] → s.tag.docking = some c → c.scheme = .known ms → s.peers.adoptedId ≠ 0 →
    s.settle.slotA = none → s.settle.active.planRecord h.plan = some plan →
    let now := (s.reachMs (issued + 15)).clock.ms
    completes (.sectionReadComplete bytes) s (fun t =>
      t.tag.operation =
        .write { contents := .hire { h with mark := .returned, endAt := ms / 1000 }, requester := .settlement,
                 ref := s.tag.nextRef } false false false now ∧
      t.tag.requests =
        (if (judgeLast last).isSome = true then
          [{ contents := .last none, requester := .settlement, ref := s.tag.nextRef + 1 }] else []) ∧
      t.settle.returned = s.settle.returned ++
        [{ ref := s.tag.nextRef, member := h.member, capture := c.ms, startUp := c.startUp }] ∧
      t.settle.slotB = s.settle.slotB ∧
      t.settle.slotA = some
        { record :=
            { bikeId := i.bikeId, ebike := decide (i.kind = .ebike), member := h.member, plan := h.plan
              start := h.start, startStation := h.startStation, startPost := h.startPost, startDay := h.startDay
              startSpend := h.startSpend, capture := c.ms, startUp := c.startUp, end_ := .known ms }
          phase := .rating
            { start := h.start, end_ := ms / 1000, plan := plan, bands := s.settle.active.bandTable
              version := s.settle.active.version, startSpend := h.startSpend, ebike := decide (i.kind = .ebike)
              atStartPost := decide (s.peers.adoptedId = h.startStation) && decide (h.startPost = s.number) }
            (now + 2) })

/-- A completed read set holds the copy, and an OPEN hire is a return (model's choices: log 2, 16). -/
def Obligations.ReadSetHoldsOrReturns : Prop :=
  Claims.ReadSetHoldsTheCopy ∧ Claims.OpenHireIsReturned

/-- A read set whose HIRE reads VAN, with ID and FAULTS good: the CLOSED write begins with every other field as read, no
slot is taken and no STL is queued (R128). -/
def Claims.VanTakenBikeIsClosed : Prop :=
  ∀ (bytes id hire last : List Byte) (s : State) (startUp : Bool) (issued : Ms) (i : IdSection) (h : HireSection)
    (entries : List FaultEntry),
    s.straps.role = .post → s.tag.operation = .readSet startUp [id, hire, last] true issued →
    judgeId id = .good i → judgeHire hire = .good h → h.mark = .van → judgeFaults bytes = .good entries →
    s.tag.requests = [] →
    completes (.sectionReadComplete bytes) s (fun t =>
      t.tag.operation =
        .write { contents := .hire { h with mark := .closed }, requester := .settlement, ref := s.tag.nextRef } false
          false false (s.reachMs (issued + 15)).clock.ms ∧
      t.tag.requests = [] ∧ t.settle = s.settle ∧ t.fault.tagMark = s.fault.tagMark ∧
      (s.van.window = none → ∀ q ∈ t.line.queue, q.kind = .stl → ∃ q' ∈ s.line.queue, q'.ref = q.ref))

/-- A return whose tag could not be read whole (R129): with HIRE DAMAGED one STL UNRATED with reason TAG is queued, of the
bike of a good ID and with nothing else known; with HIRE OPEN and ID DAMAGED it carries the ride of HIRE and bike id
0, and the RETURNED write begins, a LAST SETTLEMENT staying (model's choice: log 33). The day index is that of the
start (model's choice: log 34). No slot is taken, and the held TAG mark is set. -/
def Claims.DamagedTagIsSettledAtOnce : Prop :=
  ∀ (bytes id hire last : List Byte) (s : State) (startUp : Bool) (issued : Ms) (c : Capture)
    (entries : List FaultEntry),
    s.straps.role = .post → s.barred = false → s.tag.operation = .readSet startUp [id, hire, last] true issued →
    judgeFaults bytes = .good entries → s.tag.requests = [] → s.tag.docking = some c → s.line.queue.length ≤ 3 →
    (∀ e ∈ s.line.queue, e.ref < s.line.nextRef) →
    let endAt := match c.scheme with
      | .known ms => ms / 1000
      | .pending => 0xFFFFFFFF
      | .unknown => 0xFFFFFFFF
    let told (v : StlValues) (t : State) : Prop := ∃ q ∈ t.line.queue, q.kind = .stl ∧ q.body = stlBody v
    let slots (t : State) : Prop := t.settle.slotA = s.settle.slotA ∧ t.settle.slotB = s.settle.slotB
    (∀ i, judgeId id = .good i → judgeHire hire = .damaged →
      completes (.sectionReadComplete bytes) s (fun t =>
        told { member := 0, bikeId := i.bikeId, hireStation := 0, start := 0, end_ := endAt, fare := .unrated
               reason := .tag, version := 0, newSpend := 0, day := 0, ebike := decide (i.kind = .ebike) } t ∧
        slots t ∧ t.fault.tagMark = true)) ∧
    (judgeId id = .damaged → judgeHire hire = .damaged →
      completes (.sectionReadComplete bytes) s (fun t =>
        told { member := 0, bikeId := 0, hireStation := 0, start := 0, end_ := endAt, fare := .unrated
               reason := .tag, version := 0, newSpend := 0, day := 0, ebike := false } t ∧
        slots t ∧ t.fault.tagMark = true)) ∧
    (∀ h, judgeId id = .damaged → judgeHire hire = .good h → h.mark = .opened →
      completes (.sectionReadComplete bytes) s (fun t =>
        told { member := h.member, bikeId := 0, hireStation := h.startStation, start := h.start, end_ := endAt
               fare := .unrated, reason := .tag, version := 0, newSpend := h.startSpend, day := h.start / 86400
               ebike := false } t ∧
        t.tag.operation =
          .write { contents := .hire { h with mark := .returned, endAt := endAt }, requester := .settlement,
                   ref := s.tag.nextRef } false false false (s.reachMs (issued + 15)).clock.ms ∧
        (∀ r ∈ t.tag.requests, r.contents ≠ .last none) ∧ slots t ∧ t.fault.tagMark = true))

/-- A read set that a silent tag cuts short is settled at once (R129): one STL UNRATED with reason TAG, of whatever was
read before the silence. The bike is that of an ID read good; the member, start, hire station and spend at start are
those of a HIRE read good and OPEN, the day index that of the start (model's choice: log 34), all 0 otherwise; the end
is the docking capture's and the tariff version 0. No slot is taken and no write requested. -/
def Claims.SilentReadSetIsSettledAtOnce : Prop :=
  ∀ (got : List (List Byte)) (s : State) (startUp : Bool) (issued : Ms) (c : Capture),
    s.straps.role = .post → s.barred = false → s.tag.operation = .readSet startUp got false issued →
    (startUp = true → got ≠ []) → s.tag.requests = [] → s.tag.docking = some c → s.line.queue.length ≤ 3 →
    (∀ e ∈ s.line.queue, e.ref < s.line.nextRef) →
    let endAt := match c.scheme with
      | .known ms => ms / 1000
      | .pending => 0xFFFFFFFF
      | .unknown => 0xFFFFFFFF
    let id : Option IdSection := match got.map judgeId with
      | .good i :: _ => some i
      | _ => none
    let ride : Option HireSection := match got.map judgeHire with
      | _ :: .good h :: _ => if h.mark = .opened then some h else none
      | _ => none
    let ofRide (field : HireSection → Nat) : Nat := (ride.map field).getD 0
    completes .noTag s (fun t =>
      (∃ q ∈ t.line.queue, q.kind = .stl ∧ q.body = stlBody
        { member := ofRide HireSection.member, bikeId := (id.map IdSection.bikeId).getD 0
          hireStation := ofRide HireSection.startStation, start := ofRide HireSection.start, end_ := endAt
          fare := .unrated, reason := .tag, version := 0, newSpend := ofRide HireSection.startSpend
          day := ofRide HireSection.start / 86400, ebike := decide (id.map IdSection.kind = some .ebike) }) ∧
      t.tag.copy = { state := .noTag, id := .unread, hire := .unread, last := none, faults := .unread } ∧
      t.tag.operation = .idle ∧ t.tag.requests = [] ∧ t.settle = s.settle ∧ t.fault.tagMark = true)

/-- A return that finds both slots taken (R131): it is settled at once UNRATED with reason SLOTS and the ride's own
values, the RETURNED write begins, the write-back of that settlement waits for an IDLE hire's tag in place of the
clearing of LAST (model's choice: log 12), and the slots stay as they are. -/
def Claims.ReturnWithoutASlotIsUnrated : Prop :=
  ∀ (bytes id hire last : List Byte) (s : State) (startUp : Bool) (issued : Ms) (i : IdSection) (h : HireSection)
    (entries : List FaultEntry) (c : Capture) (ms : Nat) (a b : Slot),
    s.straps.role = .post → s.barred = false → s.tag.operation = .readSet startUp [id, hire, last] true issued →
    judgeId id = .good i → judgeHire hire = .good h → h.mark = .opened → judgeFaults bytes = .good entries →
    s.tag.requests = [] → s.tag.docking = some c → c.scheme = .known ms → s.settle.slotA = some a →
    s.settle.slotB = some b → s.hire.state = .idle → s.line.queue.length ≤ 3 →
    (∀ e ∈ s.line.queue, e.ref < s.line.nextRef) →
    completes (.sectionReadComplete bytes) s (fun t =>
      t.settle.slotA = some a ∧ t.settle.slotB = some b ∧
      (∃ q ∈ t.line.queue, q.kind = .stl ∧ q.body = stlBody
        { member := h.member, bikeId := i.bikeId, hireStation := h.startStation, start := h.start, end_ := ms / 1000
          fare := .unrated, reason := .slots, version := 0, newSpend := h.startSpend, day := h.start / 86400
          ebike := decide (i.kind = .ebike) }) ∧
      t.tag.operation =
        .write { contents := .hire { h with mark := .returned, endAt := ms / 1000 }, requester := .settlement,
                 ref := s.tag.nextRef } false false false (s.reachMs (issued + 15)).clock.ms ∧
      ∃ r, t.tag.requests = [r] ∧ r.requester = .settlement ∧
        r.contents = .last (some { fare := .unrated, reason := .slots, endAt := ms / 1000, tariff := 0 }))

/-- A FAULTS section that reads DAMAGED (R79, R152, R153): the tag port's rewrite to one TAG entry begins at the
completion of the read set, the mark is held and the bike stands at level 2. A change made meanwhile is deferred.
WRITTEN, the copy takes the entry and the deferred changes go onto it as one write; failed, they are discarded and the
copy stays. -/
def Claims.DamagedFaultsAreRewritten : Prop :=
  ∀ (bytes : List Byte) (s : State) (issued : Ms), s.straps.role = .post →
    let entry : FaultEntry := { cls := 8, level := 2, source := .auto, reporter := 0 }
    (∀ id hire last startUp i h, s.tag.operation = .readSet startUp [id, hire, last] true issued →
      judgeId id = .good i → judgeHire hire = .good h → h.mark = .closed ∨ h.mark = .returned →
      judgeFaults bytes = .damaged → s.tag.requests = [] → s.dock.docked = true →
      completes (.sectionReadComplete bytes) s (fun t =>
        t.tag.operation =
          .write { contents := .faults [entry], requester := .tagPort, ref := s.tag.nextRef } false false false
            (s.reachMs (issued + 15)).clock.ms ∧
        t.tag.copy.state = .held ∧ t.tag.copy.faults = .damaged ∧ t.tag.requests = [] ∧ t.fault.tagMark = true ∧
        t.fault.deferred = s.fault.deferred ∧ t.bikeLevel = 2)) ∧
    (∀ change, s.faultsDamaged = true → s.rewritePending = true →
      s.changeFaults change = { s with fault := { s.fault with deferred := s.fault.deferred ++ [change] } }) ∧
    (∀ ref second, s.faultsDamaged = true → s.tag.requests = [] → s.fault.writes = [] →
      s.tag.operation =
        .write { contents := .faults [entry], requester := .tagPort, ref := ref } second true true issued →
      (∀ e, bytes = sectionBytes (.faults [entry]) → s.fault.deferred = [.add e] →
        completes (.sectionReadComplete bytes) s (fun t =>
          t.tag.copy.faults = .good [entry] ∧ t.fault.deferred = [] ∧ t.workingList = [entry, e] ∧
          t.tag.operation =
            .write { contents := .faults [entry, e], requester := .fault, ref := s.tag.nextRef } false false false
              (s.reachMs (issued + 15)).clock.ms)) ∧
      (bytes = sectionBytes (.faults [entry]) → s.fault.deferred = [] →
        completes (.sectionReadComplete bytes) s (fun t =>
          t.tag.copy.faults = .good [entry] ∧ t.tag.operation = .idle ∧ t.fault.deferred = [])) ∧
      (bytes ≠ sectionBytes (.faults [entry]) → second = true →
        completes (.sectionReadComplete bytes) s (fun t =>
          t.tag.copy = s.tag.copy ∧ t.fault.deferred = [] ∧ t.fault.tagMark = true ∧ t.tag.operation = .idle)))

/-- A VAN hire is closed, a damaged or silent tag and a return without a slot are settled at once, damaged FAULTS
rewritten (model's choices: log 2, 12, 33, 34). -/
def Obligations.ReturnsByTheSections : Prop :=
  Claims.VanTakenBikeIsClosed ∧ Claims.DamagedTagIsSettledAtOnce ∧ Claims.SilentReadSetIsSettledAtOnce ∧
  Claims.ReturnWithoutASlotIsUnrated ∧ Claims.DamagedFaultsAreRewritten

/-- SECTION_WRITE_COMPLETE issues the read-back of the section just written. -/
def Claims.SectionWriteIsReadBack : Prop :=
  ∀ (s : State) (w : WriteRequest) (second answered : Bool) (issued : Ms),
    s.tag.operation = .write w second false answered issued →
    let r := s.reachMs (issued + 30)
    exec .sectionWriteComplete s = .next (conclude
      { r with tag := { s.tag with operation := .write w second true false r.clock.ms } })

/-- The read-back (SECTION_READ_COMPLETE): bytes equal to those written, check included, end the write WRITTEN, and the
copy takes the contents, the own offer evaluated where the bike fault level changes with it (R170); other bytes begin
the second attempt, and in the second end the write with the copy unchanged and the TAG mark held. -/
def Claims.ReadBackEndsTheWrite : Prop :=
  ∀ (bytes : List Byte) (s : State) (w : WriteRequest) (second : Bool) (issued : Ms),
    s.tag.operation = .write w second true true issued → s.tag.requests = [] →
    let r := s.reachMs (issued + 15)
    (bytes ≠ sectionBytes w.contents → second = false → exec (.sectionReadComplete bytes) s = .next (conclude
      { r with tag := { s.tag with operation := .write w true false false r.clock.ms } })) ∧
    (bytes = sectionBytes w.contents → w.requester = .settlement → s.settle.returned = [] →
      let written : State :=
        { r with
          tag := { s.tag with
            operation := .idle
            copy := match w.contents with
              | .hire h => { s.tag.copy with hire := .good h }
              | .last l => { s.tag.copy with last := l }
              | .faults entries => { s.tag.copy with faults := .good entries } } }
      exec (.sectionReadComplete bytes) s = .next (conclude (written.evaluateSince s))) ∧
    (bytes ≠ sectionBytes w.contents → second = true → w.requester = .settlement →
      completes (.sectionReadComplete bytes) s (fun t =>
        t.tag.copy = s.tag.copy ∧ t.fault.tagMark = true ∧ t.hire = s.hire))

/-- A WRITTEN RETURNED write opens the member's reporting window: the reporter the ride's member, the expiry 60,000 ms
after the docking, unused. -/
def Claims.WrittenReturnOpensAWindow : Prop :=
  ∀ (bytes : List Byte) (s : State) (w : WriteRequest) (second : Bool) (issued : Ms) (ride : ReturnedWrite),
    s.tag.operation = .write w second true true issued → bytes = sectionBytes w.contents → s.tag.requests = [] →
    w.requester = .settlement → s.settle.returned = [ride] → ride.ref = w.ref → ride.startUp = false →
    ride.member ≠ 0 → s.dock.docked = true → ((s.reachMs (issued + 15)).clock.ms - ride.capture).toNat < 60000 →
    completes (.sectionReadComplete bytes) s (fun t =>
      t.fault.window =
        some { crew := false, reporter := ride.member, expiresAt := ride.capture + 60000, used := false } ∧
      t.settle.returned = [] ∧ t.tag.operation = .idle)

/-- A tag write, its read-back, and the window a RETURNED write opens (model's choices: log 2). -/
def Obligations.WritesAreReadBack : Prop :=
  Claims.SectionWriteIsReadBack ∧ Claims.ReadBackEndsTheWrite ∧ Claims.WrittenReturnOpensAWindow

/-- CARD_CHARACTER at a post: the gap timer restarts at 5 ms. A good character is collected, the sixteenth completing the
record, stamping the card slot and deciding the button held test for that capture (R61): pressed now, since 2,000 ms
or more; an error voids the record with its reason and discards what was held; a seventeenth is an overrun; in VOID it
is discarded. -/
def Claims.CardCharactersAreAssembled : Prop :=
  ∀ (c : CardChar) (s : State), s.isPost = true →
    let timed : CardPort := { s.card with gapAt := some (s.clock.ms + 5), waitsIdle := !c.stopIdle }
    (c.stopIdle = true → parityError c = false → s.card.assembler = .idle ∨ s.card.assembler = .collecting →
      s.card.chars.length ≠ 15 → exec (.cardCharacter c) s = .next (conclude
        { s with card := { timed with assembler := .collecting, chars := s.card.chars ++ [c.data] } })) ∧
    (c.stopIdle = true → parityError c = false → s.card.assembler = .idle ∨ s.card.assembler = .collecting →
      s.card.chars.length = 15 → exec (.cardCharacter c) s = .next (conclude
        { s with
          card := { timed with
            assembler := .complete, chars := s.card.chars ++ [c.data]
            captureHeld := s.dock.pressed && (match s.dock.pressAt with
              | some p => decide (2000 ≤ (s.clock.ms - p).toNat) && decide ((s.clock.ms - p).toNat < 2 ^ 31)
              | none => false) }
          time := { s.time with
            card := some { ms := s.clock.ms, scheme := s.time.stampScheme s.clock.ms, startUp := false } } })) ∧
    (c.stopIdle = false ∨ parityError c = true → s.card.assembler = .idle ∨ s.card.assembler = .collecting →
      exec (.cardCharacter c) s = .next (conclude
        { s with
          card := { timed with
            assembler := .void, chars := [], captureHeld := false
            voidReason := some (if c.stopIdle = false then .framing else .parity) } })) ∧
    (s.card.assembler = .complete → exec (.cardCharacter c) s = .next (conclude
      { s with
        card := { timed with assembler := .void, chars := [], captureHeld := false, voidReason := some .overrun }
        time := { s.time with card := none } })) ∧
    (s.card.assembler = .void → exec (.cardCharacter c) s = .next (conclude { s with card := timed }))

/-- RECORD_GAP of an unreadable record (short, void, or of a bad check or field): the run count rises, to 8 at most, and
raises READER there; a post in IDLE shows a refusal of group 1 and stays IDLE. -/
def Claims.UnreadableCardIsRefused : Prop :=
  ∀ (s : State) (due : Ms), s.isPost = true → s.card.gapAt = some due →
    s.card.assembler = .collecting ∨ s.card.assembler = .void ∨
      (s.card.assembler = .complete ∧ ∃ reason, cardRecordOf s.card.chars = .error reason) →
    completes .recordGap s (fun t =>
      t.card.assembler = .idle ∧ t.card.chars = [] ∧ t.card.gapAt = none ∧
      t.card.unreadableRun = min (s.card.unreadableRun + 1) 8 ∧
      (7 ≤ s.card.unreadableRun → .reader ∈ t.fault.raised) ∧
      (s.card.unreadableRun < 7 → t.fault = s.fault) ∧ t.hire = s.hire ∧
      (s.hire.state = .idle → s.dock.selfTest = none →
        t.dock.refusal = some { flashes := 1, endAt := (s.reachMs due).clock.ms + 3000 }) ∧
      ({ card := true, fault := true, dock := true, time := true } : Touched).frame s t)

/-- Card characters are assembled, and an unreadable record is refused (model's choices: log 2, 24). -/
def Obligations.CardsAreAssembled : Prop :=
  Claims.CardCharactersAreAssembled ∧ Claims.UnreadableCardIsRefused

/-- RECORD_GAP of a good member card at an IDLE post, by the first check that fails: group 4 without time, station id or
with a clash; group 3 without a hireable bike or in van hold; group 5 for a post at level 2; group 1 for an expired
card of an unknown member. The hire stays IDLE, the run count is 0, READER is cleared and no other post fault moves. -/
def Claims.MemberCardIsRefused : Prop :=
  ∀ (s : State) (due : Ms) (card : CardRecord), s.isPost = true → s.card.gapAt = some due →
    s.card.assembler = .complete → cardRecordOf s.card.chars = .ok card → card.plan ≠ 15 → s.hire.state = .idle →
    s.dock.selfTest = none →
    let r := s.reachMs due
    let refused : Nat → Prop := fun group =>
      completes .recordGap s (fun t =>
        t.hire = { s.hire with record := none } ∧
        t.dock.refusal = some { flashes := group, endAt := r.clock.ms + 3000 } ∧ t.card.unreadableRun = 0 ∧
        t.fault = { s.fault with raised := s.fault.raised.filter (fun f => decide (f ≠ .reader)) } ∧
        ({ card := true, fault := true, dock := true, time := true, hire := true } : Touched).frame s t)
    (s.timeUnset = true ∨ s.peers.adoptedId = 0 ∨ s.line.clash = true → refused 4) ∧
    (s.timeUnset = false → s.peers.adoptedId ≠ 0 → s.line.clash = false →
      s.dock.docked = false ∨ s.tagCondition = false ∨ s.bikeLevel = 2 ∨ s.van.hold = true → refused 3) ∧
    (s.timeUnset = false → s.peers.adoptedId ≠ 0 → s.line.clash = false → s.dock.docked = true →
      s.tagCondition = true → s.bikeLevel < 2 → s.van.hold = false → s.postLevel = 2 → refused 5) ∧
    (s.timeUnset = false → s.peers.adoptedId ≠ 0 → s.line.clash = false → s.dock.docked = true →
      s.tagCondition = true → s.bikeLevel < 2 → s.van.hold = false → s.postLevel < 2 →
      s.view.find card.member = none → card.expiryDay < r.today → refused 1)

/-- RECORD_GAP of a good member card the view knows, at an IDLE post whose checks 2 to 5 pass (R95, R108): the first check
that fails refuses it, with group 1 for an expired card or a card sequence below the minimum, and group 2 for a status
other than GOOD or bikes out at the allowance. When all pass the answer is copied, the CLM with the member and the
allowance is queued and the hire is in CLAIMING. Either way the reading is a use of the entry. -/
def Claims.KnownMemberClaims : Prop :=
  ∀ (s : State) (due : Ms) (card : CardRecord) (e : ViewEntry), s.straps.role = .post → s.barred = false →
    s.card.gapAt = some due → s.card.assembler = .complete → cardRecordOf s.card.chars = .ok card → card.plan ≠ 15 →
    s.hire.state = .idle → s.dock.selfTest = none → s.postLevel < 2 → s.timeUnset = false → s.peers.adoptedId ≠ 0 →
    s.line.clash = false → s.dock.docked = true → s.tagCondition = true → s.bikeLevel < 2 → s.van.hold = false →
    s.view.find card.member = some e → .reader ∉ s.fault.raised →
    let r := s.reachMs due
    r.presentSecond ≤ e.updatedAt + 86400 →
    let used := s.view.entries.filter (fun x => decide (x.member ≠ e.member)) ++ [e]
    let refused (group : Nat) : Prop := completes .recordGap s (fun t =>
      t.hire = { s.hire with record := none } ∧ t.view = { s.view with entries := used } ∧
      t.dock.refusal = some { flashes := group, endAt := r.clock.ms + 3000 })
    (card.expiryDay < r.today ∨ card.sequence < e.minSequence → refused 1) ∧
    (r.today ≤ card.expiryDay → e.minSequence ≤ card.sequence → e.status ≠ .good ∨ e.allowance ≤ e.bikesOut →
      refused 2) ∧
    (r.today ≤ card.expiryDay → e.minSequence ≤ card.sequence → e.status = .good → e.bikesOut < e.allowance →
      s.line.queue.length < 8 → (∀ q ∈ s.line.queue, q.ref < s.line.nextRef) →
      completes .recordGap s (fun t =>
        t.hire.state = .claiming ∧ t.hire.claims = s.hire.claims ∧ t.view = { s.view with entries := used } ∧
        (∃ h, t.hire.record = some h ∧ h.kind = .member ∧ h.card = card ∧ h.clmRef = some s.line.nextRef ∧
          h.claim = none ∧
          h.answer = some
            { status := .good, plan := e.plan, allowance := e.allowance, bikesOut := e.bikesOut
              spend := (if r.today ≤ e.day then e.spend else 0), minSequence := e.minSequence, unverified := false }) ∧
        ∃ q ∈ t.line.queue, q.kind = .clm ∧ q.ref = s.line.nextRef ∧ q.body = be4 card.member ++ be1 e.allowance))

/-- RECORD_GAP of a good card of a member the view does not know, every check before it passed: a lookup of 1,500 ms is
OUTSTANDING, one LKP with the member and the card sequence is queued, and the hire is in LOOKUP. -/
def Claims.UnknownMemberIsLookedUp : Prop :=
  ∀ (s : State) (due : Ms) (card : CardRecord), s.straps.role = .post → s.barred = false → s.card.gapAt = some due →
    s.card.assembler = .complete → cardRecordOf s.card.chars = .ok card → card.plan ≠ 15 → s.hire.state = .idle →
    s.dock.selfTest = none → s.postLevel < 2 → s.timeUnset = false → s.peers.adoptedId ≠ 0 → s.line.clash = false →
    s.dock.docked = true → s.tagCondition = true → s.bikeLevel < 2 → s.van.hold = false →
    s.view.find card.member = none → s.line.queue = [] → .reader ∉ s.fault.raised →
    let r := s.reachMs due
    r.today ≤ card.expiryDay →
    completes .recordGap s (fun t =>
      t.hire.state = .lookup ∧ (∃ h, t.hire.record = some h ∧ h.card = card ∧ h.kind = .member ∧ h.claim = none) ∧
      t.view = { s.view with
        lookup := some { card := card, expiresAt := r.clock.ms + 1500, lkpRef := some s.line.nextRef } } ∧
      ∃ q ∈ t.line.queue, q.kind = .lkp ∧ q.body = be4 card.member ++ be1 card.sequence)

/-- A good member card: the first failing check refuses it, a known member claims, an unknown one is looked up (model's
choices: log 2). -/
def Obligations.CardsAreCheckedOrLookedUp : Prop :=
  Claims.MemberCardIsRefused ∧ Claims.KnownMemberClaims ∧ Claims.UnknownMemberIsLookedUp

/-- RECORD_GAP of a good crew card (plan 15) that starts no self-test, at an IDLE post (R123, R156): out of van hold it
gets the crew acknowledgement of 1,000 ms, the hire stays IDLE, and a docked bike whose ID reads good opens a CREW
reporting window of 60,000 ms. In van hold the VAN write begins with the crew member and the hire is in TAGGING, or it
is refused with group 4 without time, station id or with a clash, and group 3 without a bike that meets the tag
condition. -/
def Claims.CrewCardIsAcknowledgedOrReleases : Prop :=
  ∀ (s : State) (due : Ms) (card : CardRecord), s.straps.role = .post → s.card.gapAt = some due →
    s.card.assembler = .complete → cardRecordOf s.card.chars = .ok card → card.plan = 15 →
    s.card.captureHeld = false ∨ s.time.card = none → s.hire.state = .idle → s.dock.selfTest = none →
    let r := s.reachMs due
    let refused (group : Nat) : Prop := completes .recordGap s (fun t =>
      t.hire = { s.hire with record := none } ∧ t.tag = s.tag ∧
      t.dock.refusal = some { flashes := group, endAt := r.clock.ms + 3000 })
    (s.van.hold = false → completes .recordGap s (fun t =>
      t.hire = { s.hire with record := none } ∧ t.tag = s.tag ∧ t.dock.crewAckAt = some (r.clock.ms + 1000) ∧
      (s.dock.docked = true → s.copyId.isSome = true → t.fault.window =
        some { crew := true, reporter := card.member, expiresAt := r.clock.ms + 60000, used := false }) ∧
      (s.dock.docked = false ∨ s.copyId = none → t.fault.window = s.fault.window) ∧
      t.fault.raised = s.fault.raised.filter (fun f => decide (f ≠ .reader)) ∧
      ({ card := true, fault := true, dock := true, time := true, hire := true } : Touched).frame s t)) ∧
    (s.van.hold = true → s.timeUnset = true ∨ s.peers.adoptedId = 0 ∨ s.line.clash = true → refused 4) ∧
    (s.van.hold = true → s.timeUnset = false → s.peers.adoptedId ≠ 0 → s.line.clash = false →
      s.dock.docked = false ∨ s.tagCondition = false → refused 3) ∧
    (∀ i prior, s.van.hold = true → s.timeUnset = false → s.peers.adoptedId ≠ 0 → s.line.clash = false →
      s.dock.docked = true → s.copyId = some i → s.copyHire = some prior →
      prior.mark = .closed ∨ prior.mark = .returned → s.tag.operation = .idle → s.tag.requests = [] →
      let written : HireSection :=
        { mark := .van, member := card.member, plan := 15, start := r.presentSecond
          startStation := s.peers.adoptedId, startPost := s.number, startDay := r.today, startSpend := 0
          unverified := false, endAt := 0 }
      completes .recordGap s (fun t =>
        t.hire.state = .tagging ∧
        t.tag.operation =
          .write { contents := .hire written, requester := .hire, ref := s.tag.nextRef } false false false r.clock.ms ∧
        ∃ h, t.hire.record = some h ∧ h.kind = .crew ∧ h.card = card ∧ h.claim = none ∧ h.written = some written ∧
          h.prior = some prior ∧ h.bike = some i ∧ h.summary = none ∧ h.writeRef = some s.tag.nextRef))

/-- A van take is told by one VTK. The take of a crew release (R174) carries the hold serial, the bike of the hire record
and the crew member of the written HIRE, and ends the hire; the take of a self-test's hold (R71, R175) carries serial
0, the bike noted at the self-test's start and its crew member, and the hold runs on. -/
def Claims.CrewTakesSendVtk : Prop :=
  ∀ (a b : Bool) (s : State), s.straps.role = .post → s.dock.count = 1 →
    beamPhase s.dock.beamA s.dock.beamB = (beamPhase a b + 1) % 4 → s.dock.bolt = .held → s.dock.docked = true →
    s.dock.sensorOpen = true → s.refusesOffer .vtk = false → s.line.queue.length < 7 →
    (∀ e ∈ s.line.queue, e.ref < s.line.nextRef) → s.tag.operation = .idle → s.tag.requests = [] →
    let vtk (serial bike crew : Nat) (t : State) : Prop :=
      ∃ q ∈ t.line.queue, q.kind = .vtk ∧ q.body = be1 serial ++ be4 bike ++ be4 crew
    (∀ h bike w, s.dock.selfTest = none → s.dock.release = true → s.hire.state = .releasing →
      s.hire.record = some h → h.kind = .crew → h.bike = some bike → h.written = some w → h.settleAt = none →
      completes (.beamEdge a b) s (fun t =>
        vtk s.van.holdSerial bike.bikeId w.member t ∧ t.hire = { s.hire with state := .idle, record := none } ∧
        t.dock.docked = false ∧ t.dock.bolt = .closing ∧ t.dock.coil = .off ∧ t.van.hold = false ∧
        t.tag.copy.state = .empty)) ∧
    (∀ test, s.dock.selfTest = some test → s.hire.state = .idle →
      completes (.beamEdge a b) s (fun t =>
        vtk 0 s.van.selfTestBike test.crew t ∧ t.hire = s.hire ∧ t.dock.docked = false ∧ t.dock.bolt = .held ∧
        t.dock.coil = s.dock.coil ∧ t.dock.selfTest = some test ∧ t.dock.holdEndAt = s.dock.holdEndAt ∧
        t.van.hold = false ∧ t.tag.copy.state = .empty))

/-- RECORD_GAP of a good crew card whose capture passed the button held test, with no self-test running (R70, R105, R160,
R175): the self-test starts. The bolt is OPENING, the coil in PULL-IN with its timers from this instant, the bolt seen
open where it stands open. JAM, the coil faults, SENSOR, LAMP, LINE, IDCONF and READER are clear and the rest of the
faults stay; the noise count is 0, a press burst is discarded, the lamp's displays end, the conflict-seen mark and the
bad-frame record are clear. Van hold ends, the docked bike's id is noted for a take, and the hire is IDLE. While a
self-test runs no card starts another. -/
def Claims.CrewCardStartsASelfTest : Prop :=
  ∀ (s : State) (due : Ms) (card : CardRecord), s.straps.role = .post → s.card.gapAt = some due →
    s.card.assembler = .complete → cardRecordOf s.card.chars = .ok card → card.plan = 15 →
    let now := (s.reachMs due).clock.ms
    (s.dock.selfTest = none → s.card.captureHeld = true → s.time.card.isSome = true → s.line.stuck = false →
      completes .recordGap s (fun t =>
        t.dock.selfTest = some { phase := .pullIn, crew := card.member } ∧ t.dock.bolt = .opening ∧
        t.dock.coil = .pullIn ∧ t.dock.pullInEndAt = some (now + 80) ∧ t.dock.ch0At = some (now + 40) ∧
        t.dock.openCheckAt = some (now + 150) ∧ t.dock.takeWindowAt = none ∧ t.dock.closeCheckAt = none ∧
        t.dock.pushAsideAt = none ∧ t.dock.seenOpen = s.dock.sensorOpen ∧ t.dock.release = false ∧
        t.dock.noise = 0 ∧ t.dock.refusal = none ∧ t.dock.crewAckAt = none ∧
        t.dock.burst = s.dock.burst.map (fun b => { b with discarded := true }) ∧
        t.dock.count = s.dock.count ∧ t.dock.docked = s.dock.docked ∧
        (∀ f, f ∈ t.fault.raised ↔ f ∈ s.fault.raised ∧ (f = .clash ∨ f = .supplyLow)) ∧
        t.fault.tagMark = s.fault.tagMark ∧ t.fault.lowCharge = s.fault.lowCharge ∧ t.fault.flat = s.fault.flat ∧
        t.line.lineRaised = false ∧ t.line.lineClearAt = none ∧ t.line.badFrames = [] ∧
        t.peers = { s.peers with conflictSeen := false } ∧ t.van.hold = false ∧ t.van.target = s.van.target ∧
        t.van.selfTestBike =
          (if s.dock.docked = true then (s.copyId.map IdSection.bikeId).getD 0 else 0) ∧
        (s.hireSound → t.hire.state = .idle ∧ t.hire.record = none) ∧ t.hire.claims = s.hire.claims ∧
        t.settle.slotA = s.settle.slotA ∧ t.settle.slotB = s.settle.slotB ∧ t.view.entries = s.view.entries)) ∧
    (∀ test, s.dock.selfTest = some test → completes .recordGap s (fun t =>
      t.dock.selfTest = some test ∧ t.dock.bolt = s.dock.bolt ∧ t.dock.coil = s.dock.coil ∧ t.hire = s.hire ∧
      t.van.hold = s.van.hold))

/-- The hire a self-test cuts short, by its state (R124): in LOOKUP the lookup ends; in CLAIMING an unanswered CLM becomes
an unwanted claim, and a claim whose window runs is withdrawn; in TAGGING a write still waiting is withdrawn with the
claim, and one that has begun is followed by the prior HIRE; in RELEASING the prior HIRE is written and the claim
withdrawn. -/
def Claims.SelfTestCutsTheHireShort : Prop :=
  ∀ (s : State) (due : Ms) (card : CardRecord) (h : HireRecord), s.straps.role = .post → s.barred = false →
    s.line.clash = false → s.card.gapAt = some due → s.card.assembler = .complete →
    cardRecordOf s.card.chars = .ok card → card.plan = 15 → s.dock.selfTest = none → s.card.captureHeld = true →
    s.time.card.isSome = true → s.line.stuck = false → s.hire.record = some h → h.kind = .member →
    s.line.queue.length < 7 → (∀ e ∈ s.line.queue, e.ref < s.line.nextRef) →
    let now := (s.reachMs due).clock.ms
    let wdr (c : SentClaim) (t : State) : Prop :=
      ∃ q ∈ t.line.queue, q.kind = .wdr ∧ q.body = [c.serial] ++ be4 h.card.member
    (s.hire.state = .lookup → completes .recordGap s (fun t =>
      t.view = { s.view with lookup := none } ∧ t.hire = { s.hire with state := .idle, record := none })) ∧
    (∀ ref, s.hire.state = .claiming → h.claim = none → h.clmRef = some ref → completes .recordGap s (fun t =>
      t.hire = { s.hire with
        state := .idle, record := none, unwanted := s.hire.unwanted ++ [{ ref := ref, member := h.card.member }] })) ∧
    (∀ c, s.hire.state = .claiming → h.claim = some c → completes .recordGap s (fun t =>
      wdr c t ∧ t.hire = { s.hire with state := .idle, record := none } ∧ t.tag = s.tag)) ∧
    (∀ c ref, s.hire.state = .tagging → h.claim = some c → h.writeRef = some ref →
      (∃ r ∈ s.tag.requests, r.ref = ref) → completes .recordGap s (fun t =>
        wdr c t ∧ t.hire = { s.hire with state := .idle, record := none } ∧
        t.tag = { s.tag with requests := s.tag.requests.filter (fun r => decide (r.ref ≠ ref)) })) ∧
    (∀ c ref prior running second back answered issued, s.hire.state = .tagging → h.claim = some c →
      h.writeRef = some ref → h.prior = some prior → s.copyHeld = true → s.tag.requests = [] →
      s.tag.operation = .write running second back answered issued → completes .recordGap s (fun t =>
        wdr c t ∧ t.hire = { s.hire with state := .idle, record := none } ∧
        t.tag = { s.tag with
          requests := [{ contents := .hire prior, requester := .hire, ref := s.tag.nextRef }]
          nextRef := s.tag.nextRef + 1 })) ∧
    (∀ c prior, s.hire.state = .releasing → h.claim = some c → h.prior = some prior → s.copyHeld = true →
      s.tag.requests = [] → s.tag.operation = .idle → completes .recordGap s (fun t =>
        wdr c t ∧ t.hire = { s.hire with state := .idle, record := none } ∧ t.dock.release = false ∧
        t.tag.operation =
          .write { contents := .hire prior, requester := .hire, ref := s.tag.nextRef } false false false now))

/-- A good crew card: its acknowledgement, the crew release and its VTK, the self-test and the hire it cuts short (model's
choices: log 2). -/
def Obligations.CrewCardsAndSelfTests : Prop :=
  Claims.CrewCardIsAcknowledgedOrReleases ∧ Claims.CrewTakesSendVtk ∧ Claims.CrewCardStartsASelfTest ∧
  Claims.SelfTestCutsTheHireShort

/-- LOOKUP_TIMER_EXPIRY of a hire in LOOKUP: without offline admission, with the card expired or time unset, the lookup
fails and the hire is refused with group 2; no view entry is made. -/
def Claims.LookupFails : Prop :=
  ∀ (s : State) (l : Lookup), s.view.lookup = some l → s.hire.state = .lookup →
    let r := s.reachMs l.expiresAt
    (l.card.offline = false ∨ s.timeUnset = true ∨ l.card.expiryDay < r.today →
      completes .lookupTimerExpiry s (fun t =>
        t.view = { s.view with lookup := none } ∧ t.hire = { s.hire with state := .idle, record := none } ∧
        t.dock.refusal = some { flashes := 2, endAt := r.clock.ms + 3000 } ∧
        ({ view := true, hire := true, dock := true } : Touched).frame s t))

/-- LOOKUP_TIMER_EXPIRY with offline admission: the hire claims with allowance 1, bikes out 0 and the unverified mark. -/
def Claims.LookupAdmitsOffline : Prop :=
  ∀ (s : State) (l : Lookup) (h : HireRecord), s.view.lookup = some l → s.hire.state = .lookup →
    s.hire.record = some h → h.card = l.card → s.straps.role = .post → s.barred = false → l.card.offline = true →
    s.timeUnset = false → (s.reachMs l.expiresAt).today ≤ l.card.expiryDay → s.peers.adoptedId ≠ 0 →
    s.line.clash = false → s.dock.docked = true → s.tagCondition = true → s.bikeLevel < 2 → s.van.hold = false →
    s.postLevel < 2 → s.line.queue = [] →
    completes .lookupTimerExpiry s (fun t =>
      t.view = { s.view with lookup := none } ∧
      t.hire =
        { s.hire with
          state := .claiming
          record := some
            { h with
              clmRef := some s.line.nextRef
              answer := some
                { status := .good, plan := l.card.plan, allowance := 1, bikesOut := 0, spend := 0, minSequence := 0
                  unverified := true } } } ∧
      ∃ q ∈ t.line.queue, q.kind = .clm ∧ q.ref = s.line.nextRef ∧ q.body = be4 l.card.member ++ be1 1)

/-- A lookup that times out fails, or admits the member offline (model's choices: log 2). -/
def Obligations.LookupsEnd : Prop :=
  Claims.LookupFails ∧ Claims.LookupAdmitsOffline

/-- CLAIM_AGE_EXPIRY removes the oldest claim alone. -/
def Claims.OldestClaimAges : Prop :=
  ∀ (s : State) (c : Claim) (rest : List Claim), s.hire.claims = c :: rest →
    exec .claimAgeExpiry s = .next (conclude
      { s.reachMs (c.heard + 30000) with hire := { s.hire with claims := rest } })

/-- CLAIM_WINDOW_EXPIRY: the grant test. The hire is granted only when the member's bikes out, plus the member's claims
ahead of its own in the list, are below the allowance; then the HIRE write of the ride begins and the hire is in
TAGGING. Otherwise it is refused with group 2 and one WDR withdraws the claim. -/
def Claims.GrantTestDecidesTheClaim : Prop :=
  ∀ (s : State) (due : Ms) (h : HireRecord) (a : Answer) (claim : SentClaim) (before after : List Claim) (own : Claim)
    (prior : HireSection) (i : IdSection),
    s.straps.role = .post → s.hire.state = .claiming → s.hire.record = some h → h.kind = .member →
    h.windowAt = some due → h.answer = some a → h.claim = some claim → a.unverified = false →
    s.hire.claims = before ++ own :: after → own.claimant = s.number → own.serial = claim.serial →
    (∀ x ∈ before, ¬ (x.claimant = s.number ∧ x.serial = claim.serial)) →
    s.view.find h.card.member = none → s.line.clash = false → s.copyId = some i → s.copyHire = some prior →
    prior.mark = .closed ∨ prior.mark = .returned → s.bikeLevel < 2 → s.postLevel < 2 → s.tag.requests = [] →
    s.tag.operation = .idle →
    let r := s.reachMs due
    let ahead := (before.filter (fun x => decide (x.member = h.card.member))).length
    let written : HireSection :=
      { mark := .opened, member := h.card.member, plan := a.plan, start := r.presentSecond
        startStation := s.peers.adoptedId, startPost := s.number, startDay := r.today, startSpend := a.spend
        unverified := false, endAt := 0 }
    (a.bikesOut + ahead < a.allowance → completes .claimWindowExpiry s (fun t =>
      t.hire.state = .tagging ∧ t.hire.claims = s.hire.claims ∧
      t.tag.operation =
        .write { contents := .hire written, requester := .hire, ref := s.tag.nextRef } false false false r.clock.ms ∧
      ∃ u, t.hire.record = some u ∧ u.written = some written ∧ u.prior = some prior ∧ u.bike = some i ∧
        u.writeRef = some s.tag.nextRef ∧ u.claim = some claim ∧ u.card = h.card)) ∧
    (a.allowance ≤ a.bikesOut + ahead → s.line.queue.length < 8 → s.barred = false → s.van.window = none →
      (∀ e ∈ s.line.queue, e.ref < s.line.nextRef) →
      completes .claimWindowExpiry s (fun t =>
        t.hire = { s.hire with state := .idle, record := none } ∧ t.tag = s.tag ∧
        t.dock.refusal = some { flashes := 2, endAt := r.clock.ms + 3000 } ∧
        ∃ q ∈ t.line.queue, q.kind = .wdr ∧ q.body = [claim.serial] ++ be4 h.card.member))

/-- The grant test of a member the view holds (R113, R115): a status other than GOOD refuses with group 2; the bikes out
and the day spend are those of the entry as it stands, so that the ride's HIRE is written with its spend as read today
when its bikes out plus the claims ahead are below the allowance of the CLM, and group 2 refuses it otherwise. -/
def Claims.GrantTestReadsTheView : Prop :=
  ∀ (s : State) (due : Ms) (h : HireRecord) (a : Answer) (claim : SentClaim) (e : ViewEntry)
    (prior : HireSection) (i : IdSection),
    s.straps.role = .post → s.hire.state = .claiming → s.hire.record = some h → h.kind = .member →
    h.windowAt = some due → h.answer = some a → h.claim = some claim → a.unverified = false →
    s.hire.claims.head?.map (fun c => (c.claimant, c.serial)) = some (s.number, claim.serial) →
    s.view.find h.card.member = some e → s.line.clash = false → s.copyId = some i → s.copyHire = some prior →
    prior.mark = .closed ∨ prior.mark = .returned → s.bikeLevel < 2 → s.postLevel < 2 → s.tag.requests = [] →
    s.tag.operation = .idle → s.timeUnset = false →
    let r := s.reachMs due
    (e.status ≠ .good ∨ a.allowance ≤ e.bikesOut → completes .claimWindowExpiry s (fun t =>
      t.hire = { s.hire with state := .idle, record := none } ∧ t.tag = s.tag ∧ t.view = s.view ∧
      t.dock.refusal = some { flashes := 2, endAt := r.clock.ms + 3000 })) ∧
    (e.status = .good → e.bikesOut < a.allowance → completes .claimWindowExpiry s (fun t =>
      t.hire.state = .tagging ∧ t.view = s.view ∧
      ∃ w : HireSection, w.mark = .opened ∧ w.member = h.card.member ∧ w.plan = a.plan ∧
        w.start = r.presentSecond ∧ w.startSpend = (if r.today ≤ e.day then e.spend else 0) ∧
        t.tag.operation =
          .write { contents := .hire w, requester := .hire, ref := s.tag.nextRef } false false false r.clock.ms))

/-- The oldest claim ages, and the grant test decides a claim, by the view's entry where it holds one (model's choices:
log 2, 21). -/
def Obligations.ClaimsAgeAndAreGranted : Prop :=
  Claims.OldestClaimAges ∧ Claims.GrantTestDecidesTheClaim ∧ Claims.GrantTestReadsTheView

/-- The HIRE write answered WRITTEN in TAGGING (SECTION_READ_COMPLETE) with both fault levels below 2 and the release
accepted: the hire is RELEASING, the bolt OPENING with the coil in PULL-IN, its timers running from this instant. -/
def Claims.WrittenHireReleasesTheBolt : Prop :=
  ∀ (bytes : List Byte) (s : State) (w : WriteRequest) (second : Bool) (issued : Ms) (h : HireRecord)
    (section_ : HireSection) (code : BitVec 10),
    s.tag.operation = .write w second true true issued → w.contents = .hire section_ → w.requester = .hire →
    bytes = sectionBytes w.contents → s.tag.requests = [] → s.hire.state = .tagging → s.hire.record = some h →
    h.writeRef = some w.ref → h.kind = .member → s.bikeLevel < 2 → s.postLevel < 2 → s.dock.selfTest = none →
    s.dock.bolt = .closed → s.dock.sensorOpen = false → s.dock.coil = .off → s.dock.ch2.last = some code →
    648 ≤ code.toNat →
    let now := (s.reachMs (issued + 15)).clock.ms
    completes (.sectionReadComplete bytes) s (fun t =>
      t.hire = { s.hire with state := .releasing } ∧ t.tag.operation = .idle ∧
      t.tag.copy = { s.tag.copy with hire := .good section_ } ∧
      t.dock.bolt = .opening ∧ t.dock.coil = .pullIn ∧ t.dock.release = true ∧ t.dock.seenOpen = false ∧
      t.dock.pullInEndAt = some (now + 80) ∧ t.dock.ch0At = some (now + 40) ∧ t.dock.openCheckAt = some (now + 150) ∧
      t.dock.takeWindowAt = some (now + 20000) ∧ ({ tag := true, hire := true, dock := true } : Touched).frame s t)

/-- SETTLE_TIMER_EXPIRY: a count of 6 or more takes the bike back, the hire is in CANCELLING and the prior HIRE is being
written; a lower count is a take: the hire ends, the bike has left and one HIR is queued. -/
def Claims.SettleTimerDecidesByTheCount : Prop :=
  ∀ (s : State) (due : Ms) (h : HireRecord) (claim : SentClaim) (prior w : HireSection) (bike : IdSection),
    s.straps.role = .post → s.hire.state = .releasing → s.hire.record = some h → h.kind = .member →
    h.settleAt = some due → h.claim = some claim → h.prior = some prior → h.written = some w → h.bike = some bike →
    s.dock.docked = true → s.copyHeld = true → s.tag.requests = [] → s.tag.operation = .idle →
    let now := (s.reachMs due).clock.ms
    (6 ≤ s.dock.count → completes .settleTimerExpiry s (fun t =>
      t.hire.state = .cancelling ∧
      t.hire.record = some { h with settleAt := none, writeRef := some s.tag.nextRef } ∧
      t.tag.operation =
        .write { contents := .hire prior, requester := .hire, ref := s.tag.nextRef } false false false now ∧
      t.dock.docked = true)) ∧
    (s.dock.count < 6 → s.refusesOffer .hir = false → s.line.queue.length < 8 → s.van.window = none →
      (∀ e ∈ s.line.queue, e.ref < s.line.nextRef) → completes .settleTimerExpiry s (fun t =>
        t.hire = { s.hire with state := .idle, record := none } ∧ t.dock.docked = false ∧ t.tag.copy.state = .empty ∧
        ∃ q ∈ t.line.queue, q.kind = .hir ∧
          q.body = hirBody claim.serial h.card.member bike.bikeId w.start w.plan w.unverified
            (decide (bike.kind = .ebike)) h.summary))

/-- The end of a HIRE write that the hire waits for (SECTION_READ_COMPLETE, NO_TAG). In TAGGING a failed write refuses the
hire with group 3, and one WDR withdraws the claim (R116). In CANCELLING the hire ends without a refusal display and
with one WDR, WRITTEN with the prior HIRE in the copy or failed with the copy unchanged (R122). A failed write holds
the TAG mark. -/
def Claims.HireWritesEnd : Prop :=
  ∀ (bytes : List Byte) (s : State) (w : WriteRequest) (second : Bool) (issued : Ms) (h : HireRecord)
    (section_ : HireSection) (c : SentClaim),
    w.contents = .hire section_ → w.requester = .hire → s.tag.requests = [] → s.hire.record = some h →
    h.writeRef = some w.ref → h.kind = .member → h.claim = some c → s.straps.role = .post → s.barred = false →
    s.line.clash = false → s.line.queue.length ≤ 3 → (∀ e ∈ s.line.queue, e.ref < s.line.nextRef) →
    let wdr (t : State) : Prop :=
      ∃ q ∈ t.line.queue, q.kind = .wdr ∧ q.body = [c.serial] ++ be4 h.card.member
    let ended (t : State) : Prop := t.hire = { s.hire with state := .idle, record := none } ∧ wdr t
    let refused (now : Ms) (t : State) : Prop :=
      t.dock.refusal = some { flashes := 3, endAt := now + 3000 } ∧ t.fault.tagMark = true ∧ t.tag.copy = s.tag.copy
    (s.tag.operation = .write w true true true issued → bytes ≠ sectionBytes w.contents →
      (s.hire.state = .tagging → completes (.sectionReadComplete bytes) s (fun t =>
        ended t ∧ refused (s.reachMs (issued + 15)).clock.ms t)) ∧
      (s.hire.state = .cancelling → completes (.sectionReadComplete bytes) s (fun t =>
        ended t ∧ t.dock.refusal = s.dock.refusal ∧ t.fault.tagMark = true ∧ t.tag.copy = s.tag.copy))) ∧
    (∀ back, s.tag.operation = .write w second back false issued → s.hire.state = .tagging →
      completes .noTag s (fun t => ended t ∧ refused (s.reachMs (issued + 5)).clock.ms t)) ∧
    (s.tag.operation = .write w second true true issued → bytes = sectionBytes w.contents →
      s.hire.state = .cancelling → completes (.sectionReadComplete bytes) s (fun t =>
        ended t ∧ t.dock.refusal = s.dock.refusal ∧ t.tag.copy = { s.tag.copy with hire := .good section_ } ∧
        t.tag.operation = .idle ∧ t.fault = s.fault))

/-- A written hire releases the bolt, the settle timer decides by the count, and HIRE writes end a hire (model's choices:
log 2). -/
def Obligations.HiresReleaseAndSettle : Prop :=
  Claims.WrittenHireReleasesTheBolt ∧ Claims.SettleTimerDecidesByTheCount ∧ Claims.HireWritesEnd

/-! ### Settlement, faults and van windows (chapters 8 to 10) -/

/-- Every rated fare lies in 0..999,999 when the overdue fee does; RATED it exceeds neither a ride cap that is set nor the
room under a day cap that is set; the new day spend is the spend at start plus the charge, to 999,999 at most, on the
day of the start. -/
def Claims.FaresStayWithinTheCaps : Prop :=
  ∀ i : RatingInputs, i.plan.overdueFee ≤ 999999 →
    ∃ charge, (rate i).fare = .charge charge ∧ charge ≤ 999999 ∧
      ((rate i).reason = .rated →
        (i.plan.rideCap ≠ 0 → charge ≤ i.plan.rideCap) ∧
        (i.plan.dayCap ≠ 0 → charge ≤ i.plan.dayCap - i.startSpend)) ∧
      (rate i).newSpend = min (i.startSpend + charge) 999999 ∧ (rate i).day = i.start / 86400 ∧
      (rate i).version = i.version ∧
      ((rate i).reason = .rated ∨ (rate i).reason = .grace ∨ (rate i).reason = .overdue)

/-- The three ways a ride is priced: within the grace at its start post nothing; above a day the overdue fee, whatever the
caps; otherwise (R141, R142) M = ceiling(T / 60) minutes less the free minutes F make Q, N = ceiling(Q / B) blocks
follow, and block k begins at S + 60 F + 60 B k: its rate is the plan's for the class of the last band whose start is
at or below that minute of day, plus the surcharge for an e-bike. The sum, at 999,999 at most, is held by a ride cap
and then by the room under a day cap. A band table that R136 takes has a last such band for every minute. -/
def Claims.RidesArePricedByBlocks : Prop :=
  ∀ i : RatingInputs,
    let t := i.end_ - i.start
    (i.atStartPost = true → t ≤ i.plan.grace → (rate i).fare = .charge 0 ∧ (rate i).reason = .grace) ∧
    (i.atStartPost = false ∨ i.plan.grace < t → 86400 < t →
      (rate i).fare = .charge i.plan.overdueFee ∧ (rate i).reason = .overdue) ∧
    (i.atStartPost = false ∨ i.plan.grace < t → t ≤ 86400 → (rate i).reason = .rated) ∧
    (i.atStartPost = false ∨ i.plan.grace < t → t ≤ 86400 →
      let q := (t + 59) / 60 - i.plan.freeMinutes
      let n := (q + i.plan.blockMinutes - 1) / i.plan.blockMinutes
      let minute (k : Nat) : Nat := (i.start + 60 * i.plan.freeMinutes + 60 * i.plan.blockMinutes * k) % 86400 / 60
      let rateOf (band : Band) : Nat :=
        (match band.cls with
         | .a => i.plan.rateA
         | .b => i.plan.rateB
         | .c => i.plan.rateC
         | .d => i.plan.rateD) + (if i.ebike = true then i.plan.surcharge else 0)
      ∀ band : Nat → Band,
        (∀ k, k < n → ∃ earlier later, i.bands = earlier ++ band k :: later ∧ (band k).start ≤ minute k ∧
          ∀ x ∈ later, minute k < x.start) →
        let sum := min (((List.range n).map (fun k => rateOf (band k))).sum) 999999
        let ride := if i.plan.rideCap = 0 then sum else min sum i.plan.rideCap
        (rate i).fare = .charge (if i.plan.dayCap = 0 then ride else min ride (i.plan.dayCap - i.startSpend))) ∧
    (bandTableGood i.bands = true → ∀ m : Nat, ∃ earlier band later,
      i.bands = earlier ++ band :: later ∧ band.start ≤ m ∧ ∀ x ∈ later, m < x.start)

/-- Fares: within the caps, by grace, overdue or blocks. -/
def Obligations.RidesArePriced : Prop :=
  Claims.FaresStayWithinTheCaps ∧ Claims.RidesArePricedByBlocks

/-- GATHERING_EXPIRY: a slot that lacks TIME, or else TARIFF, is settled UNRATED with that reason, the spend at start and
version 0, the day index being that of the start (model's choice: log 34); its STL is queued, the write-back decided,
and the slot is FREE. -/
def Claims.GatheringExpirySettlesUnrated : Prop :=
  ∀ (name : SlotName) (s : State) (r : ReturnRecord) (time tariff station : Bool) (due : Ms),
    s.settle.slot name = some { record := r, phase := .gathering time tariff station due } →
    time = true ∨ tariff = true → s.straps.role = .post → s.barred = false → s.line.queue.length < 8 →
    s.copyHeld = false → (∀ e ∈ s.line.queue, e.ref < s.line.nextRef) →
    completes (.gatheringExpiry name) s (fun t =>
      t.settle.slot name = none ∧ t.tag = s.tag ∧ t.settle.active = s.settle.active ∧
      ∃ q ∈ t.line.queue, q.kind = .stl ∧
        q.body = stlBody
          { member := r.member, bikeId := r.bikeId, hireStation := r.startStation, start := r.start
            end_ := endSecond r.end_, fare := .unrated, reason := if time = true then .time else .tariff, version := 0
            newSpend := r.startSpend, day := r.start / 86400, ebike := r.ebike })

/-- GATHERING_EXPIRY with STATION alone missing: the slot rates with the tariff in force, not at its start post. -/
def Claims.GatheringExpiryWithoutStationRates : Prop :=
  ∀ (name : SlotName) (s : State) (r : ReturnRecord) (due : Ms) (ms : Nat) (plan : PlanRecord),
    s.settle.slot name = some { record := r, phase := .gathering false false true due } →
    r.end_ = .known ms → s.settle.active.planRecord r.plan = some plan → s.peers.adoptedId = 0 →
    completes (.gatheringExpiry name) s (fun t =>
      t.settle.slot name = some
        { record := r
          phase := .rating
            { start := r.start, end_ := ms / 1000, plan := plan, bands := s.settle.active.bandTable
              version := s.settle.active.version, startSpend := r.startSpend, ebike := r.ebike, atStartPost := false }
            ((s.reachMs due).clock.ms + 2) } ∧
      ({ settle := true } : Touched).frame s t)

/-- RATING_COMPLETE, with no tariff waiting for its swap: the slot is DONE with the priced settlement and offers its STL.
Queued, the slot is FREE; refused, it stays DONE, offers again 250 ms later and gives up 30,000 ms later. -/
def Claims.RatingCompleteOffersTheSettlement : Prop :=
  ∀ (name : SlotName) (s : State) (r : ReturnRecord) (inputs : RatingInputs) (due : Ms),
    s.settle.slot name = some { record := r, phase := .rating inputs due } → s.straps.role = .post →
    s.settle.staging.complete = false →
    (s.barred = false → s.line.queue.length < 8 → s.copyHeld = false →
      (∀ e ∈ s.line.queue, e.ref < s.line.nextRef) →
      completes (.ratingComplete name) s (fun t =>
        t.settle.slot name = none ∧ t.tag = s.tag ∧
        ∃ q ∈ t.line.queue, q.kind = .stl ∧ q.body = stlBody (stlValues r (rate inputs)))) ∧
    (s.barred = true → completes (.ratingComplete name) s (fun t =>
      t.settle.slot name = some
        { record := r
          phase := .done (rate inputs) (some ((s.reachMs due).clock.ms + 250)) ((s.reachMs due).clock.ms + 30000) } ∧
      ({ settle := true } : Touched).frame s t))

/-- STL_RETRY_EXPIRY offers a DONE slot's STL again, and STL_ABANDON gives it up: a slot queued or abandoned decides its
write-back, which with the same bike's tag HELD and the hire IDLE writes the settlement, and is FREE. The STL and the
write-back carry the end the settlement was made with, whatever back-dating has made of the record's since (log 31). -/
def Claims.DoneSlotsEnd : Prop :=
  ∀ (name : SlotName) (s : State) (r : ReturnRecord) (v : Settlement) (retry : Option Ms) (abandon : Ms) (i : IdSection),
    s.settle.slot name = some { record := r, phase := .done v retry abandon } → s.straps.role = .post →
    s.copyId = some i → i.bikeId = r.bikeId → s.hire.state = .idle → s.tag.operation = .idle → s.tag.requests = [] →
    let written (now : Ms) : TagOperation :=
      .write
        { contents := .last (some { fare := v.fare, reason := v.reason, endAt := v.endAt, tariff := v.version })
          requester := .settlement, ref := s.tag.nextRef } false false false now
    completes (.stlAbandon name) s (fun t =>
      t.settle.slot name = none ∧ t.tag.operation = written (s.reachMs abandon).clock.ms ∧
      ({ settle := true, tag := true } : Touched).frame s t) ∧
    (∀ due, retry = some due → s.barred = false → s.line.queue.length < 8 →
      (∀ e ∈ s.line.queue, e.ref < s.line.nextRef) →
      completes (.stlRetryExpiry name) s (fun t =>
        t.settle.slot name = none ∧ t.tag.operation = written (s.reachMs due).clock.ms ∧
        (∃ q ∈ t.line.queue, q.kind = .stl ∧ q.body = stlBody
          { member := r.member, bikeId := r.bikeId, hireStation := r.startStation, start := r.start, end_ := v.endAt
            fare := v.fare, reason := v.reason, version := v.version, newSpend := v.newSpend, day := v.day
            ebike := r.ebike }) ∧ ({ settle := true, tag := true } : Touched).frame s t)) ∧
    (∀ due, retry = some due → s.barred = true →
      completes (.stlRetryExpiry name) s (fun t =>
        t.settle.slot name = some
          { record := r, phase := .done v (some ((s.reachMs due).clock.ms + 250)) abandon } ∧ t.tag = s.tag))

/-- A settlement slot from GATHERING to FREE (model's choices: log 2, 31, 34). -/
def Obligations.SettlementSlotsEnd : Prop :=
  Claims.GatheringExpirySettlesUnrated ∧ Claims.GatheringExpiryWithoutStationRates ∧
  Claims.RatingCompleteOffersTheSettlement ∧ Claims.DoneSlotsEnd

/-- Escalation: an entry's level is 2 when its class is a report class of which two entries stand with nonzero, distinct
reporters, whatever their sources, and its stored level otherwise. The bike fault level with a bike docked is the
least that no entry so raised and no held mark exceeds (TAG, FLAT and DUPLICATE count 2, LOW-CHARGE 1), and 0 without
one. -/
def Obligations.EscalationRaisesTheLevel : Prop :=
  (∀ (entries : List FaultEntry) (e : FaultEntry),
    (1 ≤ e.cls → e.cls ≤ 5 →
      (∃ a ∈ entries, ∃ b ∈ entries, a.cls = e.cls ∧ b.cls = e.cls ∧ a.reporter ≠ 0 ∧ b.reporter ≠ 0 ∧
        a.reporter ≠ b.reporter) → raisedLevel entries e = 2) ∧
    ((¬ ∃ a ∈ entries, ∃ b ∈ entries, a.cls = e.cls ∧ b.cls = e.cls ∧ a.reporter ≠ 0 ∧ b.reporter ≠ 0 ∧
        a.reporter ≠ b.reporter) ∨ e.cls = 0 ∨ 5 < e.cls → raisedLevel entries e = e.level)) ∧
  (∀ s : State,
    (s.dock.docked = true → s.tag.copy.state = .held ∨ s.tag.copy.state = .noTag → ∀ n,
      (s.bikeLevel ≤ n ↔
        (∀ e ∈ s.workingList, raisedLevel s.workingList e ≤ n) ∧ (s.fault.tagMark = true → 2 ≤ n) ∧
        (s.fault.lowCharge = true → 1 ≤ n) ∧ (s.fault.flat = true → 2 ≤ n) ∧ (s.fault.duplicate = true → 2 ≤ n))) ∧
    (s.dock.docked = false → s.bikeLevel = 0))

/-- The ranking of a COLLECT window: bike fault level, highest first; docked-since, earliest first with 0 after every
other value; station number, lowest first. The order is total over distinct stations and strict. The post ranks itself
by the keys its own beacon would carry, and a peer by its last beacon; its rank is 1 exactly when no candidate stands
before it, and otherwise one more than the candidates that do. -/
def Obligations.CollectRankingIsTheRuleOrder : Prop :=
  (∀ a b : RankKeys, ranksBefore .collect a b = true ↔
    b.level < a.level ∨ (a.level = b.level ∧
      ((a.since ≠ 0 ∧ (b.since = 0 ∨ a.since < b.since)) ∨ (a.since = b.since ∧ a.station < b.station)))) ∧
  (∀ a b : RankKeys, a.station ≠ b.station →
    (ranksBefore .collect a b = true ↔ ranksBefore .collect b a = false)) ∧
  (∀ a b c : RankKeys, ranksBefore .collect a b = true → ranksBefore .collect b c = true →
    ranksBefore .collect a c = true) ∧
  (∀ s : State, s.isPost = true →
    s.ownKeys = { level := s.ownBeacon.bikeFault, since := s.ownBeacon.dockedSince, station := s.number }) ∧
  (∀ (s : State) (n : Nat) (b : Beacon), (s.storedPeer n).beacon = some b →
    s.peerKeys n = { level := b.bikeFault, since := b.dockedSince, station := n }) ∧
  (∀ (s : State) (w : VanWindow), w.mode = .collect →
    s.ownRank w =
      1 + ((List.range 32).filter (fun n =>
        s.peerCandidate w n && ranksBefore .collect (s.peerKeys n) s.ownKeys)).length)

/-- An entry's day spend is read as stored while its day is today or later and while time is UNSET, and as 0 when its day
is past. The card reading and the OPEN write read it so, and a reading leaves the entry as stored. -/
def Obligations.DaySpendIsReadByTheDay : Prop :=
  ∀ (s : State) (e : ViewEntry),
    (s.time.quality = .unset ∨ s.today ≤ e.day → s.daySpend e = e.spend) ∧
    (s.time.quality ≠ .unset → e.day < s.today → s.daySpend e = 0) ∧
    (∀ a, (s.cardReading e.member).2 = some a → s.view.find e.member = some e → a.spend = s.daySpend e) ∧
    (s.view.find e.member = some e → s.time.quality ≠ .unset →
      (s.cardReading e.member).1.view.find e.member = some e) ∧
    (∀ a, s.view.find e.member = some e → a.unverified = false → s.openSpend e.member a = s.daySpend e)

/-! ### The local port and the formats (chapters 11 and 12) -/

/-- The bits of a byte (R1, R190, Table 1-1). On the line a station drives each byte of its frame as 11 bit-times: the
start bit dominant, the eight data bits least significant first (dominant for 0), the mark recessive on the first
character alone, the stop bit recessive; with nothing in transmission it drives nothing. Eleven levels so sent are
read back as the character. At the local port each byte shifted out goes most significant bit first. -/
def Obligations.BytesAreSentAsBits : Prop :=
  (∀ (s : State) (x : Transmission) (j p : Nat) (data : Byte), s.line.tx = some x → x.bytes[j]? = some data → p < 11 →
    usBetween x.start s.clock / s.bitUs = 11 * j + p →
    (p = 0 → s.lineDriven = false) ∧ (1 ≤ p → p ≤ 8 → s.lineDriven = data.getLsbD (p - 1)) ∧
    (p = 9 → s.lineDriven = decide (j = 0)) ∧ (p = 10 → s.lineDriven = true)) ∧
  (∀ s : State, s.line.tx = none → s.lineDriven = true) ∧
  (∀ (mark : Bool) (data : Byte),
    characterOf (characterLevels mark data) = { data := data, mark := mark, stopGood := true }) ∧
  (∀ bytes : List Byte, (frameLevels bytes).length = bytes.length * 11) ∧
  (∀ (s : State) (j p : Nat) (data : Byte), s.port.shiftedOut[j]? = some data → p < 8 →
    s.port.bitsOut[8 * j + p]? = some (data.getLsbD (7 - p)))

/-- The role test, at every request of a station that is no post: in a role that Table 11-3 does not give for the request
the answer is REFUSED-ROLE and nothing else changes. A post's port takes no request. -/
def Claims.RequestsAreRefusedByRole : Prop :=
  ∀ (body : List Byte) (s : State),
    let refused (i : Instr) : Prop := completes i s (fun t =>
      t.port =
        { s.port with
          response := some { bytes := responseBytes .refusedRole [], carried := .nothing }, readMark := false
          shiftedOut := List.replicate (4 + body.length) 0xFF } ∧
      ({ port := true } : Touched).frame s t)
    (s.straps.role = .van ∨ s.straps.role = .monitor →
      refused (.stationSet body) ∧ refused (.timeSet body) ∧ refused (.tariffLoad body) ∧
      refused (.tariffCommit body) ∧ refused (.memberPush body) ∧ refused (.faultClear body)) ∧
    (s.straps.role = .terminal ∨ s.straps.role = .monitor →
      refused (.vanOpen body) ∧ refused (.vanClose body)) ∧
    (s.straps.role = .post → s.settled → ∀ i ∈ [Instr.status body, .peerRead body, .stationSet body, .timeSet body,
      .tariffLoad body, .tariffCommit body, .memberPush body, .faultClear body, .vanOpen body, .vanClose body,
      .eventRead body, .unknownRequest body], exec i s = .next s)

/-- UNKNOWN_REQUEST: a transaction that is no well-formed record is answered BAD-CHECK, one of an unknown kind
REFUSED-RANGE, and neither changes anything but the response buffer. -/
def Claims.UnknownRequestIsRefused : Prop :=
  ∀ (kind : Byte) (rest : List Byte) (s : State), s.straps.role ≠ .post → kind ≠ 0x80 →
    let answered (status : PortStatus) : Prop :=
      exec (.unknownRequest (kind :: rest)) s = .next (conclude
        { s with
          port := { s.port with
            response := some { bytes := responseBytes status [], carried := .nothing }, readMark := false
            shiftedOut := List.replicate (rest.length + 1) 0xFF } })
    (requestWellFormed (kind :: rest) = false → answered .badCheck) ∧
    (requestWellFormed (kind :: rest) = true → kind.toNat = 0 ∨ 11 < kind.toNat → answered .refusedRange)

/-- The requests that read: STATUS, PEER_READ and EVENT_READ are answered at once from the state as it stands and change
nothing but the response buffer; EVENT_READ answers the oldest event with the number behind it, and leaves the queue.
The bodies are those of Tables 12-8 and 12-9, field by field; the window serial of a STATUS without an open window,
heard bytes without a heard time and the codes of the overflow byte are the model's choices (logs 37, 38, 39). No
event has the cause SILENT (R177). -/
def Claims.ReadingRequestsAreAnswered : Prop :=
  ∀ (s : State), s.straps.role ≠ .post →
    let answered (i : Instr) (status : PortStatus) (body : List Byte) (carried : Carried) (count : Nat) : Prop :=
      exec i s = .next (conclude
        { s with
          port := { s.port with
            response := some { bytes := responseBytes status body, carried := carried }, readMark := false
            shiftedOut := List.replicate count 0xFF } })
    let window := if s.straps.role = .van then s.van.window else none
    answered (.status []) .ok
      (be1 (match s.straps.role with
          | .post => 0
          | .terminal => 1
          | .van => 2
          | .monitor => 3) ++
        be1 s.number ++ be2 (if s.straps.role = .terminal then s.terminal.stationId else s.peers.adoptedId) ++
        be1 (match s.time.quality with
          | .unset => 0
          | .set => 1
          | .stale => 2) ++
        be2 (if s.straps.role = .terminal then s.terminal.active.version else 0) ++
        be2 (if s.straps.role = .terminal then s.terminal.staging.version else 0) ++ be1 s.port.events.length ++
        be1 (if s.port.overflow = true then 1 else 0) ++
        (match window with
          | some w => be1 1 ++ be1 w.serial
          | none => be1 0 ++ be1 0)) (.status false) 4 ∧
    (∀ n, n ≤ 31 →
      let p := s.peerEntry n
      answered (.peerRead (be1 n)) .ok
        (be1 n ++
          be1 (match p.state with
            | .absent => 0
            | .live => 1
            | .silent => 2) ++
          be1 ((if p.beacon = none then 0 else 1) + (if p.heard = none then 0 else 2)) ++
          (match p.heard with
            | some at_ => be4 at_.toNat
            | none => be4 0) ++
          (match p.beacon with
            | some b => bcnBody b
            | none => be1 0xFF ++ List.replicate 18 0)) .nothing 5) ∧
    (∀ n, 31 < n → n < 256 → answered (.peerRead (be1 n)) .refusedRange [] .nothing 5) ∧
    (s.port.events = [] → answered (.eventRead []) .ok [] .nothing 4) ∧
    (∀ e behind, s.port.events = e :: behind →
      answered (.eventRead []) .ok
        (let event (code : Nat) (data : List Byte) : List Byte :=
          be1 behind.length ++ be1 code ++ be4 e.at_.toNat ++ data
         match e.body with
          | .lookup sender member sequence none =>
            event 1 (be1 sender ++ be4 member ++ be1 sequence ++ be1 0 ++ List.replicate 18 0)
          | .lookup sender member sequence (some v) =>
            event 1 (be1 sender ++ be4 member ++ be1 sequence ++ be1 1 ++ mbrBody v)
          | .hire sender body => event 2 (be1 sender ++ body)
          | .settle sender body => event 3 (be1 sender ++ body)
          | .fault sender body => event 4 (be1 sender ++ body)
          | .vanTake sender body => event 5 (be1 sender ++ body)
          | .peerChange station state changed =>
            event 6 (be1 station ++
              be1 (match state with
                | .absent => 0
                | .live => 1
                | .silent => 2) ++ be1 (if changed = true then 1 else 0))
          | .offer serial station bike rank => event 7 (be1 serial ++ be1 station ++ be4 bike ++ be1 rank)
          | .windowClosed serial crew cause =>
            event 8 (be1 serial ++ be4 crew ++
              be1 (match cause with
                | .vcl => 0
                | .expiry => 1
                | .newVop => 2
                | .silent => 3))
          | .heard kind sender serial body =>
            event 9 (be1 kind.code ++ be1 sender ++ [serial] ++ be1 body.length ++ body)) .event 4)

/-- READ_TRANSACTION: a response whose every byte is clocked out is read: its mark is set and the buffer is empty, a
STATUS then clears the overflow mark unless an event was dropped since, and an event leaves the queue. A shorter read
leaves the response unread. With no response held filler alone is shifted out. -/
def Claims.ReadTransactionEmptiesTheBuffer : Prop :=
  ∀ (count : Nat) (s : State), s.straps.role ≠ .post →
    (∀ r, s.port.response = some r → r.bytes.length ≤ count → exec (.readTransaction count) s = .next (conclude
      { s with
        port := {
          response := none, readMark := true
          events := if r.carried = .event then s.port.events.drop 1 else s.port.events
          overflow := if r.carried = .status false then false else s.port.overflow
          shiftedOut := r.bytes ++ List.replicate (count - r.bytes.length) 0xFF } })) ∧
    (∀ r, s.port.response = some r → count < r.bytes.length → exec (.readTransaction count) s = .next (conclude
      { s with port := { s.port with shiftedOut := r.bytes.take count } })) ∧
    (s.port.response = none → exec (.readTransaction count) s = .next (conclude
      { s with port := { s.port with shiftedOut := List.replicate count 0xFF } }))

/-- Requests by role, the requests that read, unknown ones, and the reading of a response (model's choices: log 10, 23,
37, 38, 39). -/
def Obligations.RequestsAreAnswered : Prop :=
  Claims.RequestsAreRefusedByRole ∧ Claims.UnknownRequestIsRefused ∧ Claims.ReadingRequestsAreAnswered ∧
  Claims.ReadTransactionEmptiesTheBuffer

/-- STATION_SET at the terminal: a nonzero id is set once and kept, later ones are REFUSED-STATE, and 0 is REFUSED-RANGE.
The request shifts out six bytes of filler (R180; model's choice: log 10). -/
def Claims.StationSetOnce : Prop :=
  ∀ (id : Nat) (s : State), s.straps.role = .terminal → id < 65536 →
    let answered (status : PortStatus) (stationId : Nat) : Prop :=
      exec (.stationSet (be2 id)) s = .next (conclude
        { s with
          terminal := { s.terminal with stationId := stationId }
          port := { s.port with
            response := some { bytes := responseBytes status [], carried := .nothing }, readMark := false
            shiftedOut := List.replicate 6 0xFF } })
    (id ≠ 0 → s.terminal.stationId = 0 → answered .ok id) ∧
    (id ≠ 0 → s.terminal.stationId ≠ 0 → answered .refusedState s.terminal.stationId) ∧
    (id = 0 → answered .refusedRange s.terminal.stationId)

/-- TIME_SET at the terminal with 999 milliseconds or fewer is adopted at the present local ms, and the TIM timer restarts
at 10,000 ms. With no TIM waiting one is queued (OK), or refused by a full queue (LINE-BUSY); a TIM that waits is
enough. -/
def Claims.TimeSetIsAdopted : Prop :=
  ∀ (seconds millis : Nat) (s : State), s.straps.role = .terminal → seconds < 2 ^ 32 → millis ≤ 999 →
    let adopted (t : State) : Prop :=
      t.time.base = some { localMs := s.clock.ms, schemeMs := seconds * 1000 + millis } ∧ t.time.quality = .set ∧
      t.time.staleAt = some (s.clock.ms + 86400000) ∧ t.terminal = { s.terminal with timAt := some (s.clock.ms + 10000) }
    let answer (t : State) (status : PortStatus) : Prop :=
      t.port.response = some { bytes := responseBytes status [], carried := .nothing }
    (s.timQueued = true → completes (.timeSet (be4 seconds ++ be2 millis)) s (fun t => adopted t ∧ answer t .ok)) ∧
    (s.timQueued = false → s.line.queue.length < 8 → completes (.timeSet (be4 seconds ++ be2 millis)) s (fun t =>
      adopted t ∧ answer t .ok ∧ ∃ q ∈ t.line.queue, q.kind = .tim ∧ q.ref = s.line.nextRef)) ∧
    (s.timQueued = false → s.line.queue.length = 8 → (∀ e ∈ s.line.queue, e.kind.cls = 2) →
      completes (.timeSet (be4 seconds ++ be2 millis)) s (fun t => adopted t ∧ answer t .lineBusy))

/-- The terminal's send timers. TIM_TIMER_EXPIRY keeps its 10,000 ms and queues a TIM while the quality is SET and none
waits; TRF_CYCLE_EXPIRY keeps its 6,000 ms, queues the active tariff's piece at the cycle's index, and the index goes
on from 8 to 0. -/
def Claims.TerminalTimersSend : Prop :=
  ∀ (s : State) (due : Ms), s.straps.role = .terminal → s.line.queue.length < 8 →
    (∀ e ∈ s.line.queue, e.ref < s.line.nextRef) →
    (s.terminal.timAt = some due → s.time.quality = .set → s.timQueued = false →
      completes .timTimerExpiry s (fun t =>
        t.terminal = { s.terminal with timAt := some (due + 10000) } ∧
        (∃ q ∈ t.line.queue, q.kind = .tim ∧ q.ref = s.line.nextRef) ∧
        ({ terminal := true } : Touched).frame s t)) ∧
    (s.terminal.timAt = some due → s.time.quality ≠ .set ∨ s.timQueued = true →
      exec .timTimerExpiry s = .next (conclude
        { s.reachMs due with terminal := { s.terminal with timAt := some (due + 10000) } })) ∧
    (∀ piece, s.terminal.trfAt = some due → s.terminal.active.pieces.getD s.terminal.trfIndex none = some piece →
      completes .trfCycleExpiry s (fun t =>
        t.terminal =
          { s.terminal with trfAt := some (due + 6000), trfIndex := (s.terminal.trfIndex + 1) % 9 } ∧
        (∃ q ∈ t.line.queue, q.kind = .trf ∧
          q.body = trfBody s.terminal.active.version s.terminal.trfIndex piece) ∧
        ({ terminal := true } : Touched).frame s t))

/-- TARIFF_LOAD stages a piece whose tests it passes by the versions held, and queues it as a TRF; TARIFF_COMMIT makes a
staging of all nine pieces the active tariff, restarts the cycle at piece 0 and starts its timer once. -/
def Claims.TariffIsLoadedAndCommitted : Prop :=
  ∀ (body : List Byte) (s : State), s.straps.role = .terminal →
    let answer (t : State) (status : PortStatus) : Prop :=
      t.port.response = some { bytes := responseBytes status [], carried := .nothing }
    (trfOf body = none → completes (.tariffLoad body) s (fun t =>
      answer t .refusedRange ∧ t.terminal = s.terminal)) ∧
    (∀ v, trfOf body = some v → v.version ≤ s.terminal.active.version ∨ v.version < s.terminal.staging.version →
      completes (.tariffLoad body) s (fun t => answer t .refusedState ∧ t.terminal = s.terminal)) ∧
    (∀ v, trfOf body = some v → s.terminal.active.version < v.version → s.terminal.staging.version ≤ v.version →
      s.line.queue.length < 8 →
      completes (.tariffLoad body) s (fun t =>
        answer t .ok ∧
        t.terminal =
          { s.terminal with
            staging :=
              { version := v.version
                pieces :=
                  (if s.terminal.staging.version < v.version then List.replicate 9 none
                   else s.terminal.staging.pieces).set v.index (some v.piece) } } ∧
        (∃ q ∈ t.line.queue, q.kind = .trf ∧ q.ref = s.line.nextRef) ∧
        ({ terminal := true, port := true } : Touched).frame s t)) ∧
    (s.terminal.staging.complete = true → completes (.tariffCommit []) s (fun t =>
      answer t .ok ∧
      t.terminal =
        { s.terminal with
          active := s.terminal.staging, staging := { version := 0, pieces := List.replicate 9 none }, trfIndex := 0
          trfAt := match s.terminal.trfAt with
            | some at_ => some at_
            | none => some (s.clock.ms + 6000) } ∧
      ({ terminal := true, port := true } : Touched).frame s t)) ∧
    (s.terminal.staging.complete = false → completes (.tariffCommit []) s (fun t =>
      answer t .refusedState ∧ t.terminal = s.terminal ∧ ({ port := true } : Touched).frame s t))

/-- MEMBER_PUSH, FAULT_CLEAR, VAN_OPEN and VAN_CLOSE with their fields in range and room in the queue are answered OK and
queue one notice with those fields; a push also replaces the member's entry in the terminal's view, and an open or a
close leaves the van's window until its notice is sent. -/
def Claims.RequestsQueueTheirNotice : Prop :=
  ∀ (body : List Byte) (s : State), s.line.queue.length < 8 → (∀ e ∈ s.line.queue, e.ref < s.line.nextRef) →
    let done (i : Instr) (kind : Kind) (sent : List Byte) (b : Touched) (P : State → Prop) : Prop :=
      completes i s (fun t =>
        t.port.response = some { bytes := responseBytes .ok [], carried := .nothing } ∧
        (∃ q ∈ t.line.queue, q.kind = kind ∧ q.body = sent ∧ q.ref = s.line.nextRef) ∧ P t ∧ b.frame s t)
    (∀ e, s.straps.role = .terminal → mbrOf body = some e →
      done (.memberPush body) .mbr (mbrBody e) { port := true, view := true }
        (fun t => t.view = s.view.put e)) ∧
    (∀ bike cls, s.straps.role = .terminal → body = be4 bike ++ be1 cls → bike ≠ 0 → bike < 2 ^ 32 →
      cls ∈ [0, 1, 2, 3, 4, 5, 8, 9, 10, 11] →
      done (.faultClear body) .fcl body { port := true } (fun _ => True)) ∧
    (∀ v, s.straps.role = .van → vopOf body = some v → (∀ w, s.van.window = some w → w.serial ≠ v.serial) →
      done (.vanOpen body) .vop (vopBody v) { port := true } (fun t => t.van.window = s.van.window)) ∧
    (∀ w, s.straps.role = .van → s.van.window = some w → body = be1 w.serial → w.serial < 256 →
      done (.vanClose body) .vcl body { port := true } (fun t => t.van.window = some w))

/-- STATION_SET, TIME_SET, the tariff requests, the requests that queue a notice, and the terminal's send timers (model's
choices: log 2, 10). -/
def Obligations.TerminalHoldsTheStation : Prop :=
  Claims.StationSetOnce ∧ Claims.TimeSetIsAdopted ∧ Claims.TerminalTimersSend ∧
  Claims.TariffIsLoadedAndCommitted ∧ Claims.RequestsQueueTheirNotice

/-- A frame is taken as it was built: every kind, every sender 0 to 31, every serial and every body of a length the kind
allows. -/
def Claims.FramesAreTakenAsBuilt : Prop :=
  ∀ (kind : Kind) (sender : Nat) (serial : BitVec 8) (body : List Byte), sender ≤ 31 → bodyAllowed kind body = true →
    frameOf (frameBytes kind sender serial body) =
      some { kind := kind, sender := sender, serial := serial, body := body }

/-- The notices a station reads field by field are read as they were built, at every value their fields admit. -/
def Claims.NoticesAreReadAsBuilt : Prop :=
  (∀ e : ViewEntry, 0 < e.member → e.member < 2 ^ 32 → e.plan ≤ 7 → e.allowance ≤ 4 → e.bikesOut ≤ 15 →
    e.day < 2 ^ 16 → e.spend ≤ 999999 → e.minSequence < 256 → e.updatedAt < 2 ^ 32 → mbrOf (mbrBody e) = some e) ∧
  (∀ v : VopValues, 1 ≤ v.serial → v.serial ≤ 255 → 1 ≤ v.places → v.places ≤ 12 → 0 < v.crew → v.crew < 2 ^ 32 →
    60 ≤ v.seconds → v.seconds ≤ 1800 → vopOf (vopBody v) = some v) ∧
  (∀ b : Beacon, b.role < 256 → b.postState < 256 → b.bikeId < 2 ^ 32 → b.bikeFault < 256 → b.postFault < 256 →
    b.dockedSince < 2 ^ 32 → b.charge < 256 → b.tariff < 2 ^ 16 → b.quality < 256 → b.stationId < 2 ^ 16 →
    bcnOf (bcnBody b) = b)

/-- The tag sections read good with the fields they were written with, at every value in range. -/
def Claims.SectionsAreReadAsWritten : Prop :=
  (∀ h : HireSection, h.member < 2 ^ 32 → h.plan < 256 → h.start < 2 ^ 32 → h.startStation < 2 ^ 16 →
    h.startPost < 256 → h.startDay < 2 ^ 16 → h.startSpend < 2 ^ 24 → h.endAt < 2 ^ 32 → hireRangesGood h = true →
    judgeHire (sectionBytes (.hire h)) = .good h) ∧
  (∀ l : LastSection, (∀ cents, l.fare = .charge cents → cents ≤ 999999) → l.endAt < 2 ^ 32 → l.tariff < 2 ^ 16 →
    judgeLast (sectionBytes (.last (some l))) = some l) ∧
  judgeLast (sectionBytes (.last none)) = none ∧
  (∀ entries : List FaultEntry, entries.length ≤ 4 →
    (∀ e ∈ entries, e.reporter < 2 ^ 32 ∧ (e.level = 1 ∨ e.level = 2) ∧
      ((1 ≤ e.cls ∧ e.cls ≤ 5 ∧ e.source ≠ .auto) ∨ (e.cls = 8 ∧ e.source = .auto))) →
    judgeFaults (sectionBytes (.faults entries)) = .good entries)

/-- A tariff piece is staged as it was built: a plan record absent or in range at its index, and a band table in range. -/
def Claims.TariffPiecesAreReadAsBuilt : Prop :=
  ∀ version, 1 ≤ version → version < 2 ^ 16 →
    (∀ index, index ≤ 7 → trfOf (trfBody version index (.plan none)) =
      some { version := version, index := index, piece := .plan none }) ∧
    (∀ index p, index ≤ 7 → p.freeMinutes ≤ 240 → 1 ≤ p.blockMinutes → p.blockMinutes ≤ 120 → p.rateA < 2 ^ 16 →
      p.rateB < 2 ^ 16 → p.rateC < 2 ^ 16 → p.rateD < 2 ^ 16 → p.surcharge < 2 ^ 16 → p.rideCap ≤ 999999 →
      p.dayCap ≤ 999999 → p.overdueFee ≤ 999999 → p.grace ≤ 600 →
      trfOf (trfBody version index (.plan (some p))) =
        some { version := version, index := index, piece := .plan (some p) }) ∧
    (∀ table, bandTableGood table = true → trfOf (trfBody version 8 (.bands table)) =
      some { version := version, index := 8, piece := .bands table })

/-- Frames, notices, tag sections and tariff pieces are read as they were built. -/
def Obligations.FormatsAreReadAsBuilt : Prop :=
  Claims.FramesAreTakenAsBuilt ∧ Claims.NoticesAreReadAsBuilt ∧ Claims.SectionsAreReadAsWritten ∧
  Claims.TariffPiecesAreReadAsBuilt
end

