-- ==== Sys2Proof/Laws/State.lean ====
section
/-! SUPPORT. The laws of the state under the shared operations of Machine/Ops.lean: for each operation what it leaves as
it was, and what its updates read as afterwards. -/

namespace Sys2Proof.Machine

/-- What every step of a fold keeps, the fold keeps. -/
theorem foldl_keeps {α β γ : Type} (f : β → α → β) (g : β → γ) (h : ∀ b a, g (f b a) = g b) :
    ∀ (l : List α) (b : β), g (l.foldl f b) = g b
  | [], _ => rfl
  | a :: l, b => (foldl_keeps f g h l (f b a)).trans (h b a)

/-! ### Updates -/

@[simp] theorem Timebase.slot_setSlot (t : Timebase) (c : CaptureSource) (v : Option Capture) :
    (t.setSlot c v).slot c = v := by
  cases c <;> rfl

@[simp] theorem Timebase.slot_setSlot_other (t : Timebase) {c d : CaptureSource} (v : Option Capture) (h : d ≠ c) :
    (t.setSlot c v).slot d = t.slot d := by
  cases c <;> cases d <;> first | rfl | exact absurd rfl h

@[simp] theorem Timebase.setSlot_base (t : Timebase) (c : CaptureSource) (v : Option Capture) :
    (t.setSlot c v).base = t.base ∧ (t.setSlot c v).quality = t.quality ∧ (t.setSlot c v).staleAt = t.staleAt ∧
      (t.setSlot c v).carryAt = t.carryAt := by
  cases c <;> exact ⟨rfl, rfl, rfl, rfl⟩

@[simp] theorem State.stamp_slot (c : CaptureSource) (s : State) :
    (s.stamp c).time.slot c =
      some { ms := s.clock.ms, scheme := s.time.stampScheme s.clock.ms, startUp := false } := by
  cases c <;> rfl

@[simp] theorem State.consume_slot (c : CaptureSource) (s : State) : (s.consume c).time.slot c = none := by
  cases c <;> rfl

@[simp] theorem State.stamp_consume_time (c : CaptureSource) (s : State) :
    (s.stamp c).time.base = s.time.base ∧ (s.stamp c).time.quality = s.time.quality ∧
      (s.consume c).time.base = s.time.base ∧ (s.consume c).time.quality = s.time.quality := by
  cases c <;> exact ⟨rfl, rfl, rfl, rfl⟩

@[simp] theorem State.showRefusal_refusal (n : Nat) (s : State) :
    (s.showRefusal n).dock.refusal = some { flashes := n, endAt := s.clock.ms + 3000 } := rfl

@[simp] theorem State.showCrewAck_at (s : State) : s.showCrewAck.dock.crewAckAt = some (s.clock.ms + 1000) := rfl

@[simp] theorem State.withdrawWrite_requests (ref : Nat) (s : State) :
    (s.withdrawWrite ref).tag.requests = s.tag.requests.filter (fun r => decide (r.ref ≠ ref)) := rfl

/-! ### Frames -/

@[simp] theorem State.reachMs_frame (due : Ms) (s : State) :
    (State.reachMs due s).straps = s.straps ∧ (State.reachMs due s).line = s.line ∧
      (State.reachMs due s).peers = s.peers ∧ (State.reachMs due s).time = s.time ∧
      (State.reachMs due s).dock = s.dock ∧ (State.reachMs due s).tag = s.tag ∧
      (State.reachMs due s).card = s.card ∧ (State.reachMs due s).view = s.view ∧
      (State.reachMs due s).hire = s.hire ∧ (State.reachMs due s).settle = s.settle ∧
      (State.reachMs due s).fault = s.fault ∧ (State.reachMs due s).van = s.van ∧
      (State.reachMs due s).port = s.port ∧ (State.reachMs due s).terminal = s.terminal ∧
      (State.reachMs due s).pending = s.pending := by
  unfold State.reachMs
  split <;> simp

@[simp] theorem State.reachInstant_frame (due : Instant) (s : State) :
    (State.reachInstant due s).straps = s.straps ∧ (State.reachInstant due s).line = s.line ∧
      (State.reachInstant due s).peers = s.peers ∧ (State.reachInstant due s).time = s.time ∧
      (State.reachInstant due s).dock = s.dock ∧ (State.reachInstant due s).tag = s.tag ∧
      (State.reachInstant due s).card = s.card ∧ (State.reachInstant due s).view = s.view ∧
      (State.reachInstant due s).hire = s.hire ∧ (State.reachInstant due s).settle = s.settle ∧
      (State.reachInstant due s).fault = s.fault ∧ (State.reachInstant due s).van = s.van ∧
      (State.reachInstant due s).port = s.port ∧ (State.reachInstant due s).terminal = s.terminal ∧
      (State.reachInstant due s).pending = s.pending := by
  unfold State.reachInstant
  (repeat' split) <;> simp

@[simp] theorem State.tick_frame (s : State) :
    (State.tick s).straps = s.straps ∧ (State.tick s).line = s.line ∧ (State.tick s).peers = s.peers ∧
      (State.tick s).time = s.time ∧ (State.tick s).dock = s.dock ∧ (State.tick s).tag = s.tag ∧
      (State.tick s).card = s.card ∧ (State.tick s).view = s.view ∧ (State.tick s).hire = s.hire ∧
      (State.tick s).settle = s.settle ∧ (State.tick s).fault = s.fault ∧ (State.tick s).van = s.van ∧
      (State.tick s).port = s.port ∧ (State.tick s).terminal = s.terminal ∧ (State.tick s).pending = s.pending := by
  unfold State.tick
  split <;> simp

@[simp] theorem State.stamp_frame (source : CaptureSource) (s : State) :
    (State.stamp source s).straps = s.straps ∧ (State.stamp source s).clock = s.clock ∧
      (State.stamp source s).line = s.line ∧ (State.stamp source s).peers = s.peers ∧
      (State.stamp source s).dock = s.dock ∧ (State.stamp source s).tag = s.tag ∧
      (State.stamp source s).card = s.card ∧ (State.stamp source s).view = s.view ∧
      (State.stamp source s).hire = s.hire ∧ (State.stamp source s).settle = s.settle ∧
      (State.stamp source s).fault = s.fault ∧ (State.stamp source s).van = s.van ∧
      (State.stamp source s).port = s.port ∧ (State.stamp source s).terminal = s.terminal ∧
      (State.stamp source s).pending = s.pending := by simp [State.stamp]

@[simp] theorem State.consume_frame (source : CaptureSource) (s : State) :
    (State.consume source s).straps = s.straps ∧ (State.consume source s).clock = s.clock ∧
      (State.consume source s).line = s.line ∧ (State.consume source s).peers = s.peers ∧
      (State.consume source s).dock = s.dock ∧ (State.consume source s).tag = s.tag ∧
      (State.consume source s).card = s.card ∧ (State.consume source s).view = s.view ∧
      (State.consume source s).hire = s.hire ∧ (State.consume source s).settle = s.settle ∧
      (State.consume source s).fault = s.fault ∧ (State.consume source s).van = s.van ∧
      (State.consume source s).port = s.port ∧ (State.consume source s).terminal = s.terminal ∧
      (State.consume source s).pending = s.pending := by simp [State.consume]

@[simp] theorem State.enqueue_frame (kind : Kind) (body : List Byte) (s : State) :
    (State.enqueue kind body s).1.straps = s.straps ∧ (State.enqueue kind body s).1.clock = s.clock ∧
      (State.enqueue kind body s).1.peers = s.peers ∧ (State.enqueue kind body s).1.time = s.time ∧
      (State.enqueue kind body s).1.dock = s.dock ∧ (State.enqueue kind body s).1.tag = s.tag ∧
      (State.enqueue kind body s).1.card = s.card ∧ (State.enqueue kind body s).1.view = s.view ∧
      (State.enqueue kind body s).1.hire = s.hire ∧ (State.enqueue kind body s).1.settle = s.settle ∧
      (State.enqueue kind body s).1.fault = s.fault ∧ (State.enqueue kind body s).1.van = s.van ∧
      (State.enqueue kind body s).1.port = s.port ∧ (State.enqueue kind body s).1.terminal = s.terminal ∧
      (State.enqueue kind body s).1.pending = s.pending ∧
      (State.enqueue kind body s).1.line.serial = s.line.serial ∧
      (State.enqueue kind body s).1.line.lastSender = s.line.lastSender ∧
      (State.enqueue kind body s).1.line.quiet = s.line.quiet ∧
      (State.enqueue kind body s).1.line.stuck = s.line.stuck ∧
      (State.enqueue kind body s).1.line.clash = s.line.clash ∧ (State.enqueue kind body s).1.line.rx = s.line.rx := by
  unfold State.enqueue
  (repeat' split) <;> simp

@[simp] theorem State.startTransmission_frame (s : State) :
    (State.startTransmission s).straps = s.straps ∧ (State.startTransmission s).clock = s.clock ∧
      (State.startTransmission s).peers = s.peers ∧ (State.startTransmission s).time = s.time ∧
      (State.startTransmission s).dock = s.dock ∧ (State.startTransmission s).tag = s.tag ∧
      (State.startTransmission s).card = s.card ∧ (State.startTransmission s).view = s.view ∧
      (State.startTransmission s).hire = s.hire ∧ (State.startTransmission s).settle = s.settle ∧
      (State.startTransmission s).fault = s.fault ∧ (State.startTransmission s).van = s.van ∧
      (State.startTransmission s).port = s.port ∧ (State.startTransmission s).terminal = s.terminal ∧
      (State.startTransmission s).pending = s.pending ∧ (State.startTransmission s).line.serial = s.line.serial ∧
      (State.startTransmission s).line.lastSender = s.line.lastSender ∧
      (State.startTransmission s).line.stuck = s.line.stuck ∧
      (State.startTransmission s).line.clash = s.line.clash ∧ (State.startTransmission s).line.rx = s.line.rx := by
  unfold State.startTransmission
  split <;> simp

@[simp] theorem State.appendEvent_frame (e : Event) (s : State) :
    (State.appendEvent e s).straps = s.straps ∧ (State.appendEvent e s).clock = s.clock ∧
      (State.appendEvent e s).line = s.line ∧ (State.appendEvent e s).peers = s.peers ∧
      (State.appendEvent e s).time = s.time ∧ (State.appendEvent e s).dock = s.dock ∧
      (State.appendEvent e s).tag = s.tag ∧ (State.appendEvent e s).card = s.card ∧
      (State.appendEvent e s).view = s.view ∧ (State.appendEvent e s).hire = s.hire ∧
      (State.appendEvent e s).settle = s.settle ∧ (State.appendEvent e s).fault = s.fault ∧
      (State.appendEvent e s).van = s.van ∧ (State.appendEvent e s).terminal = s.terminal ∧
      (State.appendEvent e s).pending = s.pending := by
  unfold State.appendEvent
  split <;> simp

@[simp] theorem State.showRefusal_frame (group : Nat) (s : State) :
    (State.showRefusal group s).straps = s.straps ∧ (State.showRefusal group s).clock = s.clock ∧
      (State.showRefusal group s).line = s.line ∧ (State.showRefusal group s).peers = s.peers ∧
      (State.showRefusal group s).time = s.time ∧ (State.showRefusal group s).tag = s.tag ∧
      (State.showRefusal group s).card = s.card ∧ (State.showRefusal group s).view = s.view ∧
      (State.showRefusal group s).hire = s.hire ∧ (State.showRefusal group s).settle = s.settle ∧
      (State.showRefusal group s).fault = s.fault ∧ (State.showRefusal group s).van = s.van ∧
      (State.showRefusal group s).port = s.port ∧ (State.showRefusal group s).terminal = s.terminal ∧
      (State.showRefusal group s).pending = s.pending ∧ (State.showRefusal group s).dock.bolt = s.dock.bolt ∧
      (State.showRefusal group s).dock.coil = s.dock.coil ∧
      (State.showRefusal group s).dock.pullInEndAt = s.dock.pullInEndAt ∧
      (State.showRefusal group s).dock.docked = s.dock.docked ∧
      (State.showRefusal group s).dock.count = s.dock.count := by simp [State.showRefusal]

@[simp] theorem State.showCrewAck_frame (s : State) :
    (State.showCrewAck s).straps = s.straps ∧ (State.showCrewAck s).clock = s.clock ∧
      (State.showCrewAck s).line = s.line ∧ (State.showCrewAck s).peers = s.peers ∧
      (State.showCrewAck s).time = s.time ∧ (State.showCrewAck s).tag = s.tag ∧
      (State.showCrewAck s).card = s.card ∧ (State.showCrewAck s).view = s.view ∧
      (State.showCrewAck s).hire = s.hire ∧ (State.showCrewAck s).settle = s.settle ∧
      (State.showCrewAck s).fault = s.fault ∧ (State.showCrewAck s).van = s.van ∧
      (State.showCrewAck s).port = s.port ∧ (State.showCrewAck s).terminal = s.terminal ∧
      (State.showCrewAck s).pending = s.pending ∧ (State.showCrewAck s).dock.bolt = s.dock.bolt ∧
      (State.showCrewAck s).dock.coil = s.dock.coil ∧ (State.showCrewAck s).dock.pullInEndAt = s.dock.pullInEndAt ∧
      (State.showCrewAck s).dock.docked = s.dock.docked ∧ (State.showCrewAck s).dock.count = s.dock.count := by simp [State.showCrewAck]

@[simp] theorem State.chooseLamp_frame (s : State) :
    (State.chooseLamp s).straps = s.straps ∧ (State.chooseLamp s).clock = s.clock ∧
      (State.chooseLamp s).line = s.line ∧ (State.chooseLamp s).peers = s.peers ∧
      (State.chooseLamp s).time = s.time ∧ (State.chooseLamp s).tag = s.tag ∧ (State.chooseLamp s).card = s.card ∧
      (State.chooseLamp s).view = s.view ∧ (State.chooseLamp s).hire = s.hire ∧
      (State.chooseLamp s).settle = s.settle ∧ (State.chooseLamp s).fault = s.fault ∧
      (State.chooseLamp s).van = s.van ∧ (State.chooseLamp s).port = s.port ∧
      (State.chooseLamp s).terminal = s.terminal ∧ (State.chooseLamp s).pending = s.pending ∧
      (State.chooseLamp s).dock.bolt = s.dock.bolt ∧ (State.chooseLamp s).dock.coil = s.dock.coil ∧
      (State.chooseLamp s).dock.pullInEndAt = s.dock.pullInEndAt ∧
      (State.chooseLamp s).dock.docked = s.dock.docked ∧ (State.chooseLamp s).dock.count = s.dock.count := by
  unfold State.chooseLamp
  split <;> simp

@[simp] theorem State.beginWrite_frame (s : State) :
    (State.beginWrite s).straps = s.straps ∧ (State.beginWrite s).clock = s.clock ∧
      (State.beginWrite s).line = s.line ∧ (State.beginWrite s).peers = s.peers ∧
      (State.beginWrite s).time = s.time ∧ (State.beginWrite s).dock = s.dock ∧
      (State.beginWrite s).card = s.card ∧ (State.beginWrite s).view = s.view ∧
      (State.beginWrite s).hire = s.hire ∧ (State.beginWrite s).settle = s.settle ∧
      (State.beginWrite s).fault = s.fault ∧ (State.beginWrite s).van = s.van ∧
      (State.beginWrite s).port = s.port ∧ (State.beginWrite s).terminal = s.terminal ∧
      (State.beginWrite s).pending = s.pending ∧ (State.beginWrite s).tag.copy = s.tag.copy := by
  unfold State.beginWrite
  (repeat' split) <;> simp

@[simp] theorem State.forgetWrite_frame (ref : Nat) (s : State) :
    (State.forgetWrite ref s).straps = s.straps ∧ (State.forgetWrite ref s).clock = s.clock ∧
      (State.forgetWrite ref s).line = s.line ∧ (State.forgetWrite ref s).peers = s.peers ∧
      (State.forgetWrite ref s).time = s.time ∧ (State.forgetWrite ref s).dock = s.dock ∧
      (State.forgetWrite ref s).tag = s.tag ∧ (State.forgetWrite ref s).card = s.card ∧
      (State.forgetWrite ref s).view = s.view ∧ (State.forgetWrite ref s).hire = s.hire ∧
      (State.forgetWrite ref s).van = s.van ∧ (State.forgetWrite ref s).port = s.port ∧
      (State.forgetWrite ref s).terminal = s.terminal ∧ (State.forgetWrite ref s).pending = s.pending ∧
      (State.forgetWrite ref s).settle.active = s.settle.active ∧
      (State.forgetWrite ref s).settle.staging = s.settle.staging ∧
      (State.forgetWrite ref s).fault.raised = s.fault.raised := by simp [State.forgetWrite]

@[simp] theorem State.withdrawWrite_frame (ref : Nat) (s : State) :
    (State.withdrawWrite ref s).straps = s.straps ∧ (State.withdrawWrite ref s).clock = s.clock ∧
      (State.withdrawWrite ref s).line = s.line ∧ (State.withdrawWrite ref s).peers = s.peers ∧
      (State.withdrawWrite ref s).time = s.time ∧ (State.withdrawWrite ref s).dock = s.dock ∧
      (State.withdrawWrite ref s).card = s.card ∧ (State.withdrawWrite ref s).view = s.view ∧
      (State.withdrawWrite ref s).hire = s.hire ∧ (State.withdrawWrite ref s).settle = s.settle ∧
      (State.withdrawWrite ref s).fault = s.fault ∧ (State.withdrawWrite ref s).van = s.van ∧
      (State.withdrawWrite ref s).port = s.port ∧ (State.withdrawWrite ref s).terminal = s.terminal ∧
      (State.withdrawWrite ref s).pending = s.pending ∧ (State.withdrawWrite ref s).tag.copy = s.tag.copy ∧
      (State.withdrawWrite ref s).tag.operation = s.tag.operation := by simp [State.withdrawWrite]

@[simp] theorem State.offer_frame (kind : Kind) (body : List Byte) (s : State) :
    (State.offer kind body s).1.straps = s.straps ∧ (State.offer kind body s).1.clock = s.clock ∧
      (State.offer kind body s).1.peers = s.peers ∧ (State.offer kind body s).1.time = s.time ∧
      (State.offer kind body s).1.dock = s.dock ∧ (State.offer kind body s).1.tag = s.tag ∧
      (State.offer kind body s).1.card = s.card ∧ (State.offer kind body s).1.view = s.view ∧
      (State.offer kind body s).1.hire = s.hire ∧ (State.offer kind body s).1.settle = s.settle ∧
      (State.offer kind body s).1.fault = s.fault ∧ (State.offer kind body s).1.van = s.van ∧
      (State.offer kind body s).1.port = s.port ∧ (State.offer kind body s).1.terminal = s.terminal ∧
      (State.offer kind body s).1.pending = s.pending ∧ (State.offer kind body s).1.line.serial = s.line.serial ∧
      (State.offer kind body s).1.line.lastSender = s.line.lastSender ∧
      (State.offer kind body s).1.line.quiet = s.line.quiet ∧
      (State.offer kind body s).1.line.stuck = s.line.stuck ∧
      (State.offer kind body s).1.line.clash = s.line.clash ∧ (State.offer kind body s).1.line.rx = s.line.rx := by
  unfold State.offer
  (repeat' split) <;> simp

@[simp] theorem State.followHead_frame (s : State) :
    (State.followHead s).straps = s.straps ∧ (State.followHead s).clock = s.clock ∧
      (State.followHead s).peers = s.peers ∧ (State.followHead s).time = s.time ∧
      (State.followHead s).dock = s.dock ∧ (State.followHead s).tag = s.tag ∧ (State.followHead s).card = s.card ∧
      (State.followHead s).view = s.view ∧ (State.followHead s).hire = s.hire ∧
      (State.followHead s).settle = s.settle ∧ (State.followHead s).fault = s.fault ∧
      (State.followHead s).van = s.van ∧ (State.followHead s).port = s.port ∧
      (State.followHead s).terminal = s.terminal ∧ (State.followHead s).pending = s.pending ∧
      (State.followHead s).line.serial = s.line.serial ∧ (State.followHead s).line.lastSender = s.line.lastSender ∧
      (State.followHead s).line.stuck = s.line.stuck ∧ (State.followHead s).line.clash = s.line.clash ∧
      (State.followHead s).line.rx = s.line.rx := by
  unfold State.followHead
  (repeat' split) <;> simp

@[simp] theorem State.requestWrite_frame (contents : SectionContents) (requester : Requester) (s : State) :
    (State.requestWrite contents requester s).1.straps = s.straps ∧
      (State.requestWrite contents requester s).1.clock = s.clock ∧
      (State.requestWrite contents requester s).1.line = s.line ∧
      (State.requestWrite contents requester s).1.peers = s.peers ∧
      (State.requestWrite contents requester s).1.time = s.time ∧
      (State.requestWrite contents requester s).1.dock = s.dock ∧
      (State.requestWrite contents requester s).1.card = s.card ∧
      (State.requestWrite contents requester s).1.view = s.view ∧
      (State.requestWrite contents requester s).1.hire = s.hire ∧
      (State.requestWrite contents requester s).1.van = s.van ∧
      (State.requestWrite contents requester s).1.port = s.port ∧
      (State.requestWrite contents requester s).1.terminal = s.terminal ∧
      (State.requestWrite contents requester s).1.pending = s.pending ∧
      (State.requestWrite contents requester s).1.tag.copy = s.tag.copy ∧
      (State.requestWrite contents requester s).1.settle.active = s.settle.active ∧
      (State.requestWrite contents requester s).1.settle.staging = s.settle.staging ∧
      (State.requestWrite contents requester s).1.fault.raised = s.fault.raised := by
  unfold State.requestWrite
  (repeat' split) <;> simp

@[simp] theorem State.send_frame (kind : Kind) (body : List Byte) (s : State) :
    (State.send kind body s).straps = s.straps ∧ (State.send kind body s).clock = s.clock ∧
      (State.send kind body s).peers = s.peers ∧ (State.send kind body s).time = s.time ∧
      (State.send kind body s).dock = s.dock ∧ (State.send kind body s).tag = s.tag ∧
      (State.send kind body s).card = s.card ∧ (State.send kind body s).view = s.view ∧
      (State.send kind body s).hire = s.hire ∧ (State.send kind body s).settle = s.settle ∧
      (State.send kind body s).fault = s.fault ∧ (State.send kind body s).van = s.van ∧
      (State.send kind body s).port = s.port ∧ (State.send kind body s).terminal = s.terminal ∧
      (State.send kind body s).pending = s.pending ∧ (State.send kind body s).line.serial = s.line.serial ∧
      (State.send kind body s).line.lastSender = s.line.lastSender ∧
      (State.send kind body s).line.quiet = s.line.quiet ∧ (State.send kind body s).line.stuck = s.line.stuck ∧
      (State.send kind body s).line.clash = s.line.clash ∧ (State.send kind body s).line.rx = s.line.rx := by simp [State.send]

@[simp] theorem State.ofrBusy_frame (s : State) :
    (State.ofrBusy s).straps = s.straps ∧ (State.ofrBusy s).clock = s.clock ∧ (State.ofrBusy s).line = s.line ∧
      (State.ofrBusy s).peers = s.peers ∧ (State.ofrBusy s).time = s.time ∧ (State.ofrBusy s).dock = s.dock ∧
      (State.ofrBusy s).tag = s.tag ∧ (State.ofrBusy s).card = s.card ∧ (State.ofrBusy s).view = s.view ∧
      (State.ofrBusy s).hire = s.hire ∧ (State.ofrBusy s).settle = s.settle ∧ (State.ofrBusy s).fault = s.fault ∧
      (State.ofrBusy s).port = s.port ∧ (State.ofrBusy s).terminal = s.terminal ∧
      (State.ofrBusy s).pending = s.pending ∧ (State.ofrBusy s).van.window = s.van.window ∧
      (State.ofrBusy s).van.hold = s.van.hold ∧ (State.ofrBusy s).van.target = s.van.target := by simp [State.ofrBusy]

@[simp] theorem conclude_frame (s : State) :
    (conclude s).straps = s.straps ∧ (conclude s).clock = s.clock ∧ (conclude s).peers = s.peers ∧
      (conclude s).time = s.time ∧ (conclude s).tag = s.tag ∧ (conclude s).card = s.card ∧
      (conclude s).view = s.view ∧ (conclude s).hire = s.hire ∧ (conclude s).settle = s.settle ∧
      (conclude s).fault = s.fault ∧ (conclude s).van = s.van ∧ (conclude s).port = s.port ∧
      (conclude s).terminal = s.terminal ∧ (conclude s).pending = s.pending ∧
      (conclude s).line.serial = s.line.serial ∧ (conclude s).line.lastSender = s.line.lastSender ∧
      (conclude s).line.stuck = s.line.stuck ∧ (conclude s).line.clash = s.line.clash ∧
      (conclude s).line.rx = s.line.rx ∧ (conclude s).dock.bolt = s.dock.bolt ∧
      (conclude s).dock.coil = s.dock.coil ∧ (conclude s).dock.pullInEndAt = s.dock.pullInEndAt ∧
      (conclude s).dock.docked = s.dock.docked ∧ (conclude s).dock.count = s.dock.count := by simp [conclude]

@[simp] theorem State.evaluateOffer_frame (s : State) :
    (State.evaluateOffer s).straps = s.straps ∧ (State.evaluateOffer s).clock = s.clock ∧
      (State.evaluateOffer s).peers = s.peers ∧ (State.evaluateOffer s).time = s.time ∧
      (State.evaluateOffer s).dock = s.dock ∧ (State.evaluateOffer s).tag = s.tag ∧
      (State.evaluateOffer s).card = s.card ∧ (State.evaluateOffer s).view = s.view ∧
      (State.evaluateOffer s).hire = s.hire ∧ (State.evaluateOffer s).settle = s.settle ∧
      (State.evaluateOffer s).fault = s.fault ∧ (State.evaluateOffer s).port = s.port ∧
      (State.evaluateOffer s).terminal = s.terminal ∧ (State.evaluateOffer s).pending = s.pending ∧
      (State.evaluateOffer s).line.serial = s.line.serial ∧
      (State.evaluateOffer s).line.lastSender = s.line.lastSender ∧
      (State.evaluateOffer s).line.quiet = s.line.quiet ∧ (State.evaluateOffer s).line.stuck = s.line.stuck ∧
      (State.evaluateOffer s).line.clash = s.line.clash ∧ (State.evaluateOffer s).line.rx = s.line.rx ∧
      (State.evaluateOffer s).van.window = s.van.window ∧ (State.evaluateOffer s).van.hold = s.van.hold ∧
      (State.evaluateOffer s).van.target = s.van.target := by
  unfold State.evaluateOffer
  dsimp only
  (repeat' split) <;> first | (simp; done) | (rename_i heq; have h1 := congrArg Prod.fst heq; dsimp only at h1; subst h1; simp)

@[simp] theorem State.offerAutoFlt_frame (cls level : Nat) (s : State) :
    (State.offerAutoFlt cls level s).straps = s.straps ∧ (State.offerAutoFlt cls level s).clock = s.clock ∧
      (State.offerAutoFlt cls level s).peers = s.peers ∧ (State.offerAutoFlt cls level s).time = s.time ∧
      (State.offerAutoFlt cls level s).dock = s.dock ∧ (State.offerAutoFlt cls level s).tag = s.tag ∧
      (State.offerAutoFlt cls level s).card = s.card ∧ (State.offerAutoFlt cls level s).view = s.view ∧
      (State.offerAutoFlt cls level s).hire = s.hire ∧ (State.offerAutoFlt cls level s).settle = s.settle ∧
      (State.offerAutoFlt cls level s).fault = s.fault ∧ (State.offerAutoFlt cls level s).van = s.van ∧
      (State.offerAutoFlt cls level s).port = s.port ∧ (State.offerAutoFlt cls level s).terminal = s.terminal ∧
      (State.offerAutoFlt cls level s).pending = s.pending ∧
      (State.offerAutoFlt cls level s).line.serial = s.line.serial ∧
      (State.offerAutoFlt cls level s).line.lastSender = s.line.lastSender ∧
      (State.offerAutoFlt cls level s).line.quiet = s.line.quiet ∧
      (State.offerAutoFlt cls level s).line.stuck = s.line.stuck ∧
      (State.offerAutoFlt cls level s).line.clash = s.line.clash ∧
      (State.offerAutoFlt cls level s).line.rx = s.line.rx := by simp [State.offerAutoFlt]

@[simp] theorem State.evaluateSince_frame (s before : State) :
    (State.evaluateSince s before).straps = s.straps ∧ (State.evaluateSince s before).clock = s.clock ∧
      (State.evaluateSince s before).peers = s.peers ∧ (State.evaluateSince s before).time = s.time ∧
      (State.evaluateSince s before).dock = s.dock ∧ (State.evaluateSince s before).tag = s.tag ∧
      (State.evaluateSince s before).card = s.card ∧ (State.evaluateSince s before).view = s.view ∧
      (State.evaluateSince s before).hire = s.hire ∧ (State.evaluateSince s before).settle = s.settle ∧
      (State.evaluateSince s before).fault = s.fault ∧ (State.evaluateSince s before).port = s.port ∧
      (State.evaluateSince s before).terminal = s.terminal ∧ (State.evaluateSince s before).pending = s.pending ∧
      (State.evaluateSince s before).line.serial = s.line.serial ∧
      (State.evaluateSince s before).line.lastSender = s.line.lastSender ∧
      (State.evaluateSince s before).line.quiet = s.line.quiet ∧
      (State.evaluateSince s before).line.stuck = s.line.stuck ∧
      (State.evaluateSince s before).line.clash = s.line.clash ∧
      (State.evaluateSince s before).line.rx = s.line.rx ∧
      (State.evaluateSince s before).van.window = s.van.window ∧
      (State.evaluateSince s before).van.hold = s.van.hold ∧
      (State.evaluateSince s before).van.target = s.van.target := by
  unfold State.evaluateSince
  split <;> simp

@[simp] theorem State.raisePost_frame (f : PostFault) (s : State) :
    (State.raisePost f s).straps = s.straps ∧ (State.raisePost f s).clock = s.clock ∧
      (State.raisePost f s).peers = s.peers ∧ (State.raisePost f s).time = s.time ∧
      (State.raisePost f s).dock = s.dock ∧ (State.raisePost f s).tag = s.tag ∧
      (State.raisePost f s).card = s.card ∧ (State.raisePost f s).view = s.view ∧
      (State.raisePost f s).hire = s.hire ∧ (State.raisePost f s).settle = s.settle ∧
      (State.raisePost f s).port = s.port ∧ (State.raisePost f s).terminal = s.terminal ∧
      (State.raisePost f s).pending = s.pending ∧ (State.raisePost f s).line.serial = s.line.serial ∧
      (State.raisePost f s).line.lastSender = s.line.lastSender ∧ (State.raisePost f s).line.quiet = s.line.quiet ∧
      (State.raisePost f s).line.stuck = s.line.stuck ∧ (State.raisePost f s).line.clash = s.line.clash ∧
      (State.raisePost f s).line.rx = s.line.rx ∧ (State.raisePost f s).van.window = s.van.window ∧
      (State.raisePost f s).van.hold = s.van.hold ∧ (State.raisePost f s).van.target = s.van.target := by
  unfold State.raisePost
  split <;> simp

@[simp] theorem State.clearPost_frame (f : PostFault) (s : State) :
    (State.clearPost f s).straps = s.straps ∧ (State.clearPost f s).clock = s.clock ∧
      (State.clearPost f s).peers = s.peers ∧ (State.clearPost f s).time = s.time ∧
      (State.clearPost f s).dock = s.dock ∧ (State.clearPost f s).tag = s.tag ∧
      (State.clearPost f s).card = s.card ∧ (State.clearPost f s).view = s.view ∧
      (State.clearPost f s).hire = s.hire ∧ (State.clearPost f s).settle = s.settle ∧
      (State.clearPost f s).port = s.port ∧ (State.clearPost f s).terminal = s.terminal ∧
      (State.clearPost f s).pending = s.pending ∧ (State.clearPost f s).line.serial = s.line.serial ∧
      (State.clearPost f s).line.lastSender = s.line.lastSender ∧ (State.clearPost f s).line.quiet = s.line.quiet ∧
      (State.clearPost f s).line.stuck = s.line.stuck ∧ (State.clearPost f s).line.clash = s.line.clash ∧
      (State.clearPost f s).line.rx = s.line.rx ∧ (State.clearPost f s).van.window = s.van.window ∧
      (State.clearPost f s).van.hold = s.van.hold ∧ (State.clearPost f s).van.target = s.van.target := by simp [State.clearPost]

@[simp] theorem State.raiseLowCharge_frame (s : State) :
    (State.raiseLowCharge s).straps = s.straps ∧ (State.raiseLowCharge s).clock = s.clock ∧
      (State.raiseLowCharge s).peers = s.peers ∧ (State.raiseLowCharge s).time = s.time ∧
      (State.raiseLowCharge s).dock = s.dock ∧ (State.raiseLowCharge s).tag = s.tag ∧
      (State.raiseLowCharge s).card = s.card ∧ (State.raiseLowCharge s).view = s.view ∧
      (State.raiseLowCharge s).hire = s.hire ∧ (State.raiseLowCharge s).settle = s.settle ∧
      (State.raiseLowCharge s).port = s.port ∧ (State.raiseLowCharge s).terminal = s.terminal ∧
      (State.raiseLowCharge s).pending = s.pending ∧ (State.raiseLowCharge s).line.serial = s.line.serial ∧
      (State.raiseLowCharge s).line.lastSender = s.line.lastSender ∧
      (State.raiseLowCharge s).line.quiet = s.line.quiet ∧ (State.raiseLowCharge s).line.stuck = s.line.stuck ∧
      (State.raiseLowCharge s).line.clash = s.line.clash ∧ (State.raiseLowCharge s).line.rx = s.line.rx ∧
      (State.raiseLowCharge s).van.window = s.van.window ∧ (State.raiseLowCharge s).van.hold = s.van.hold ∧
      (State.raiseLowCharge s).van.target = s.van.target ∧ (State.raiseLowCharge s).fault.raised = s.fault.raised := by
  unfold State.raiseLowCharge
  split <;> simp

@[simp] theorem State.raiseFlat_frame (s : State) :
    (State.raiseFlat s).straps = s.straps ∧ (State.raiseFlat s).clock = s.clock ∧
      (State.raiseFlat s).peers = s.peers ∧ (State.raiseFlat s).time = s.time ∧ (State.raiseFlat s).dock = s.dock ∧
      (State.raiseFlat s).tag = s.tag ∧ (State.raiseFlat s).card = s.card ∧ (State.raiseFlat s).view = s.view ∧
      (State.raiseFlat s).hire = s.hire ∧ (State.raiseFlat s).settle = s.settle ∧
      (State.raiseFlat s).port = s.port ∧ (State.raiseFlat s).terminal = s.terminal ∧
      (State.raiseFlat s).pending = s.pending ∧ (State.raiseFlat s).line.serial = s.line.serial ∧
      (State.raiseFlat s).line.lastSender = s.line.lastSender ∧ (State.raiseFlat s).line.quiet = s.line.quiet ∧
      (State.raiseFlat s).line.stuck = s.line.stuck ∧ (State.raiseFlat s).line.clash = s.line.clash ∧
      (State.raiseFlat s).line.rx = s.line.rx ∧ (State.raiseFlat s).van.window = s.van.window ∧
      (State.raiseFlat s).van.hold = s.van.hold ∧ (State.raiseFlat s).van.target = s.van.target ∧
      (State.raiseFlat s).fault.raised = s.fault.raised := by
  unfold State.raiseFlat
  split <;> simp

@[simp] theorem State.raiseDuplicate_frame (s : State) :
    (State.raiseDuplicate s).straps = s.straps ∧ (State.raiseDuplicate s).clock = s.clock ∧
      (State.raiseDuplicate s).peers = s.peers ∧ (State.raiseDuplicate s).time = s.time ∧
      (State.raiseDuplicate s).dock = s.dock ∧ (State.raiseDuplicate s).tag = s.tag ∧
      (State.raiseDuplicate s).card = s.card ∧ (State.raiseDuplicate s).view = s.view ∧
      (State.raiseDuplicate s).hire = s.hire ∧ (State.raiseDuplicate s).settle = s.settle ∧
      (State.raiseDuplicate s).port = s.port ∧ (State.raiseDuplicate s).terminal = s.terminal ∧
      (State.raiseDuplicate s).pending = s.pending ∧ (State.raiseDuplicate s).line.serial = s.line.serial ∧
      (State.raiseDuplicate s).line.lastSender = s.line.lastSender ∧
      (State.raiseDuplicate s).line.quiet = s.line.quiet ∧ (State.raiseDuplicate s).line.stuck = s.line.stuck ∧
      (State.raiseDuplicate s).line.clash = s.line.clash ∧ (State.raiseDuplicate s).line.rx = s.line.rx ∧
      (State.raiseDuplicate s).van.window = s.van.window ∧ (State.raiseDuplicate s).van.hold = s.van.hold ∧
      (State.raiseDuplicate s).van.target = s.van.target ∧ (State.raiseDuplicate s).fault.raised = s.fault.raised := by
  unfold State.raiseDuplicate
  split <;> simp

@[simp] theorem State.copyWritten_frame (contents : SectionContents) (s : State) :
    (State.copyWritten contents s).straps = s.straps ∧ (State.copyWritten contents s).clock = s.clock ∧
      (State.copyWritten contents s).peers = s.peers ∧ (State.copyWritten contents s).time = s.time ∧
      (State.copyWritten contents s).dock = s.dock ∧ (State.copyWritten contents s).card = s.card ∧
      (State.copyWritten contents s).view = s.view ∧ (State.copyWritten contents s).hire = s.hire ∧
      (State.copyWritten contents s).settle = s.settle ∧ (State.copyWritten contents s).fault = s.fault ∧
      (State.copyWritten contents s).port = s.port ∧ (State.copyWritten contents s).terminal = s.terminal ∧
      (State.copyWritten contents s).pending = s.pending ∧
      (State.copyWritten contents s).line.serial = s.line.serial ∧
      (State.copyWritten contents s).line.lastSender = s.line.lastSender ∧
      (State.copyWritten contents s).line.quiet = s.line.quiet ∧
      (State.copyWritten contents s).line.stuck = s.line.stuck ∧
      (State.copyWritten contents s).line.clash = s.line.clash ∧
      (State.copyWritten contents s).line.rx = s.line.rx ∧
      (State.copyWritten contents s).tag.operation = s.tag.operation ∧
      (State.copyWritten contents s).van.window = s.van.window ∧
      (State.copyWritten contents s).van.hold = s.van.hold ∧
      (State.copyWritten contents s).van.target = s.van.target := by
  unfold State.copyWritten
  split <;> simp

@[simp] theorem State.requestFaults_frame (entries : List FaultEntry) (s : State) :
    (State.requestFaults entries s).straps = s.straps ∧ (State.requestFaults entries s).clock = s.clock ∧
      (State.requestFaults entries s).peers = s.peers ∧ (State.requestFaults entries s).time = s.time ∧
      (State.requestFaults entries s).dock = s.dock ∧ (State.requestFaults entries s).card = s.card ∧
      (State.requestFaults entries s).view = s.view ∧ (State.requestFaults entries s).hire = s.hire ∧
      (State.requestFaults entries s).port = s.port ∧ (State.requestFaults entries s).terminal = s.terminal ∧
      (State.requestFaults entries s).pending = s.pending ∧
      (State.requestFaults entries s).line.serial = s.line.serial ∧
      (State.requestFaults entries s).line.lastSender = s.line.lastSender ∧
      (State.requestFaults entries s).line.quiet = s.line.quiet ∧
      (State.requestFaults entries s).line.stuck = s.line.stuck ∧
      (State.requestFaults entries s).line.clash = s.line.clash ∧
      (State.requestFaults entries s).line.rx = s.line.rx ∧ (State.requestFaults entries s).tag.copy = s.tag.copy ∧
      (State.requestFaults entries s).van.window = s.van.window ∧
      (State.requestFaults entries s).van.hold = s.van.hold ∧
      (State.requestFaults entries s).van.target = s.van.target ∧
      (State.requestFaults entries s).settle.active = s.settle.active ∧
      (State.requestFaults entries s).settle.staging = s.settle.staging ∧
      (State.requestFaults entries s).fault.raised = s.fault.raised := by
  unfold State.requestFaults
  split <;>
    (rename_i heq; have h1 := congrArg Prod.fst heq; dsimp only at h1; subst h1; simp)

@[simp] theorem State.raiseLine_frame (at_ : Ms) (s : State) :
    (State.raiseLine at_ s).straps = s.straps ∧ (State.raiseLine at_ s).clock = s.clock ∧
      (State.raiseLine at_ s).peers = s.peers ∧ (State.raiseLine at_ s).time = s.time ∧
      (State.raiseLine at_ s).dock = s.dock ∧ (State.raiseLine at_ s).tag = s.tag ∧
      (State.raiseLine at_ s).card = s.card ∧ (State.raiseLine at_ s).view = s.view ∧
      (State.raiseLine at_ s).hire = s.hire ∧ (State.raiseLine at_ s).settle = s.settle ∧
      (State.raiseLine at_ s).port = s.port ∧ (State.raiseLine at_ s).terminal = s.terminal ∧
      (State.raiseLine at_ s).pending = s.pending ∧ (State.raiseLine at_ s).line.serial = s.line.serial ∧
      (State.raiseLine at_ s).line.lastSender = s.line.lastSender ∧
      (State.raiseLine at_ s).line.quiet = s.line.quiet ∧ (State.raiseLine at_ s).line.stuck = s.line.stuck ∧
      (State.raiseLine at_ s).line.clash = s.line.clash ∧ (State.raiseLine at_ s).line.rx = s.line.rx ∧
      (State.raiseLine at_ s).van.window = s.van.window ∧ (State.raiseLine at_ s).van.hold = s.van.hold ∧
      (State.raiseLine at_ s).van.target = s.van.target := by simp [State.raiseLine]

@[simp] theorem State.changeFaults_frame (change : FaultChange) (s : State) :
    (State.changeFaults change s).straps = s.straps ∧ (State.changeFaults change s).clock = s.clock ∧
      (State.changeFaults change s).peers = s.peers ∧ (State.changeFaults change s).time = s.time ∧
      (State.changeFaults change s).dock = s.dock ∧ (State.changeFaults change s).card = s.card ∧
      (State.changeFaults change s).view = s.view ∧ (State.changeFaults change s).hire = s.hire ∧
      (State.changeFaults change s).port = s.port ∧ (State.changeFaults change s).terminal = s.terminal ∧
      (State.changeFaults change s).pending = s.pending ∧
      (State.changeFaults change s).line.serial = s.line.serial ∧
      (State.changeFaults change s).line.lastSender = s.line.lastSender ∧
      (State.changeFaults change s).line.quiet = s.line.quiet ∧
      (State.changeFaults change s).line.stuck = s.line.stuck ∧
      (State.changeFaults change s).line.clash = s.line.clash ∧ (State.changeFaults change s).line.rx = s.line.rx ∧
      (State.changeFaults change s).tag.copy = s.tag.copy ∧
      (State.changeFaults change s).van.window = s.van.window ∧
      (State.changeFaults change s).van.hold = s.van.hold ∧
      (State.changeFaults change s).van.target = s.van.target ∧
      (State.changeFaults change s).settle.active = s.settle.active ∧
      (State.changeFaults change s).settle.staging = s.settle.staging ∧
      (State.changeFaults change s).fault.raised = s.fault.raised := by
  unfold State.changeFaults
  (repeat' split) <;> simp

@[simp] theorem State.rewriteAnswered_frame (written : Bool) (s : State) :
    (State.rewriteAnswered written s).straps = s.straps ∧ (State.rewriteAnswered written s).clock = s.clock ∧
      (State.rewriteAnswered written s).peers = s.peers ∧ (State.rewriteAnswered written s).time = s.time ∧
      (State.rewriteAnswered written s).dock = s.dock ∧ (State.rewriteAnswered written s).card = s.card ∧
      (State.rewriteAnswered written s).view = s.view ∧ (State.rewriteAnswered written s).hire = s.hire ∧
      (State.rewriteAnswered written s).port = s.port ∧ (State.rewriteAnswered written s).terminal = s.terminal ∧
      (State.rewriteAnswered written s).pending = s.pending ∧
      (State.rewriteAnswered written s).line.serial = s.line.serial ∧
      (State.rewriteAnswered written s).line.lastSender = s.line.lastSender ∧
      (State.rewriteAnswered written s).line.quiet = s.line.quiet ∧
      (State.rewriteAnswered written s).line.stuck = s.line.stuck ∧
      (State.rewriteAnswered written s).line.clash = s.line.clash ∧
      (State.rewriteAnswered written s).line.rx = s.line.rx ∧
      (State.rewriteAnswered written s).tag.copy = s.tag.copy ∧
      (State.rewriteAnswered written s).van.window = s.van.window ∧
      (State.rewriteAnswered written s).van.hold = s.van.hold ∧
      (State.rewriteAnswered written s).van.target = s.van.target ∧
      (State.rewriteAnswered written s).settle.active = s.settle.active ∧
      (State.rewriteAnswered written s).settle.staging = s.settle.staging ∧
      (State.rewriteAnswered written s).fault.raised = s.fault.raised := by
  unfold State.rewriteAnswered
  dsimp only
  (repeat' split) <;> first | (simp; done) | (rename_i heq; have h1 := congrArg Prod.fst heq; dsimp only at h1; subst h1; simp)

@[simp] theorem State.badFrame_frame (at_ : Ms) (s : State) :
    (State.badFrame at_ s).straps = s.straps ∧ (State.badFrame at_ s).clock = s.clock ∧
      (State.badFrame at_ s).peers = s.peers ∧ (State.badFrame at_ s).time = s.time ∧
      (State.badFrame at_ s).dock = s.dock ∧ (State.badFrame at_ s).tag = s.tag ∧
      (State.badFrame at_ s).card = s.card ∧ (State.badFrame at_ s).view = s.view ∧
      (State.badFrame at_ s).hire = s.hire ∧ (State.badFrame at_ s).settle = s.settle ∧
      (State.badFrame at_ s).port = s.port ∧ (State.badFrame at_ s).terminal = s.terminal ∧
      (State.badFrame at_ s).pending = s.pending ∧ (State.badFrame at_ s).line.serial = s.line.serial ∧
      (State.badFrame at_ s).line.lastSender = s.line.lastSender ∧
      (State.badFrame at_ s).line.quiet = s.line.quiet ∧ (State.badFrame at_ s).line.stuck = s.line.stuck ∧
      (State.badFrame at_ s).line.clash = s.line.clash ∧ (State.badFrame at_ s).line.rx = s.line.rx ∧
      (State.badFrame at_ s).van.window = s.van.window ∧ (State.badFrame at_ s).van.hold = s.van.hold ∧
      (State.badFrame at_ s).van.target = s.van.target := by
  unfold State.badFrame
  dsimp only
  (repeat' split) <;> first | (simp; done) | (rename_i heq; have h1 := congrArg Prod.fst heq; dsimp only at h1; subst h1; simp)

@[simp] theorem State.askTagEntry_frame (faultsWriteFailed : Bool) (s : State) :
    (State.askTagEntry faultsWriteFailed s).straps = s.straps ∧
      (State.askTagEntry faultsWriteFailed s).clock = s.clock ∧
      (State.askTagEntry faultsWriteFailed s).peers = s.peers ∧
      (State.askTagEntry faultsWriteFailed s).time = s.time ∧
      (State.askTagEntry faultsWriteFailed s).dock = s.dock ∧
      (State.askTagEntry faultsWriteFailed s).card = s.card ∧
      (State.askTagEntry faultsWriteFailed s).view = s.view ∧
      (State.askTagEntry faultsWriteFailed s).hire = s.hire ∧
      (State.askTagEntry faultsWriteFailed s).port = s.port ∧
      (State.askTagEntry faultsWriteFailed s).terminal = s.terminal ∧
      (State.askTagEntry faultsWriteFailed s).pending = s.pending ∧
      (State.askTagEntry faultsWriteFailed s).line.serial = s.line.serial ∧
      (State.askTagEntry faultsWriteFailed s).line.lastSender = s.line.lastSender ∧
      (State.askTagEntry faultsWriteFailed s).line.quiet = s.line.quiet ∧
      (State.askTagEntry faultsWriteFailed s).line.stuck = s.line.stuck ∧
      (State.askTagEntry faultsWriteFailed s).line.clash = s.line.clash ∧
      (State.askTagEntry faultsWriteFailed s).line.rx = s.line.rx ∧
      (State.askTagEntry faultsWriteFailed s).tag.copy = s.tag.copy ∧
      (State.askTagEntry faultsWriteFailed s).van.window = s.van.window ∧
      (State.askTagEntry faultsWriteFailed s).van.hold = s.van.hold ∧
      (State.askTagEntry faultsWriteFailed s).van.target = s.van.target ∧
      (State.askTagEntry faultsWriteFailed s).settle.active = s.settle.active ∧
      (State.askTagEntry faultsWriteFailed s).settle.staging = s.settle.staging ∧
      (State.askTagEntry faultsWriteFailed s).fault.raised = s.fault.raised := by
  unfold State.askTagEntry
  split <;> simp

@[simp] theorem State.tagReport_frame (faultsWriteFailed : Bool) (s : State) :
    (State.tagReport faultsWriteFailed s).straps = s.straps ∧
      (State.tagReport faultsWriteFailed s).clock = s.clock ∧
      (State.tagReport faultsWriteFailed s).peers = s.peers ∧ (State.tagReport faultsWriteFailed s).time = s.time ∧
      (State.tagReport faultsWriteFailed s).dock = s.dock ∧ (State.tagReport faultsWriteFailed s).card = s.card ∧
      (State.tagReport faultsWriteFailed s).view = s.view ∧ (State.tagReport faultsWriteFailed s).hire = s.hire ∧
      (State.tagReport faultsWriteFailed s).port = s.port ∧
      (State.tagReport faultsWriteFailed s).terminal = s.terminal ∧
      (State.tagReport faultsWriteFailed s).pending = s.pending ∧
      (State.tagReport faultsWriteFailed s).line.serial = s.line.serial ∧
      (State.tagReport faultsWriteFailed s).line.lastSender = s.line.lastSender ∧
      (State.tagReport faultsWriteFailed s).line.quiet = s.line.quiet ∧
      (State.tagReport faultsWriteFailed s).line.stuck = s.line.stuck ∧
      (State.tagReport faultsWriteFailed s).line.clash = s.line.clash ∧
      (State.tagReport faultsWriteFailed s).line.rx = s.line.rx ∧
      (State.tagReport faultsWriteFailed s).tag.copy = s.tag.copy ∧
      (State.tagReport faultsWriteFailed s).van.window = s.van.window ∧
      (State.tagReport faultsWriteFailed s).van.hold = s.van.hold ∧
      (State.tagReport faultsWriteFailed s).van.target = s.van.target ∧
      (State.tagReport faultsWriteFailed s).settle.active = s.settle.active ∧
      (State.tagReport faultsWriteFailed s).settle.staging = s.settle.staging ∧
      (State.tagReport faultsWriteFailed s).fault.raised = s.fault.raised := by
  unfold State.tagReport
  split <;> simp

end Sys2Proof.Machine
end

