-- ==== Sys2Proof/Laws/HireFrames.lean ====
section
/-! SUPPORT. Frames: what each operation of the hire controller and the bolt (Machine/HireOps.lean) leaves as it was. -/

namespace Sys2Proof.Machine

@[simp] theorem State.onRecord_frame (f : HireRecord → HireRecord) (s : State) :
    (State.onRecord f s).straps = s.straps ∧ (State.onRecord f s).clock = s.clock ∧
      (State.onRecord f s).line = s.line ∧ (State.onRecord f s).peers = s.peers ∧
      (State.onRecord f s).time = s.time ∧ (State.onRecord f s).dock = s.dock ∧ (State.onRecord f s).tag = s.tag ∧
      (State.onRecord f s).card = s.card ∧ (State.onRecord f s).view = s.view ∧
      (State.onRecord f s).settle = s.settle ∧ (State.onRecord f s).fault = s.fault ∧
      (State.onRecord f s).van = s.van ∧ (State.onRecord f s).port = s.port ∧
      (State.onRecord f s).terminal = s.terminal ∧ (State.onRecord f s).pending = s.pending ∧
      (State.onRecord f s).hire.state = s.hire.state ∧ (State.onRecord f s).hire.claims = s.hire.claims := by simp [State.onRecord]

@[simp] theorem State.tagLeaves_frame (s : State) :
    (State.tagLeaves s).straps = s.straps ∧ (State.tagLeaves s).clock = s.clock ∧
      (State.tagLeaves s).line = s.line ∧ (State.tagLeaves s).peers = s.peers ∧ (State.tagLeaves s).time = s.time ∧
      (State.tagLeaves s).dock = s.dock ∧ (State.tagLeaves s).card = s.card ∧ (State.tagLeaves s).view = s.view ∧
      (State.tagLeaves s).hire = s.hire ∧ (State.tagLeaves s).fault = s.fault ∧ (State.tagLeaves s).van = s.van ∧
      (State.tagLeaves s).port = s.port ∧ (State.tagLeaves s).terminal = s.terminal ∧
      (State.tagLeaves s).pending = s.pending ∧ (State.tagLeaves s).settle.active = s.settle.active ∧
      (State.tagLeaves s).settle.staging = s.settle.staging := by simp [State.tagLeaves]

@[simp] theorem State.faultLeaves_frame (s : State) :
    (State.faultLeaves s).straps = s.straps ∧ (State.faultLeaves s).clock = s.clock ∧
      (State.faultLeaves s).line = s.line ∧ (State.faultLeaves s).peers = s.peers ∧
      (State.faultLeaves s).time = s.time ∧ (State.faultLeaves s).dock = s.dock ∧
      (State.faultLeaves s).tag = s.tag ∧ (State.faultLeaves s).card = s.card ∧
      (State.faultLeaves s).view = s.view ∧ (State.faultLeaves s).hire = s.hire ∧
      (State.faultLeaves s).settle = s.settle ∧ (State.faultLeaves s).van = s.van ∧
      (State.faultLeaves s).port = s.port ∧ (State.faultLeaves s).terminal = s.terminal ∧
      (State.faultLeaves s).pending = s.pending ∧ (State.faultLeaves s).fault.raised = s.fault.raised := by simp [State.faultLeaves]

@[simp] theorem State.duplicateLeaves_frame (s : State) :
    (State.duplicateLeaves s).straps = s.straps ∧ (State.duplicateLeaves s).clock = s.clock ∧
      (State.duplicateLeaves s).line = s.line ∧ (State.duplicateLeaves s).time = s.time ∧
      (State.duplicateLeaves s).dock = s.dock ∧ (State.duplicateLeaves s).tag = s.tag ∧
      (State.duplicateLeaves s).card = s.card ∧ (State.duplicateLeaves s).view = s.view ∧
      (State.duplicateLeaves s).hire = s.hire ∧ (State.duplicateLeaves s).settle = s.settle ∧
      (State.duplicateLeaves s).fault = s.fault ∧ (State.duplicateLeaves s).van = s.van ∧
      (State.duplicateLeaves s).port = s.port ∧ (State.duplicateLeaves s).terminal = s.terminal ∧
      (State.duplicateLeaves s).pending = s.pending ∧
      (State.duplicateLeaves s).peers.adoptedId = s.peers.adoptedId ∧
      (State.duplicateLeaves s).peers.entries = s.peers.entries := by simp [State.duplicateLeaves]

@[simp] theorem State.vanLeaves_frame (s : State) :
    (State.vanLeaves s).straps = s.straps ∧ (State.vanLeaves s).clock = s.clock ∧
      (State.vanLeaves s).line = s.line ∧ (State.vanLeaves s).peers = s.peers ∧ (State.vanLeaves s).time = s.time ∧
      (State.vanLeaves s).dock = s.dock ∧ (State.vanLeaves s).tag = s.tag ∧ (State.vanLeaves s).card = s.card ∧
      (State.vanLeaves s).view = s.view ∧ (State.vanLeaves s).hire = s.hire ∧
      (State.vanLeaves s).settle = s.settle ∧ (State.vanLeaves s).fault = s.fault ∧
      (State.vanLeaves s).port = s.port ∧ (State.vanLeaves s).terminal = s.terminal ∧
      (State.vanLeaves s).pending = s.pending ∧ (State.vanLeaves s).van.window = s.van.window ∧
      (State.vanLeaves s).van.target = s.van.target ∧ (State.vanLeaves s).van.offer = s.van.offer := by simp [State.vanLeaves]

@[simp] theorem State.cardReading_frame (s : State) (member : Nat) :
    (State.cardReading s member).1.straps = s.straps ∧ (State.cardReading s member).1.clock = s.clock ∧
      (State.cardReading s member).1.line = s.line ∧ (State.cardReading s member).1.peers = s.peers ∧
      (State.cardReading s member).1.time = s.time ∧ (State.cardReading s member).1.dock = s.dock ∧
      (State.cardReading s member).1.tag = s.tag ∧ (State.cardReading s member).1.card = s.card ∧
      (State.cardReading s member).1.hire = s.hire ∧ (State.cardReading s member).1.settle = s.settle ∧
      (State.cardReading s member).1.fault = s.fault ∧ (State.cardReading s member).1.van = s.van ∧
      (State.cardReading s member).1.port = s.port ∧ (State.cardReading s member).1.terminal = s.terminal ∧
      (State.cardReading s member).1.pending = s.pending := by
  unfold State.cardReading
  (repeat' split) <;> simp

@[simp] theorem State.openCrewWindow_frame (crew : Nat) (s : State) :
    (State.openCrewWindow crew s).straps = s.straps ∧ (State.openCrewWindow crew s).clock = s.clock ∧
      (State.openCrewWindow crew s).line = s.line ∧ (State.openCrewWindow crew s).peers = s.peers ∧
      (State.openCrewWindow crew s).time = s.time ∧ (State.openCrewWindow crew s).dock = s.dock ∧
      (State.openCrewWindow crew s).tag = s.tag ∧ (State.openCrewWindow crew s).card = s.card ∧
      (State.openCrewWindow crew s).view = s.view ∧ (State.openCrewWindow crew s).hire = s.hire ∧
      (State.openCrewWindow crew s).settle = s.settle ∧ (State.openCrewWindow crew s).van = s.van ∧
      (State.openCrewWindow crew s).port = s.port ∧ (State.openCrewWindow crew s).terminal = s.terminal ∧
      (State.openCrewWindow crew s).pending = s.pending ∧
      (State.openCrewWindow crew s).fault.raised = s.fault.raised := by
  unfold State.openCrewWindow
  split <;> simp

@[simp] theorem State.vanRestart_frame (s : State) :
    (State.vanRestart s).straps = s.straps ∧ (State.vanRestart s).clock = s.clock ∧
      (State.vanRestart s).line = s.line ∧ (State.vanRestart s).peers = s.peers ∧
      (State.vanRestart s).time = s.time ∧ (State.vanRestart s).dock = s.dock ∧ (State.vanRestart s).tag = s.tag ∧
      (State.vanRestart s).card = s.card ∧ (State.vanRestart s).view = s.view ∧
      (State.vanRestart s).hire = s.hire ∧ (State.vanRestart s).settle = s.settle ∧
      (State.vanRestart s).fault = s.fault ∧ (State.vanRestart s).port = s.port ∧
      (State.vanRestart s).terminal = s.terminal ∧ (State.vanRestart s).pending = s.pending ∧
      (State.vanRestart s).van.window = s.van.window ∧ (State.vanRestart s).van.target = s.van.target ∧
      (State.vanRestart s).van.offer = s.van.offer := by simp [State.vanRestart]

@[simp] theorem State.displaysRestart_frame (s : State) :
    (State.displaysRestart s).straps = s.straps ∧ (State.displaysRestart s).clock = s.clock ∧
      (State.displaysRestart s).line = s.line ∧ (State.displaysRestart s).peers = s.peers ∧
      (State.displaysRestart s).time = s.time ∧ (State.displaysRestart s).tag = s.tag ∧
      (State.displaysRestart s).card = s.card ∧ (State.displaysRestart s).view = s.view ∧
      (State.displaysRestart s).hire = s.hire ∧ (State.displaysRestart s).settle = s.settle ∧
      (State.displaysRestart s).fault = s.fault ∧ (State.displaysRestart s).van = s.van ∧
      (State.displaysRestart s).port = s.port ∧ (State.displaysRestart s).terminal = s.terminal ∧
      (State.displaysRestart s).pending = s.pending ∧ (State.displaysRestart s).dock.bolt = s.dock.bolt ∧
      (State.displaysRestart s).dock.coil = s.dock.coil ∧
      (State.displaysRestart s).dock.pullInEndAt = s.dock.pullInEndAt ∧
      (State.displaysRestart s).dock.docked = s.dock.docked ∧ (State.displaysRestart s).dock.count = s.dock.count := by simp [State.displaysRestart]

@[simp] theorem State.dockLeaves_frame (s : State) :
    (State.dockLeaves s).straps = s.straps ∧ (State.dockLeaves s).clock = s.clock ∧
      (State.dockLeaves s).line = s.line ∧ (State.dockLeaves s).peers = s.peers ∧
      (State.dockLeaves s).tag = s.tag ∧ (State.dockLeaves s).card = s.card ∧ (State.dockLeaves s).view = s.view ∧
      (State.dockLeaves s).hire = s.hire ∧ (State.dockLeaves s).settle = s.settle ∧
      (State.dockLeaves s).fault = s.fault ∧ (State.dockLeaves s).van = s.van ∧
      (State.dockLeaves s).port = s.port ∧ (State.dockLeaves s).terminal = s.terminal ∧
      (State.dockLeaves s).pending = s.pending ∧ (State.dockLeaves s).dock.bolt = s.dock.bolt ∧
      (State.dockLeaves s).dock.coil = s.dock.coil ∧ (State.dockLeaves s).dock.pullInEndAt = s.dock.pullInEndAt ∧
      (State.dockLeaves s).dock.count = s.dock.count ∧ (State.dockLeaves s).time.base = s.time.base ∧
      (State.dockLeaves s).time.quality = s.time.quality := by
  unfold State.dockLeaves
  (repeat' apply And.intro) <;> ((repeat' split) <;> first | rfl | (simp; done) | (simp [*]; done))

@[simp] theorem State.takeUnreadable_frame (s : State) :
    (State.takeUnreadable s).straps = s.straps ∧ (State.takeUnreadable s).clock = s.clock ∧
      (State.takeUnreadable s).line = s.line ∧ (State.takeUnreadable s).peers = s.peers ∧
      (State.takeUnreadable s).time = s.time ∧ (State.takeUnreadable s).tag = s.tag ∧
      (State.takeUnreadable s).card = s.card ∧ (State.takeUnreadable s).view = s.view ∧
      (State.takeUnreadable s).hire = s.hire ∧ (State.takeUnreadable s).settle = s.settle ∧
      (State.takeUnreadable s).fault = s.fault ∧ (State.takeUnreadable s).van = s.van ∧
      (State.takeUnreadable s).port = s.port ∧ (State.takeUnreadable s).terminal = s.terminal ∧
      (State.takeUnreadable s).pending = s.pending ∧ (State.takeUnreadable s).dock.bolt = s.dock.bolt ∧
      (State.takeUnreadable s).dock.coil = s.dock.coil ∧
      (State.takeUnreadable s).dock.pullInEndAt = s.dock.pullInEndAt ∧
      (State.takeUnreadable s).dock.docked = s.dock.docked ∧ (State.takeUnreadable s).dock.count = s.dock.count := by
  unfold State.takeUnreadable
  split <;> simp

@[simp] theorem State.startLookup_frame (card : CardRecord) (s : State) :
    (State.startLookup card s).straps = s.straps ∧ (State.startLookup card s).clock = s.clock ∧
      (State.startLookup card s).peers = s.peers ∧ (State.startLookup card s).time = s.time ∧
      (State.startLookup card s).dock = s.dock ∧ (State.startLookup card s).tag = s.tag ∧
      (State.startLookup card s).card = s.card ∧ (State.startLookup card s).settle = s.settle ∧
      (State.startLookup card s).fault = s.fault ∧ (State.startLookup card s).van = s.van ∧
      (State.startLookup card s).port = s.port ∧ (State.startLookup card s).terminal = s.terminal ∧
      (State.startLookup card s).pending = s.pending ∧ (State.startLookup card s).line.serial = s.line.serial ∧
      (State.startLookup card s).line.lastSender = s.line.lastSender ∧
      (State.startLookup card s).line.quiet = s.line.quiet ∧ (State.startLookup card s).line.stuck = s.line.stuck ∧
      (State.startLookup card s).line.clash = s.line.clash ∧ (State.startLookup card s).line.rx = s.line.rx ∧
      (State.startLookup card s).hire.claims = s.hire.claims ∧
      (State.startLookup card s).view.entries = s.view.entries := by simp [State.startLookup]

@[simp] theorem State.restorePrior_frame (s : State) :
    (State.restorePrior s).straps = s.straps ∧ (State.restorePrior s).clock = s.clock ∧
      (State.restorePrior s).line = s.line ∧ (State.restorePrior s).peers = s.peers ∧
      (State.restorePrior s).time = s.time ∧ (State.restorePrior s).dock = s.dock ∧
      (State.restorePrior s).card = s.card ∧ (State.restorePrior s).view = s.view ∧
      (State.restorePrior s).hire = s.hire ∧ (State.restorePrior s).van = s.van ∧
      (State.restorePrior s).port = s.port ∧ (State.restorePrior s).terminal = s.terminal ∧
      (State.restorePrior s).pending = s.pending ∧ (State.restorePrior s).tag.copy = s.tag.copy ∧
      (State.restorePrior s).settle.active = s.settle.active ∧
      (State.restorePrior s).settle.staging = s.settle.staging ∧
      (State.restorePrior s).fault.raised = s.fault.raised := by
  unfold State.restorePrior
  split <;> simp

@[simp] theorem State.offerWdr_frame (serial : BitVec 8) (member : Nat) (s : State) :
    (State.offerWdr serial member s).straps = s.straps ∧ (State.offerWdr serial member s).clock = s.clock ∧
      (State.offerWdr serial member s).peers = s.peers ∧ (State.offerWdr serial member s).time = s.time ∧
      (State.offerWdr serial member s).dock = s.dock ∧ (State.offerWdr serial member s).tag = s.tag ∧
      (State.offerWdr serial member s).card = s.card ∧ (State.offerWdr serial member s).view = s.view ∧
      (State.offerWdr serial member s).hire = s.hire ∧ (State.offerWdr serial member s).settle = s.settle ∧
      (State.offerWdr serial member s).fault = s.fault ∧ (State.offerWdr serial member s).van = s.van ∧
      (State.offerWdr serial member s).port = s.port ∧ (State.offerWdr serial member s).terminal = s.terminal ∧
      (State.offerWdr serial member s).pending = s.pending ∧
      (State.offerWdr serial member s).line.serial = s.line.serial ∧
      (State.offerWdr serial member s).line.lastSender = s.line.lastSender ∧
      (State.offerWdr serial member s).line.quiet = s.line.quiet ∧
      (State.offerWdr serial member s).line.stuck = s.line.stuck ∧
      (State.offerWdr serial member s).line.clash = s.line.clash ∧
      (State.offerWdr serial member s).line.rx = s.line.rx := by simp [State.offerWdr]

@[simp] theorem State.offerVtk_frame (serial bikeId crew : Nat) (s : State) :
    (State.offerVtk serial bikeId crew s).straps = s.straps ∧
      (State.offerVtk serial bikeId crew s).clock = s.clock ∧
      (State.offerVtk serial bikeId crew s).peers = s.peers ∧ (State.offerVtk serial bikeId crew s).time = s.time ∧
      (State.offerVtk serial bikeId crew s).dock = s.dock ∧ (State.offerVtk serial bikeId crew s).tag = s.tag ∧
      (State.offerVtk serial bikeId crew s).card = s.card ∧ (State.offerVtk serial bikeId crew s).view = s.view ∧
      (State.offerVtk serial bikeId crew s).hire = s.hire ∧
      (State.offerVtk serial bikeId crew s).settle = s.settle ∧
      (State.offerVtk serial bikeId crew s).fault = s.fault ∧ (State.offerVtk serial bikeId crew s).van = s.van ∧
      (State.offerVtk serial bikeId crew s).port = s.port ∧
      (State.offerVtk serial bikeId crew s).terminal = s.terminal ∧
      (State.offerVtk serial bikeId crew s).pending = s.pending ∧
      (State.offerVtk serial bikeId crew s).line.serial = s.line.serial ∧
      (State.offerVtk serial bikeId crew s).line.lastSender = s.line.lastSender ∧
      (State.offerVtk serial bikeId crew s).line.quiet = s.line.quiet ∧
      (State.offerVtk serial bikeId crew s).line.stuck = s.line.stuck ∧
      (State.offerVtk serial bikeId crew s).line.clash = s.line.clash ∧
      (State.offerVtk serial bikeId crew s).line.rx = s.line.rx := by simp [State.offerVtk]

@[simp] theorem State.offerHir_frame (r : HireRecord) (s : State) :
    (State.offerHir r s).straps = s.straps ∧ (State.offerHir r s).clock = s.clock ∧
      (State.offerHir r s).peers = s.peers ∧ (State.offerHir r s).time = s.time ∧
      (State.offerHir r s).dock = s.dock ∧ (State.offerHir r s).tag = s.tag ∧ (State.offerHir r s).card = s.card ∧
      (State.offerHir r s).view = s.view ∧ (State.offerHir r s).hire = s.hire ∧
      (State.offerHir r s).settle = s.settle ∧ (State.offerHir r s).fault = s.fault ∧
      (State.offerHir r s).van = s.van ∧ (State.offerHir r s).port = s.port ∧
      (State.offerHir r s).terminal = s.terminal ∧ (State.offerHir r s).pending = s.pending ∧
      (State.offerHir r s).line.serial = s.line.serial ∧ (State.offerHir r s).line.lastSender = s.line.lastSender ∧
      (State.offerHir r s).line.quiet = s.line.quiet ∧ (State.offerHir r s).line.stuck = s.line.stuck ∧
      (State.offerHir r s).line.clash = s.line.clash ∧ (State.offerHir r s).line.rx = s.line.rx := by
  unfold State.offerHir
  split <;> simp

@[simp] theorem State.withdrawClaim_frame (s : State) :
    (State.withdrawClaim s).straps = s.straps ∧ (State.withdrawClaim s).clock = s.clock ∧
      (State.withdrawClaim s).peers = s.peers ∧ (State.withdrawClaim s).time = s.time ∧
      (State.withdrawClaim s).dock = s.dock ∧ (State.withdrawClaim s).tag = s.tag ∧
      (State.withdrawClaim s).card = s.card ∧ (State.withdrawClaim s).view = s.view ∧
      (State.withdrawClaim s).hire = s.hire ∧ (State.withdrawClaim s).settle = s.settle ∧
      (State.withdrawClaim s).fault = s.fault ∧ (State.withdrawClaim s).van = s.van ∧
      (State.withdrawClaim s).port = s.port ∧ (State.withdrawClaim s).terminal = s.terminal ∧
      (State.withdrawClaim s).pending = s.pending ∧ (State.withdrawClaim s).line.serial = s.line.serial ∧
      (State.withdrawClaim s).line.lastSender = s.line.lastSender ∧
      (State.withdrawClaim s).line.quiet = s.line.quiet ∧ (State.withdrawClaim s).line.stuck = s.line.stuck ∧
      (State.withdrawClaim s).line.clash = s.line.clash ∧ (State.withdrawClaim s).line.rx = s.line.rx := by
  unfold State.withdrawClaim
  split <;> simp

@[simp] theorem State.announceTake_frame (r : HireRecord) (s : State) :
    (State.announceTake r s).straps = s.straps ∧ (State.announceTake r s).clock = s.clock ∧
      (State.announceTake r s).peers = s.peers ∧ (State.announceTake r s).time = s.time ∧
      (State.announceTake r s).dock = s.dock ∧ (State.announceTake r s).tag = s.tag ∧
      (State.announceTake r s).card = s.card ∧ (State.announceTake r s).view = s.view ∧
      (State.announceTake r s).hire = s.hire ∧ (State.announceTake r s).settle = s.settle ∧
      (State.announceTake r s).fault = s.fault ∧ (State.announceTake r s).van = s.van ∧
      (State.announceTake r s).port = s.port ∧ (State.announceTake r s).terminal = s.terminal ∧
      (State.announceTake r s).pending = s.pending ∧ (State.announceTake r s).line.serial = s.line.serial ∧
      (State.announceTake r s).line.lastSender = s.line.lastSender ∧
      (State.announceTake r s).line.quiet = s.line.quiet ∧ (State.announceTake r s).line.stuck = s.line.stuck ∧
      (State.announceTake r s).line.clash = s.line.clash ∧ (State.announceTake r s).line.rx = s.line.rx := by
  unfold State.announceTake
  (repeat' split) <;> simp

@[simp] theorem State.endSelfTest_frame (s : State) :
    (State.endSelfTest s).straps = s.straps ∧ (State.endSelfTest s).clock = s.clock ∧
      (State.endSelfTest s).peers = s.peers ∧ (State.endSelfTest s).time = s.time ∧
      (State.endSelfTest s).tag = s.tag ∧ (State.endSelfTest s).card = s.card ∧
      (State.endSelfTest s).view = s.view ∧ (State.endSelfTest s).hire = s.hire ∧
      (State.endSelfTest s).settle = s.settle ∧ (State.endSelfTest s).fault = s.fault ∧
      (State.endSelfTest s).port = s.port ∧ (State.endSelfTest s).terminal = s.terminal ∧
      (State.endSelfTest s).pending = s.pending ∧ (State.endSelfTest s).line.serial = s.line.serial ∧
      (State.endSelfTest s).line.lastSender = s.line.lastSender ∧ (State.endSelfTest s).line.quiet = s.line.quiet ∧
      (State.endSelfTest s).line.stuck = s.line.stuck ∧ (State.endSelfTest s).line.clash = s.line.clash ∧
      (State.endSelfTest s).line.rx = s.line.rx ∧ (State.endSelfTest s).dock.bolt = s.dock.bolt ∧
      (State.endSelfTest s).dock.coil = s.dock.coil ∧ (State.endSelfTest s).dock.pullInEndAt = s.dock.pullInEndAt ∧
      (State.endSelfTest s).dock.docked = s.dock.docked ∧ (State.endSelfTest s).dock.count = s.dock.count ∧
      (State.endSelfTest s).van.window = s.van.window ∧ (State.endSelfTest s).van.hold = s.van.hold ∧
      (State.endSelfTest s).van.target = s.van.target := by
  unfold State.endSelfTest
  split <;> simp

@[simp] theorem State.hireIdle_frame (s : State) :
    (State.hireIdle s).straps = s.straps ∧ (State.hireIdle s).clock = s.clock ∧
      (State.hireIdle s).peers = s.peers ∧ (State.hireIdle s).time = s.time ∧ (State.hireIdle s).dock = s.dock ∧
      (State.hireIdle s).tag = s.tag ∧ (State.hireIdle s).card = s.card ∧ (State.hireIdle s).view = s.view ∧
      (State.hireIdle s).settle = s.settle ∧ (State.hireIdle s).fault = s.fault ∧
      (State.hireIdle s).port = s.port ∧ (State.hireIdle s).terminal = s.terminal ∧
      (State.hireIdle s).pending = s.pending ∧ (State.hireIdle s).line.serial = s.line.serial ∧
      (State.hireIdle s).line.lastSender = s.line.lastSender ∧ (State.hireIdle s).line.quiet = s.line.quiet ∧
      (State.hireIdle s).line.stuck = s.line.stuck ∧ (State.hireIdle s).line.clash = s.line.clash ∧
      (State.hireIdle s).line.rx = s.line.rx ∧ (State.hireIdle s).hire.claims = s.hire.claims ∧
      (State.hireIdle s).van.window = s.van.window ∧ (State.hireIdle s).van.hold = s.van.hold ∧
      (State.hireIdle s).van.target = s.van.target := by simp [State.hireIdle]

@[simp] theorem State.enterClosing_frame (s : State) :
    (State.enterClosing s).straps = s.straps ∧ (State.enterClosing s).clock = s.clock ∧
      (State.enterClosing s).peers = s.peers ∧ (State.enterClosing s).time = s.time ∧
      (State.enterClosing s).tag = s.tag ∧ (State.enterClosing s).card = s.card ∧
      (State.enterClosing s).view = s.view ∧ (State.enterClosing s).hire = s.hire ∧
      (State.enterClosing s).settle = s.settle ∧ (State.enterClosing s).fault = s.fault ∧
      (State.enterClosing s).port = s.port ∧ (State.enterClosing s).terminal = s.terminal ∧
      (State.enterClosing s).pending = s.pending ∧ (State.enterClosing s).line.serial = s.line.serial ∧
      (State.enterClosing s).line.lastSender = s.line.lastSender ∧
      (State.enterClosing s).line.quiet = s.line.quiet ∧ (State.enterClosing s).line.stuck = s.line.stuck ∧
      (State.enterClosing s).line.clash = s.line.clash ∧ (State.enterClosing s).line.rx = s.line.rx ∧
      (State.enterClosing s).van.window = s.van.window ∧ (State.enterClosing s).van.hold = s.van.hold ∧
      (State.enterClosing s).van.target = s.van.target := by simp [State.enterClosing]

@[simp] theorem State.boltHeld_frame (s : State) :
    (State.boltHeld s).straps = s.straps ∧ (State.boltHeld s).clock = s.clock ∧
      (State.boltHeld s).peers = s.peers ∧ (State.boltHeld s).time = s.time ∧ (State.boltHeld s).tag = s.tag ∧
      (State.boltHeld s).card = s.card ∧ (State.boltHeld s).view = s.view ∧ (State.boltHeld s).hire = s.hire ∧
      (State.boltHeld s).settle = s.settle ∧ (State.boltHeld s).fault = s.fault ∧
      (State.boltHeld s).port = s.port ∧ (State.boltHeld s).terminal = s.terminal ∧
      (State.boltHeld s).pending = s.pending ∧ (State.boltHeld s).line.serial = s.line.serial ∧
      (State.boltHeld s).line.lastSender = s.line.lastSender ∧ (State.boltHeld s).line.quiet = s.line.quiet ∧
      (State.boltHeld s).line.stuck = s.line.stuck ∧ (State.boltHeld s).line.clash = s.line.clash ∧
      (State.boltHeld s).line.rx = s.line.rx ∧ (State.boltHeld s).dock.coil = s.dock.coil ∧
      (State.boltHeld s).dock.pullInEndAt = s.dock.pullInEndAt ∧ (State.boltHeld s).dock.docked = s.dock.docked ∧
      (State.boltHeld s).dock.count = s.dock.count ∧ (State.boltHeld s).van.window = s.van.window ∧
      (State.boltHeld s).van.hold = s.van.hold ∧ (State.boltHeld s).van.target = s.van.target := by
  unfold State.boltHeld
  split <;> simp

@[simp] theorem State.clearForSelfTest_frame (s : State) :
    (State.clearForSelfTest s).straps = s.straps ∧ (State.clearForSelfTest s).clock = s.clock ∧
      (State.clearForSelfTest s).peers = s.peers ∧ (State.clearForSelfTest s).time = s.time ∧
      (State.clearForSelfTest s).tag = s.tag ∧ (State.clearForSelfTest s).card = s.card ∧
      (State.clearForSelfTest s).view = s.view ∧ (State.clearForSelfTest s).hire = s.hire ∧
      (State.clearForSelfTest s).settle = s.settle ∧ (State.clearForSelfTest s).port = s.port ∧
      (State.clearForSelfTest s).terminal = s.terminal ∧ (State.clearForSelfTest s).pending = s.pending ∧
      (State.clearForSelfTest s).line.serial = s.line.serial ∧
      (State.clearForSelfTest s).line.lastSender = s.line.lastSender ∧
      (State.clearForSelfTest s).line.quiet = s.line.quiet ∧ (State.clearForSelfTest s).line.stuck = s.line.stuck ∧
      (State.clearForSelfTest s).line.clash = s.line.clash ∧ (State.clearForSelfTest s).line.rx = s.line.rx ∧
      (State.clearForSelfTest s).dock.bolt = s.dock.bolt ∧ (State.clearForSelfTest s).dock.coil = s.dock.coil ∧
      (State.clearForSelfTest s).dock.pullInEndAt = s.dock.pullInEndAt ∧
      (State.clearForSelfTest s).dock.docked = s.dock.docked ∧
      (State.clearForSelfTest s).dock.count = s.dock.count ∧ (State.clearForSelfTest s).van.window = s.van.window ∧
      (State.clearForSelfTest s).van.hold = s.van.hold ∧ (State.clearForSelfTest s).van.target = s.van.target := by simp [State.clearForSelfTest]

@[simp] theorem State.refuse_frame (group : Nat) (s : State) :
    (State.refuse group s).straps = s.straps ∧ (State.refuse group s).clock = s.clock ∧
      (State.refuse group s).peers = s.peers ∧ (State.refuse group s).time = s.time ∧
      (State.refuse group s).tag = s.tag ∧ (State.refuse group s).card = s.card ∧
      (State.refuse group s).view = s.view ∧ (State.refuse group s).settle = s.settle ∧
      (State.refuse group s).fault = s.fault ∧ (State.refuse group s).port = s.port ∧
      (State.refuse group s).terminal = s.terminal ∧ (State.refuse group s).pending = s.pending ∧
      (State.refuse group s).line.serial = s.line.serial ∧
      (State.refuse group s).line.lastSender = s.line.lastSender ∧
      (State.refuse group s).line.quiet = s.line.quiet ∧ (State.refuse group s).line.stuck = s.line.stuck ∧
      (State.refuse group s).line.clash = s.line.clash ∧ (State.refuse group s).line.rx = s.line.rx ∧
      (State.refuse group s).dock.bolt = s.dock.bolt ∧ (State.refuse group s).dock.coil = s.dock.coil ∧
      (State.refuse group s).dock.pullInEndAt = s.dock.pullInEndAt ∧
      (State.refuse group s).dock.docked = s.dock.docked ∧ (State.refuse group s).dock.count = s.dock.count ∧
      (State.refuse group s).hire.claims = s.hire.claims ∧ (State.refuse group s).van.window = s.van.window ∧
      (State.refuse group s).van.hold = s.van.hold ∧ (State.refuse group s).van.target = s.van.target := by simp [State.refuse]

@[simp] theorem State.hireTakes_frame (s : State) :
    (State.hireTakes s).straps = s.straps ∧ (State.hireTakes s).clock = s.clock ∧
      (State.hireTakes s).peers = s.peers ∧ (State.hireTakes s).time = s.time ∧ (State.hireTakes s).dock = s.dock ∧
      (State.hireTakes s).tag = s.tag ∧ (State.hireTakes s).card = s.card ∧ (State.hireTakes s).view = s.view ∧
      (State.hireTakes s).settle = s.settle ∧ (State.hireTakes s).fault = s.fault ∧
      (State.hireTakes s).port = s.port ∧ (State.hireTakes s).terminal = s.terminal ∧
      (State.hireTakes s).pending = s.pending ∧ (State.hireTakes s).line.serial = s.line.serial ∧
      (State.hireTakes s).line.lastSender = s.line.lastSender ∧ (State.hireTakes s).line.quiet = s.line.quiet ∧
      (State.hireTakes s).line.stuck = s.line.stuck ∧ (State.hireTakes s).line.clash = s.line.clash ∧
      (State.hireTakes s).line.rx = s.line.rx ∧ (State.hireTakes s).hire.claims = s.hire.claims ∧
      (State.hireTakes s).van.window = s.van.window ∧ (State.hireTakes s).van.hold = s.van.hold ∧
      (State.hireTakes s).van.target = s.van.target := by
  unfold State.hireTakes
  split <;> simp

@[simp] theorem State.cancelOver_frame (s : State) :
    (State.cancelOver s).straps = s.straps ∧ (State.cancelOver s).clock = s.clock ∧
      (State.cancelOver s).peers = s.peers ∧ (State.cancelOver s).time = s.time ∧
      (State.cancelOver s).dock = s.dock ∧ (State.cancelOver s).tag = s.tag ∧ (State.cancelOver s).card = s.card ∧
      (State.cancelOver s).view = s.view ∧ (State.cancelOver s).settle = s.settle ∧
      (State.cancelOver s).fault = s.fault ∧ (State.cancelOver s).port = s.port ∧
      (State.cancelOver s).terminal = s.terminal ∧ (State.cancelOver s).pending = s.pending ∧
      (State.cancelOver s).line.serial = s.line.serial ∧ (State.cancelOver s).line.lastSender = s.line.lastSender ∧
      (State.cancelOver s).line.quiet = s.line.quiet ∧ (State.cancelOver s).line.stuck = s.line.stuck ∧
      (State.cancelOver s).line.clash = s.line.clash ∧ (State.cancelOver s).line.rx = s.line.rx ∧
      (State.cancelOver s).hire.claims = s.hire.claims ∧ (State.cancelOver s).van.window = s.van.window ∧
      (State.cancelOver s).van.hold = s.van.hold ∧ (State.cancelOver s).van.target = s.van.target := by simp [State.cancelOver]

@[simp] theorem State.jam_frame (s : State) :
    (State.jam s).straps = s.straps ∧ (State.jam s).clock = s.clock ∧ (State.jam s).peers = s.peers ∧
      (State.jam s).time = s.time ∧ (State.jam s).tag = s.tag ∧ (State.jam s).card = s.card ∧
      (State.jam s).view = s.view ∧ (State.jam s).hire = s.hire ∧ (State.jam s).settle = s.settle ∧
      (State.jam s).port = s.port ∧ (State.jam s).terminal = s.terminal ∧ (State.jam s).pending = s.pending ∧
      (State.jam s).line.serial = s.line.serial ∧ (State.jam s).line.lastSender = s.line.lastSender ∧
      (State.jam s).line.quiet = s.line.quiet ∧ (State.jam s).line.stuck = s.line.stuck ∧
      (State.jam s).line.clash = s.line.clash ∧ (State.jam s).line.rx = s.line.rx ∧
      (State.jam s).van.window = s.van.window ∧ (State.jam s).van.hold = s.van.hold ∧
      (State.jam s).van.target = s.van.target := by simp [State.jam]

@[simp] theorem State.refuseWithdrawing_frame (group : Nat) (s : State) :
    (State.refuseWithdrawing group s).straps = s.straps ∧ (State.refuseWithdrawing group s).clock = s.clock ∧
      (State.refuseWithdrawing group s).peers = s.peers ∧ (State.refuseWithdrawing group s).time = s.time ∧
      (State.refuseWithdrawing group s).tag = s.tag ∧ (State.refuseWithdrawing group s).card = s.card ∧
      (State.refuseWithdrawing group s).view = s.view ∧ (State.refuseWithdrawing group s).settle = s.settle ∧
      (State.refuseWithdrawing group s).fault = s.fault ∧ (State.refuseWithdrawing group s).port = s.port ∧
      (State.refuseWithdrawing group s).terminal = s.terminal ∧
      (State.refuseWithdrawing group s).pending = s.pending ∧
      (State.refuseWithdrawing group s).line.serial = s.line.serial ∧
      (State.refuseWithdrawing group s).line.lastSender = s.line.lastSender ∧
      (State.refuseWithdrawing group s).line.quiet = s.line.quiet ∧
      (State.refuseWithdrawing group s).line.stuck = s.line.stuck ∧
      (State.refuseWithdrawing group s).line.clash = s.line.clash ∧
      (State.refuseWithdrawing group s).line.rx = s.line.rx ∧
      (State.refuseWithdrawing group s).dock.bolt = s.dock.bolt ∧
      (State.refuseWithdrawing group s).dock.coil = s.dock.coil ∧
      (State.refuseWithdrawing group s).dock.pullInEndAt = s.dock.pullInEndAt ∧
      (State.refuseWithdrawing group s).dock.docked = s.dock.docked ∧
      (State.refuseWithdrawing group s).dock.count = s.dock.count ∧
      (State.refuseWithdrawing group s).hire.claims = s.hire.claims ∧
      (State.refuseWithdrawing group s).van.window = s.van.window ∧
      (State.refuseWithdrawing group s).van.hold = s.van.hold ∧
      (State.refuseWithdrawing group s).van.target = s.van.target := by simp [State.refuseWithdrawing]

@[simp] theorem State.enterCancelling_frame (group : Option Nat) (s : State) :
    (State.enterCancelling group s).straps = s.straps ∧ (State.enterCancelling group s).clock = s.clock ∧
      (State.enterCancelling group s).peers = s.peers ∧ (State.enterCancelling group s).time = s.time ∧
      (State.enterCancelling group s).card = s.card ∧ (State.enterCancelling group s).view = s.view ∧
      (State.enterCancelling group s).port = s.port ∧ (State.enterCancelling group s).terminal = s.terminal ∧
      (State.enterCancelling group s).pending = s.pending ∧
      (State.enterCancelling group s).line.serial = s.line.serial ∧
      (State.enterCancelling group s).line.lastSender = s.line.lastSender ∧
      (State.enterCancelling group s).line.quiet = s.line.quiet ∧
      (State.enterCancelling group s).line.stuck = s.line.stuck ∧
      (State.enterCancelling group s).line.clash = s.line.clash ∧
      (State.enterCancelling group s).line.rx = s.line.rx ∧
      (State.enterCancelling group s).dock.bolt = s.dock.bolt ∧
      (State.enterCancelling group s).dock.coil = s.dock.coil ∧
      (State.enterCancelling group s).dock.pullInEndAt = s.dock.pullInEndAt ∧
      (State.enterCancelling group s).dock.docked = s.dock.docked ∧
      (State.enterCancelling group s).dock.count = s.dock.count ∧
      (State.enterCancelling group s).hire.claims = s.hire.claims ∧
      (State.enterCancelling group s).tag.copy = s.tag.copy ∧
      (State.enterCancelling group s).van.window = s.van.window ∧
      (State.enterCancelling group s).van.hold = s.van.hold ∧
      (State.enterCancelling group s).van.target = s.van.target ∧
      (State.enterCancelling group s).settle.active = s.settle.active ∧
      (State.enterCancelling group s).settle.staging = s.settle.staging ∧
      (State.enterCancelling group s).fault.raised = s.fault.raised := by
  unfold State.enterCancelling
  cases group <;>
    (dsimp only
     split
     · simp
     · split <;>
         (rename_i heq; have h1 := congrArg Prod.fst heq; dsimp only at h1; subst h1; simp))

@[simp] theorem State.claim_frame (s : State) :
    (State.claim s).straps = s.straps ∧ (State.claim s).clock = s.clock ∧ (State.claim s).peers = s.peers ∧
      (State.claim s).time = s.time ∧ (State.claim s).tag = s.tag ∧ (State.claim s).card = s.card ∧
      (State.claim s).view = s.view ∧ (State.claim s).settle = s.settle ∧ (State.claim s).fault = s.fault ∧
      (State.claim s).port = s.port ∧ (State.claim s).terminal = s.terminal ∧ (State.claim s).pending = s.pending ∧
      (State.claim s).line.serial = s.line.serial ∧ (State.claim s).line.lastSender = s.line.lastSender ∧
      (State.claim s).line.quiet = s.line.quiet ∧ (State.claim s).line.stuck = s.line.stuck ∧
      (State.claim s).line.clash = s.line.clash ∧ (State.claim s).line.rx = s.line.rx ∧
      (State.claim s).dock.bolt = s.dock.bolt ∧ (State.claim s).dock.coil = s.dock.coil ∧
      (State.claim s).dock.pullInEndAt = s.dock.pullInEndAt ∧ (State.claim s).dock.docked = s.dock.docked ∧
      (State.claim s).dock.count = s.dock.count ∧ (State.claim s).hire.claims = s.hire.claims ∧
      (State.claim s).van.window = s.van.window ∧ (State.claim s).van.hold = s.van.hold ∧
      (State.claim s).van.target = s.van.target := by
  unfold State.claim
  split
  · split <;>
      (rename_i heq; have h1 := congrArg Prod.fst heq; dsimp only at h1; subst h1; simp)
  · simp

@[simp] theorem State.clmBusy_frame (ref : Nat) (s : State) :
    (State.clmBusy ref s).straps = s.straps ∧ (State.clmBusy ref s).clock = s.clock ∧
      (State.clmBusy ref s).peers = s.peers ∧ (State.clmBusy ref s).time = s.time ∧
      (State.clmBusy ref s).tag = s.tag ∧ (State.clmBusy ref s).card = s.card ∧
      (State.clmBusy ref s).view = s.view ∧ (State.clmBusy ref s).settle = s.settle ∧
      (State.clmBusy ref s).fault = s.fault ∧ (State.clmBusy ref s).port = s.port ∧
      (State.clmBusy ref s).terminal = s.terminal ∧ (State.clmBusy ref s).pending = s.pending ∧
      (State.clmBusy ref s).line.serial = s.line.serial ∧
      (State.clmBusy ref s).line.lastSender = s.line.lastSender ∧ (State.clmBusy ref s).line.quiet = s.line.quiet ∧
      (State.clmBusy ref s).line.stuck = s.line.stuck ∧ (State.clmBusy ref s).line.clash = s.line.clash ∧
      (State.clmBusy ref s).line.rx = s.line.rx ∧ (State.clmBusy ref s).dock.bolt = s.dock.bolt ∧
      (State.clmBusy ref s).dock.coil = s.dock.coil ∧ (State.clmBusy ref s).dock.pullInEndAt = s.dock.pullInEndAt ∧
      (State.clmBusy ref s).dock.docked = s.dock.docked ∧ (State.clmBusy ref s).dock.count = s.dock.count ∧
      (State.clmBusy ref s).hire.claims = s.hire.claims ∧ (State.clmBusy ref s).van.window = s.van.window ∧
      (State.clmBusy ref s).van.hold = s.van.hold ∧ (State.clmBusy ref s).van.target = s.van.target := by
  unfold State.clmBusy
  split <;> simp

@[simp] theorem State.lineRestart_frame (s : State) :
    (State.lineRestart s).straps = s.straps ∧ (State.lineRestart s).clock = s.clock ∧
      (State.lineRestart s).time = s.time ∧ (State.lineRestart s).dock = s.dock ∧
      (State.lineRestart s).tag = s.tag ∧ (State.lineRestart s).card = s.card ∧
      (State.lineRestart s).view = s.view ∧ (State.lineRestart s).hire = s.hire ∧
      (State.lineRestart s).settle = s.settle ∧ (State.lineRestart s).port = s.port ∧
      (State.lineRestart s).terminal = s.terminal ∧ (State.lineRestart s).pending = s.pending ∧
      (State.lineRestart s).line.serial = s.line.serial ∧
      (State.lineRestart s).line.lastSender = s.line.lastSender ∧ (State.lineRestart s).line.quiet = s.line.quiet ∧
      (State.lineRestart s).line.stuck = s.line.stuck ∧ (State.lineRestart s).line.clash = s.line.clash ∧
      (State.lineRestart s).line.rx = s.line.rx ∧ (State.lineRestart s).van.window = s.van.window ∧
      (State.lineRestart s).van.hold = s.van.hold ∧ (State.lineRestart s).van.target = s.van.target ∧
      (State.lineRestart s).peers.adoptedId = s.peers.adoptedId ∧
      (State.lineRestart s).peers.entries = s.peers.entries := by
  unfold State.lineRestart
  split <;> simp

@[simp] theorem State.hireWriteLeft_frame (ref : Nat) (s : State) :
    (State.hireWriteLeft ref s).straps = s.straps ∧ (State.hireWriteLeft ref s).clock = s.clock ∧
      (State.hireWriteLeft ref s).peers = s.peers ∧ (State.hireWriteLeft ref s).time = s.time ∧
      (State.hireWriteLeft ref s).tag = s.tag ∧ (State.hireWriteLeft ref s).card = s.card ∧
      (State.hireWriteLeft ref s).view = s.view ∧ (State.hireWriteLeft ref s).settle = s.settle ∧
      (State.hireWriteLeft ref s).fault = s.fault ∧ (State.hireWriteLeft ref s).port = s.port ∧
      (State.hireWriteLeft ref s).terminal = s.terminal ∧ (State.hireWriteLeft ref s).pending = s.pending ∧
      (State.hireWriteLeft ref s).line.serial = s.line.serial ∧
      (State.hireWriteLeft ref s).line.lastSender = s.line.lastSender ∧
      (State.hireWriteLeft ref s).line.quiet = s.line.quiet ∧
      (State.hireWriteLeft ref s).line.stuck = s.line.stuck ∧
      (State.hireWriteLeft ref s).line.clash = s.line.clash ∧ (State.hireWriteLeft ref s).line.rx = s.line.rx ∧
      (State.hireWriteLeft ref s).dock.bolt = s.dock.bolt ∧ (State.hireWriteLeft ref s).dock.coil = s.dock.coil ∧
      (State.hireWriteLeft ref s).dock.pullInEndAt = s.dock.pullInEndAt ∧
      (State.hireWriteLeft ref s).dock.docked = s.dock.docked ∧
      (State.hireWriteLeft ref s).dock.count = s.dock.count ∧
      (State.hireWriteLeft ref s).hire.claims = s.hire.claims ∧
      (State.hireWriteLeft ref s).van.window = s.van.window ∧ (State.hireWriteLeft ref s).van.hold = s.van.hold ∧
      (State.hireWriteLeft ref s).van.target = s.van.target := by
  unfold State.hireWriteLeft
  (repeat' split) <;> simp

@[simp] theorem State.hireSeated_frame (s : State) :
    (State.hireSeated s).straps = s.straps ∧ (State.hireSeated s).clock = s.clock ∧
      (State.hireSeated s).peers = s.peers ∧ (State.hireSeated s).time = s.time ∧
      (State.hireSeated s).card = s.card ∧ (State.hireSeated s).view = s.view ∧
      (State.hireSeated s).port = s.port ∧ (State.hireSeated s).terminal = s.terminal ∧
      (State.hireSeated s).pending = s.pending ∧ (State.hireSeated s).line.serial = s.line.serial ∧
      (State.hireSeated s).line.lastSender = s.line.lastSender ∧ (State.hireSeated s).line.quiet = s.line.quiet ∧
      (State.hireSeated s).line.stuck = s.line.stuck ∧ (State.hireSeated s).line.clash = s.line.clash ∧
      (State.hireSeated s).line.rx = s.line.rx ∧ (State.hireSeated s).dock.bolt = s.dock.bolt ∧
      (State.hireSeated s).dock.coil = s.dock.coil ∧ (State.hireSeated s).dock.pullInEndAt = s.dock.pullInEndAt ∧
      (State.hireSeated s).dock.docked = s.dock.docked ∧ (State.hireSeated s).dock.count = s.dock.count ∧
      (State.hireSeated s).hire.claims = s.hire.claims ∧ (State.hireSeated s).tag.copy = s.tag.copy ∧
      (State.hireSeated s).van.window = s.van.window ∧ (State.hireSeated s).van.hold = s.van.hold ∧
      (State.hireSeated s).van.target = s.van.target ∧ (State.hireSeated s).settle.active = s.settle.active ∧
      (State.hireSeated s).settle.staging = s.settle.staging ∧ (State.hireSeated s).fault.raised = s.fault.raised := by
  unfold State.hireSeated
  split <;> simp

@[simp] theorem State.requestRelease_frame (s : State) :
    (State.requestRelease s).straps = s.straps ∧ (State.requestRelease s).clock = s.clock ∧
      (State.requestRelease s).peers = s.peers ∧ (State.requestRelease s).time = s.time ∧
      (State.requestRelease s).card = s.card ∧ (State.requestRelease s).view = s.view ∧
      (State.requestRelease s).port = s.port ∧ (State.requestRelease s).terminal = s.terminal ∧
      (State.requestRelease s).pending = s.pending ∧ (State.requestRelease s).line.serial = s.line.serial ∧
      (State.requestRelease s).line.lastSender = s.line.lastSender ∧
      (State.requestRelease s).line.quiet = s.line.quiet ∧ (State.requestRelease s).line.stuck = s.line.stuck ∧
      (State.requestRelease s).line.clash = s.line.clash ∧ (State.requestRelease s).line.rx = s.line.rx ∧
      (State.requestRelease s).dock.docked = s.dock.docked ∧ (State.requestRelease s).dock.count = s.dock.count ∧
      (State.requestRelease s).hire.claims = s.hire.claims ∧ (State.requestRelease s).tag.copy = s.tag.copy ∧
      (State.requestRelease s).van.window = s.van.window ∧ (State.requestRelease s).van.hold = s.van.hold ∧
      (State.requestRelease s).van.target = s.van.target ∧
      (State.requestRelease s).settle.active = s.settle.active ∧
      (State.requestRelease s).settle.staging = s.settle.staging ∧
      (State.requestRelease s).fault.raised = s.fault.raised := by
  simp only [State.requestRelease]
  split <;> simp [Dock.startPullIn]

@[simp] theorem State.requestHireWrite_frame (written : HireSection) (summary : Option RideSummary) (s : State) :
    (State.requestHireWrite written summary s).straps = s.straps ∧
      (State.requestHireWrite written summary s).clock = s.clock ∧
      (State.requestHireWrite written summary s).peers = s.peers ∧
      (State.requestHireWrite written summary s).time = s.time ∧
      (State.requestHireWrite written summary s).card = s.card ∧
      (State.requestHireWrite written summary s).view = s.view ∧
      (State.requestHireWrite written summary s).port = s.port ∧
      (State.requestHireWrite written summary s).terminal = s.terminal ∧
      (State.requestHireWrite written summary s).pending = s.pending ∧
      (State.requestHireWrite written summary s).line.serial = s.line.serial ∧
      (State.requestHireWrite written summary s).line.lastSender = s.line.lastSender ∧
      (State.requestHireWrite written summary s).line.quiet = s.line.quiet ∧
      (State.requestHireWrite written summary s).line.stuck = s.line.stuck ∧
      (State.requestHireWrite written summary s).line.clash = s.line.clash ∧
      (State.requestHireWrite written summary s).line.rx = s.line.rx ∧
      (State.requestHireWrite written summary s).dock.bolt = s.dock.bolt ∧
      (State.requestHireWrite written summary s).dock.coil = s.dock.coil ∧
      (State.requestHireWrite written summary s).dock.pullInEndAt = s.dock.pullInEndAt ∧
      (State.requestHireWrite written summary s).dock.docked = s.dock.docked ∧
      (State.requestHireWrite written summary s).dock.count = s.dock.count ∧
      (State.requestHireWrite written summary s).hire.claims = s.hire.claims ∧
      (State.requestHireWrite written summary s).tag.copy = s.tag.copy ∧
      (State.requestHireWrite written summary s).van.window = s.van.window ∧
      (State.requestHireWrite written summary s).van.hold = s.van.hold ∧
      (State.requestHireWrite written summary s).van.target = s.van.target ∧
      (State.requestHireWrite written summary s).settle.active = s.settle.active ∧
      (State.requestHireWrite written summary s).settle.staging = s.settle.staging ∧
      (State.requestHireWrite written summary s).fault.raised = s.fault.raised := by
  unfold State.requestHireWrite
  dsimp only
  (repeat' split) <;> first | (simp; done) | (rename_i heq; have h1 := congrArg Prod.fst heq; dsimp only at h1; subst h1; simp)

@[simp] theorem State.clmSent_frame (ref : Nat) (serial : BitVec 8) (at_ : Ms) (s : State) :
    (State.clmSent ref serial at_ s).straps = s.straps ∧ (State.clmSent ref serial at_ s).clock = s.clock ∧
      (State.clmSent ref serial at_ s).peers = s.peers ∧ (State.clmSent ref serial at_ s).time = s.time ∧
      (State.clmSent ref serial at_ s).dock = s.dock ∧ (State.clmSent ref serial at_ s).tag = s.tag ∧
      (State.clmSent ref serial at_ s).card = s.card ∧ (State.clmSent ref serial at_ s).view = s.view ∧
      (State.clmSent ref serial at_ s).settle = s.settle ∧ (State.clmSent ref serial at_ s).fault = s.fault ∧
      (State.clmSent ref serial at_ s).van = s.van ∧ (State.clmSent ref serial at_ s).port = s.port ∧
      (State.clmSent ref serial at_ s).terminal = s.terminal ∧
      (State.clmSent ref serial at_ s).pending = s.pending ∧
      (State.clmSent ref serial at_ s).line.serial = s.line.serial ∧
      (State.clmSent ref serial at_ s).line.lastSender = s.line.lastSender ∧
      (State.clmSent ref serial at_ s).line.quiet = s.line.quiet ∧
      (State.clmSent ref serial at_ s).line.stuck = s.line.stuck ∧
      (State.clmSent ref serial at_ s).line.clash = s.line.clash ∧
      (State.clmSent ref serial at_ s).line.rx = s.line.rx ∧
      (State.clmSent ref serial at_ s).hire.state = s.hire.state ∧
      (State.clmSent ref serial at_ s).hire.claims = s.hire.claims := by
  unfold State.clmSent
  (repeat' split) <;> simp

@[simp] theorem State.answerBusy_frame (s : State) (e : TxEntry) :
    (State.answerBusy s e).straps = s.straps ∧ (State.answerBusy s e).clock = s.clock ∧
      (State.answerBusy s e).peers = s.peers ∧ (State.answerBusy s e).time = s.time ∧
      (State.answerBusy s e).tag = s.tag ∧ (State.answerBusy s e).card = s.card ∧
      (State.answerBusy s e).view = s.view ∧ (State.answerBusy s e).settle = s.settle ∧
      (State.answerBusy s e).fault = s.fault ∧ (State.answerBusy s e).port = s.port ∧
      (State.answerBusy s e).terminal = s.terminal ∧ (State.answerBusy s e).pending = s.pending ∧
      (State.answerBusy s e).line.serial = s.line.serial ∧
      (State.answerBusy s e).line.lastSender = s.line.lastSender ∧
      (State.answerBusy s e).line.quiet = s.line.quiet ∧ (State.answerBusy s e).line.stuck = s.line.stuck ∧
      (State.answerBusy s e).line.clash = s.line.clash ∧ (State.answerBusy s e).line.rx = s.line.rx ∧
      (State.answerBusy s e).dock.bolt = s.dock.bolt ∧ (State.answerBusy s e).dock.coil = s.dock.coil ∧
      (State.answerBusy s e).dock.pullInEndAt = s.dock.pullInEndAt ∧
      (State.answerBusy s e).dock.docked = s.dock.docked ∧ (State.answerBusy s e).dock.count = s.dock.count ∧
      (State.answerBusy s e).hire.claims = s.hire.claims ∧ (State.answerBusy s e).van.window = s.van.window ∧
      (State.answerBusy s e).van.hold = s.van.hold ∧ (State.answerBusy s e).van.target = s.van.target := by
  unfold State.answerBusy
  (repeat' split) <;> simp

@[simp] theorem State.claimWith_frame (a : Answer) (s : State) :
    (State.claimWith a s).straps = s.straps ∧ (State.claimWith a s).clock = s.clock ∧
      (State.claimWith a s).peers = s.peers ∧ (State.claimWith a s).time = s.time ∧
      (State.claimWith a s).tag = s.tag ∧ (State.claimWith a s).card = s.card ∧
      (State.claimWith a s).view = s.view ∧ (State.claimWith a s).settle = s.settle ∧
      (State.claimWith a s).fault = s.fault ∧ (State.claimWith a s).port = s.port ∧
      (State.claimWith a s).terminal = s.terminal ∧ (State.claimWith a s).pending = s.pending ∧
      (State.claimWith a s).line.serial = s.line.serial ∧
      (State.claimWith a s).line.lastSender = s.line.lastSender ∧ (State.claimWith a s).line.quiet = s.line.quiet ∧
      (State.claimWith a s).line.stuck = s.line.stuck ∧ (State.claimWith a s).line.clash = s.line.clash ∧
      (State.claimWith a s).line.rx = s.line.rx ∧ (State.claimWith a s).dock.bolt = s.dock.bolt ∧
      (State.claimWith a s).dock.coil = s.dock.coil ∧ (State.claimWith a s).dock.pullInEndAt = s.dock.pullInEndAt ∧
      (State.claimWith a s).dock.docked = s.dock.docked ∧ (State.claimWith a s).dock.count = s.dock.count ∧
      (State.claimWith a s).hire.claims = s.hire.claims ∧ (State.claimWith a s).van.window = s.van.window ∧
      (State.claimWith a s).van.hold = s.van.hold ∧ (State.claimWith a s).van.target = s.van.target := by simp [State.claimWith]

@[simp] theorem State.cancelByState_frame (s : State) :
    (State.cancelByState s).straps = s.straps ∧ (State.cancelByState s).clock = s.clock ∧
      (State.cancelByState s).peers = s.peers ∧ (State.cancelByState s).time = s.time ∧
      (State.cancelByState s).dock = s.dock ∧ (State.cancelByState s).card = s.card ∧
      (State.cancelByState s).van = s.van ∧ (State.cancelByState s).port = s.port ∧
      (State.cancelByState s).terminal = s.terminal ∧ (State.cancelByState s).pending = s.pending ∧
      (State.cancelByState s).line.serial = s.line.serial ∧
      (State.cancelByState s).line.lastSender = s.line.lastSender ∧
      (State.cancelByState s).line.quiet = s.line.quiet ∧ (State.cancelByState s).line.stuck = s.line.stuck ∧
      (State.cancelByState s).line.clash = s.line.clash ∧ (State.cancelByState s).line.rx = s.line.rx ∧
      (State.cancelByState s).hire.state = s.hire.state ∧ (State.cancelByState s).hire.claims = s.hire.claims ∧
      (State.cancelByState s).tag.copy = s.tag.copy ∧ (State.cancelByState s).settle.active = s.settle.active ∧
      (State.cancelByState s).settle.staging = s.settle.staging ∧
      (State.cancelByState s).fault.raised = s.fault.raised ∧
      (State.cancelByState s).view.entries = s.view.entries := by
  unfold State.cancelByState
  (repeat' split) <;> simp

@[simp] theorem State.writeLeft_frame (s : State) (r : WriteRequest) :
    (State.writeLeft s r).straps = s.straps ∧ (State.writeLeft s r).clock = s.clock ∧
      (State.writeLeft s r).peers = s.peers ∧ (State.writeLeft s r).time = s.time ∧
      (State.writeLeft s r).tag = s.tag ∧ (State.writeLeft s r).card = s.card ∧
      (State.writeLeft s r).view = s.view ∧ (State.writeLeft s r).settle = s.settle ∧
      (State.writeLeft s r).fault = s.fault ∧ (State.writeLeft s r).port = s.port ∧
      (State.writeLeft s r).terminal = s.terminal ∧ (State.writeLeft s r).pending = s.pending ∧
      (State.writeLeft s r).line.serial = s.line.serial ∧
      (State.writeLeft s r).line.lastSender = s.line.lastSender ∧ (State.writeLeft s r).line.quiet = s.line.quiet ∧
      (State.writeLeft s r).line.stuck = s.line.stuck ∧ (State.writeLeft s r).line.clash = s.line.clash ∧
      (State.writeLeft s r).line.rx = s.line.rx ∧ (State.writeLeft s r).dock.bolt = s.dock.bolt ∧
      (State.writeLeft s r).dock.coil = s.dock.coil ∧ (State.writeLeft s r).dock.pullInEndAt = s.dock.pullInEndAt ∧
      (State.writeLeft s r).dock.docked = s.dock.docked ∧ (State.writeLeft s r).dock.count = s.dock.count ∧
      (State.writeLeft s r).hire.claims = s.hire.claims ∧ (State.writeLeft s r).van.window = s.van.window ∧
      (State.writeLeft s r).van.hold = s.van.hold ∧ (State.writeLeft s r).van.target = s.van.target := by
  unfold State.writeLeft
  split <;> simp

@[simp] theorem State.reportSeated_frame (s : State) :
    (State.reportSeated s).straps = s.straps ∧ (State.reportSeated s).clock = s.clock ∧
      (State.reportSeated s).peers = s.peers ∧ (State.reportSeated s).time = s.time ∧
      (State.reportSeated s).card = s.card ∧ (State.reportSeated s).view = s.view ∧
      (State.reportSeated s).port = s.port ∧ (State.reportSeated s).terminal = s.terminal ∧
      (State.reportSeated s).pending = s.pending ∧ (State.reportSeated s).line.serial = s.line.serial ∧
      (State.reportSeated s).line.lastSender = s.line.lastSender ∧
      (State.reportSeated s).line.quiet = s.line.quiet ∧ (State.reportSeated s).line.stuck = s.line.stuck ∧
      (State.reportSeated s).line.clash = s.line.clash ∧ (State.reportSeated s).line.rx = s.line.rx ∧
      (State.reportSeated s).dock.bolt = s.dock.bolt ∧ (State.reportSeated s).dock.coil = s.dock.coil ∧
      (State.reportSeated s).dock.pullInEndAt = s.dock.pullInEndAt ∧
      (State.reportSeated s).dock.docked = s.dock.docked ∧ (State.reportSeated s).dock.count = s.dock.count ∧
      (State.reportSeated s).hire.claims = s.hire.claims ∧ (State.reportSeated s).tag.copy = s.tag.copy ∧
      (State.reportSeated s).van.window = s.van.window ∧ (State.reportSeated s).van.hold = s.van.hold ∧
      (State.reportSeated s).van.target = s.van.target ∧ (State.reportSeated s).settle.active = s.settle.active ∧
      (State.reportSeated s).settle.staging = s.settle.staging ∧
      (State.reportSeated s).fault.raised = s.fault.raised := by
  unfold State.reportSeated
  split <;> simp

@[simp] theorem State.hireWritten_frame (s : State) :
    (State.hireWritten s).straps = s.straps ∧ (State.hireWritten s).clock = s.clock ∧
      (State.hireWritten s).peers = s.peers ∧ (State.hireWritten s).time = s.time ∧
      (State.hireWritten s).card = s.card ∧ (State.hireWritten s).view = s.view ∧
      (State.hireWritten s).port = s.port ∧ (State.hireWritten s).terminal = s.terminal ∧
      (State.hireWritten s).pending = s.pending ∧ (State.hireWritten s).line.serial = s.line.serial ∧
      (State.hireWritten s).line.lastSender = s.line.lastSender ∧ (State.hireWritten s).line.quiet = s.line.quiet ∧
      (State.hireWritten s).line.stuck = s.line.stuck ∧ (State.hireWritten s).line.clash = s.line.clash ∧
      (State.hireWritten s).line.rx = s.line.rx ∧ (State.hireWritten s).dock.docked = s.dock.docked ∧
      (State.hireWritten s).dock.count = s.dock.count ∧ (State.hireWritten s).hire.claims = s.hire.claims ∧
      (State.hireWritten s).tag.copy = s.tag.copy ∧ (State.hireWritten s).van.window = s.van.window ∧
      (State.hireWritten s).van.hold = s.van.hold ∧ (State.hireWritten s).van.target = s.van.target ∧
      (State.hireWritten s).settle.active = s.settle.active ∧
      (State.hireWritten s).settle.staging = s.settle.staging ∧
      (State.hireWritten s).fault.raised = s.fault.raised := by
  unfold State.hireWritten
  (repeat' split) <;> simp

@[simp] theorem State.claimWindowEnds_frame (s : State) :
    (State.claimWindowEnds s).straps = s.straps ∧ (State.claimWindowEnds s).clock = s.clock ∧
      (State.claimWindowEnds s).peers = s.peers ∧ (State.claimWindowEnds s).time = s.time ∧
      (State.claimWindowEnds s).card = s.card ∧ (State.claimWindowEnds s).view = s.view ∧
      (State.claimWindowEnds s).port = s.port ∧ (State.claimWindowEnds s).terminal = s.terminal ∧
      (State.claimWindowEnds s).pending = s.pending ∧ (State.claimWindowEnds s).line.serial = s.line.serial ∧
      (State.claimWindowEnds s).line.lastSender = s.line.lastSender ∧
      (State.claimWindowEnds s).line.quiet = s.line.quiet ∧ (State.claimWindowEnds s).line.stuck = s.line.stuck ∧
      (State.claimWindowEnds s).line.clash = s.line.clash ∧ (State.claimWindowEnds s).line.rx = s.line.rx ∧
      (State.claimWindowEnds s).dock.bolt = s.dock.bolt ∧ (State.claimWindowEnds s).dock.coil = s.dock.coil ∧
      (State.claimWindowEnds s).dock.pullInEndAt = s.dock.pullInEndAt ∧
      (State.claimWindowEnds s).dock.docked = s.dock.docked ∧ (State.claimWindowEnds s).dock.count = s.dock.count ∧
      (State.claimWindowEnds s).hire.claims = s.hire.claims ∧ (State.claimWindowEnds s).tag.copy = s.tag.copy ∧
      (State.claimWindowEnds s).van.window = s.van.window ∧ (State.claimWindowEnds s).van.hold = s.van.hold ∧
      (State.claimWindowEnds s).van.target = s.van.target ∧
      (State.claimWindowEnds s).settle.active = s.settle.active ∧
      (State.claimWindowEnds s).settle.staging = s.settle.staging ∧
      (State.claimWindowEnds s).fault.raised = s.fault.raised := by
  unfold State.claimWindowEnds
  (repeat' split) <;> simp

@[simp] theorem State.checkReading_frame (card : CardRecord) (reading : Option Answer) (s : State) :
    (State.checkReading card reading s).straps = s.straps ∧ (State.checkReading card reading s).clock = s.clock ∧
      (State.checkReading card reading s).peers = s.peers ∧ (State.checkReading card reading s).time = s.time ∧
      (State.checkReading card reading s).tag = s.tag ∧ (State.checkReading card reading s).card = s.card ∧
      (State.checkReading card reading s).settle = s.settle ∧ (State.checkReading card reading s).fault = s.fault ∧
      (State.checkReading card reading s).port = s.port ∧
      (State.checkReading card reading s).terminal = s.terminal ∧
      (State.checkReading card reading s).pending = s.pending ∧
      (State.checkReading card reading s).line.serial = s.line.serial ∧
      (State.checkReading card reading s).line.lastSender = s.line.lastSender ∧
      (State.checkReading card reading s).line.quiet = s.line.quiet ∧
      (State.checkReading card reading s).line.stuck = s.line.stuck ∧
      (State.checkReading card reading s).line.clash = s.line.clash ∧
      (State.checkReading card reading s).line.rx = s.line.rx ∧
      (State.checkReading card reading s).dock.bolt = s.dock.bolt ∧
      (State.checkReading card reading s).dock.coil = s.dock.coil ∧
      (State.checkReading card reading s).dock.pullInEndAt = s.dock.pullInEndAt ∧
      (State.checkReading card reading s).dock.docked = s.dock.docked ∧
      (State.checkReading card reading s).dock.count = s.dock.count ∧
      (State.checkReading card reading s).hire.claims = s.hire.claims ∧
      (State.checkReading card reading s).van.window = s.van.window ∧
      (State.checkReading card reading s).van.hold = s.van.hold ∧
      (State.checkReading card reading s).van.target = s.van.target ∧
      (State.checkReading card reading s).view.entries = s.view.entries := by
  unfold State.checkReading
  (repeat' split) <;> simp

@[simp] theorem State.lookupAnswered_frame (card : CardRecord) (a : Answer) (s : State) :
    (State.lookupAnswered card a s).straps = s.straps ∧ (State.lookupAnswered card a s).clock = s.clock ∧
      (State.lookupAnswered card a s).peers = s.peers ∧ (State.lookupAnswered card a s).time = s.time ∧
      (State.lookupAnswered card a s).tag = s.tag ∧ (State.lookupAnswered card a s).card = s.card ∧
      (State.lookupAnswered card a s).view = s.view ∧ (State.lookupAnswered card a s).settle = s.settle ∧
      (State.lookupAnswered card a s).fault = s.fault ∧ (State.lookupAnswered card a s).port = s.port ∧
      (State.lookupAnswered card a s).terminal = s.terminal ∧ (State.lookupAnswered card a s).pending = s.pending ∧
      (State.lookupAnswered card a s).line.serial = s.line.serial ∧
      (State.lookupAnswered card a s).line.lastSender = s.line.lastSender ∧
      (State.lookupAnswered card a s).line.quiet = s.line.quiet ∧
      (State.lookupAnswered card a s).line.stuck = s.line.stuck ∧
      (State.lookupAnswered card a s).line.clash = s.line.clash ∧
      (State.lookupAnswered card a s).line.rx = s.line.rx ∧
      (State.lookupAnswered card a s).dock.bolt = s.dock.bolt ∧
      (State.lookupAnswered card a s).dock.coil = s.dock.coil ∧
      (State.lookupAnswered card a s).dock.pullInEndAt = s.dock.pullInEndAt ∧
      (State.lookupAnswered card a s).dock.docked = s.dock.docked ∧
      (State.lookupAnswered card a s).dock.count = s.dock.count ∧
      (State.lookupAnswered card a s).hire.claims = s.hire.claims ∧
      (State.lookupAnswered card a s).van.window = s.van.window ∧
      (State.lookupAnswered card a s).van.hold = s.van.hold ∧
      (State.lookupAnswered card a s).van.target = s.van.target := by
  unfold State.lookupAnswered
  (repeat' split) <;> simp

@[simp] theorem State.lookupExpires_frame (card : CardRecord) (s : State) :
    (State.lookupExpires card s).straps = s.straps ∧ (State.lookupExpires card s).clock = s.clock ∧
      (State.lookupExpires card s).peers = s.peers ∧ (State.lookupExpires card s).time = s.time ∧
      (State.lookupExpires card s).tag = s.tag ∧ (State.lookupExpires card s).card = s.card ∧
      (State.lookupExpires card s).view = s.view ∧ (State.lookupExpires card s).settle = s.settle ∧
      (State.lookupExpires card s).fault = s.fault ∧ (State.lookupExpires card s).port = s.port ∧
      (State.lookupExpires card s).terminal = s.terminal ∧ (State.lookupExpires card s).pending = s.pending ∧
      (State.lookupExpires card s).line.serial = s.line.serial ∧
      (State.lookupExpires card s).line.lastSender = s.line.lastSender ∧
      (State.lookupExpires card s).line.quiet = s.line.quiet ∧
      (State.lookupExpires card s).line.stuck = s.line.stuck ∧
      (State.lookupExpires card s).line.clash = s.line.clash ∧ (State.lookupExpires card s).line.rx = s.line.rx ∧
      (State.lookupExpires card s).dock.bolt = s.dock.bolt ∧ (State.lookupExpires card s).dock.coil = s.dock.coil ∧
      (State.lookupExpires card s).dock.pullInEndAt = s.dock.pullInEndAt ∧
      (State.lookupExpires card s).dock.docked = s.dock.docked ∧
      (State.lookupExpires card s).dock.count = s.dock.count ∧
      (State.lookupExpires card s).hire.claims = s.hire.claims ∧
      (State.lookupExpires card s).van.window = s.van.window ∧ (State.lookupExpires card s).van.hold = s.van.hold ∧
      (State.lookupExpires card s).van.target = s.van.target := by
  unfold State.lookupExpires
  (repeat' split) <;> simp

@[simp] theorem State.checkCrew_frame (card : CardRecord) (s : State) :
    (State.checkCrew card s).straps = s.straps ∧ (State.checkCrew card s).clock = s.clock ∧
      (State.checkCrew card s).peers = s.peers ∧ (State.checkCrew card s).time = s.time ∧
      (State.checkCrew card s).card = s.card ∧ (State.checkCrew card s).view = s.view ∧
      (State.checkCrew card s).port = s.port ∧ (State.checkCrew card s).terminal = s.terminal ∧
      (State.checkCrew card s).pending = s.pending ∧ (State.checkCrew card s).line.serial = s.line.serial ∧
      (State.checkCrew card s).line.lastSender = s.line.lastSender ∧
      (State.checkCrew card s).line.quiet = s.line.quiet ∧ (State.checkCrew card s).line.stuck = s.line.stuck ∧
      (State.checkCrew card s).line.clash = s.line.clash ∧ (State.checkCrew card s).line.rx = s.line.rx ∧
      (State.checkCrew card s).dock.bolt = s.dock.bolt ∧ (State.checkCrew card s).dock.coil = s.dock.coil ∧
      (State.checkCrew card s).dock.pullInEndAt = s.dock.pullInEndAt ∧
      (State.checkCrew card s).dock.docked = s.dock.docked ∧ (State.checkCrew card s).dock.count = s.dock.count ∧
      (State.checkCrew card s).hire.claims = s.hire.claims ∧ (State.checkCrew card s).tag.copy = s.tag.copy ∧
      (State.checkCrew card s).van.window = s.van.window ∧ (State.checkCrew card s).van.hold = s.van.hold ∧
      (State.checkCrew card s).van.target = s.van.target ∧
      (State.checkCrew card s).settle.active = s.settle.active ∧
      (State.checkCrew card s).settle.staging = s.settle.staging ∧
      (State.checkCrew card s).fault.raised = s.fault.raised := by
  unfold State.checkCrew
  (repeat' split) <;> simp

@[simp] theorem State.cutShort_frame (s : State) :
    (State.cutShort s).straps = s.straps ∧ (State.cutShort s).clock = s.clock ∧
      (State.cutShort s).peers = s.peers ∧ (State.cutShort s).time = s.time ∧ (State.cutShort s).card = s.card ∧
      (State.cutShort s).port = s.port ∧ (State.cutShort s).terminal = s.terminal ∧
      (State.cutShort s).pending = s.pending ∧ (State.cutShort s).line.serial = s.line.serial ∧
      (State.cutShort s).line.lastSender = s.line.lastSender ∧ (State.cutShort s).line.quiet = s.line.quiet ∧
      (State.cutShort s).line.stuck = s.line.stuck ∧ (State.cutShort s).line.clash = s.line.clash ∧
      (State.cutShort s).line.rx = s.line.rx ∧ (State.cutShort s).dock.bolt = s.dock.bolt ∧
      (State.cutShort s).dock.coil = s.dock.coil ∧ (State.cutShort s).dock.pullInEndAt = s.dock.pullInEndAt ∧
      (State.cutShort s).dock.docked = s.dock.docked ∧ (State.cutShort s).dock.count = s.dock.count ∧
      (State.cutShort s).hire.claims = s.hire.claims ∧ (State.cutShort s).tag.copy = s.tag.copy ∧
      (State.cutShort s).van.window = s.van.window ∧ (State.cutShort s).van.hold = s.van.hold ∧
      (State.cutShort s).van.target = s.van.target ∧ (State.cutShort s).settle.active = s.settle.active ∧
      (State.cutShort s).settle.staging = s.settle.staging ∧ (State.cutShort s).fault.raised = s.fault.raised ∧
      (State.cutShort s).view.entries = s.view.entries := by
  unfold State.cutShort
  split <;> simp

@[simp] theorem State.writeLefts_frame (rs : List WriteRequest) (s : State) :
    (rs.foldl State.writeLeft s).straps = s.straps ∧ (rs.foldl State.writeLeft s).clock = s.clock ∧
      (rs.foldl State.writeLeft s).peers = s.peers ∧ (rs.foldl State.writeLeft s).time = s.time ∧
      (rs.foldl State.writeLeft s).tag = s.tag ∧ (rs.foldl State.writeLeft s).card = s.card ∧
      (rs.foldl State.writeLeft s).view = s.view ∧ (rs.foldl State.writeLeft s).settle = s.settle ∧
      (rs.foldl State.writeLeft s).fault = s.fault ∧ (rs.foldl State.writeLeft s).port = s.port ∧
      (rs.foldl State.writeLeft s).terminal = s.terminal ∧ (rs.foldl State.writeLeft s).pending = s.pending ∧
      (rs.foldl State.writeLeft s).line.serial = s.line.serial ∧
      (rs.foldl State.writeLeft s).line.lastSender = s.line.lastSender ∧
      (rs.foldl State.writeLeft s).line.quiet = s.line.quiet ∧
      (rs.foldl State.writeLeft s).line.stuck = s.line.stuck ∧
      (rs.foldl State.writeLeft s).line.clash = s.line.clash ∧ (rs.foldl State.writeLeft s).line.rx = s.line.rx ∧
      (rs.foldl State.writeLeft s).dock.bolt = s.dock.bolt ∧ (rs.foldl State.writeLeft s).dock.coil = s.dock.coil ∧
      (rs.foldl State.writeLeft s).dock.pullInEndAt = s.dock.pullInEndAt ∧
      (rs.foldl State.writeLeft s).dock.docked = s.dock.docked ∧
      (rs.foldl State.writeLeft s).dock.count = s.dock.count ∧
      (rs.foldl State.writeLeft s).hire.claims = s.hire.claims ∧
      (rs.foldl State.writeLeft s).van.window = s.van.window ∧ (rs.foldl State.writeLeft s).van.hold = s.van.hold ∧
      (rs.foldl State.writeLeft s).van.target = s.van.target := by
  refine ⟨foldl_keeps State.writeLeft (fun t => t.straps) (fun b a => by simp) rs s, foldl_keeps State.writeLeft (fun t => t.clock) (fun b a => by simp) rs s, foldl_keeps State.writeLeft (fun t => t.peers) (fun b a => by simp) rs s, foldl_keeps State.writeLeft (fun t => t.time) (fun b a => by simp) rs s, foldl_keeps State.writeLeft (fun t => t.tag) (fun b a => by simp) rs s, foldl_keeps State.writeLeft (fun t => t.card) (fun b a => by simp) rs s, foldl_keeps State.writeLeft (fun t => t.view) (fun b a => by simp) rs s, foldl_keeps State.writeLeft (fun t => t.settle) (fun b a => by simp) rs s, foldl_keeps State.writeLeft (fun t => t.fault) (fun b a => by simp) rs s, foldl_keeps State.writeLeft (fun t => t.port) (fun b a => by simp) rs s, foldl_keeps State.writeLeft (fun t => t.terminal) (fun b a => by simp) rs s, foldl_keeps State.writeLeft (fun t => t.pending) (fun b a => by simp) rs s, foldl_keeps State.writeLeft (fun t => t.line.serial) (fun b a => by simp) rs s, foldl_keeps State.writeLeft (fun t => t.line.lastSender) (fun b a => by simp) rs s, foldl_keeps State.writeLeft (fun t => t.line.quiet) (fun b a => by simp) rs s, foldl_keeps State.writeLeft (fun t => t.line.stuck) (fun b a => by simp) rs s, foldl_keeps State.writeLeft (fun t => t.line.clash) (fun b a => by simp) rs s, foldl_keeps State.writeLeft (fun t => t.line.rx) (fun b a => by simp) rs s, foldl_keeps State.writeLeft (fun t => t.dock.bolt) (fun b a => by simp) rs s, foldl_keeps State.writeLeft (fun t => t.dock.coil) (fun b a => by simp) rs s, foldl_keeps State.writeLeft (fun t => t.dock.pullInEndAt) (fun b a => by simp) rs s, foldl_keeps State.writeLeft (fun t => t.dock.docked) (fun b a => by simp) rs s, foldl_keeps State.writeLeft (fun t => t.dock.count) (fun b a => by simp) rs s, foldl_keeps State.writeLeft (fun t => t.hire.claims) (fun b a => by simp) rs s, foldl_keeps State.writeLeft (fun t => t.van.window) (fun b a => by simp) rs s, foldl_keeps State.writeLeft (fun t => t.van.hold) (fun b a => by simp) rs s, foldl_keeps State.writeLeft (fun t => t.van.target) (fun b a => by simp) rs s⟩

@[simp] theorem State.seat_frame (s : State) :
    (State.seat s).straps = s.straps ∧ (State.seat s).clock = s.clock ∧ (State.seat s).peers = s.peers ∧
      (State.seat s).time = s.time ∧ (State.seat s).card = s.card ∧ (State.seat s).view = s.view ∧
      (State.seat s).port = s.port ∧ (State.seat s).terminal = s.terminal ∧ (State.seat s).pending = s.pending ∧
      (State.seat s).line.serial = s.line.serial ∧ (State.seat s).line.lastSender = s.line.lastSender ∧
      (State.seat s).line.quiet = s.line.quiet ∧ (State.seat s).line.stuck = s.line.stuck ∧
      (State.seat s).line.clash = s.line.clash ∧ (State.seat s).line.rx = s.line.rx ∧
      (State.seat s).dock.coil = s.dock.coil ∧ (State.seat s).dock.pullInEndAt = s.dock.pullInEndAt ∧
      (State.seat s).dock.docked = s.dock.docked ∧ (State.seat s).dock.count = s.dock.count ∧
      (State.seat s).hire.claims = s.hire.claims ∧ (State.seat s).tag.copy = s.tag.copy ∧
      (State.seat s).van.window = s.van.window ∧ (State.seat s).van.hold = s.van.hold ∧
      (State.seat s).van.target = s.van.target ∧ (State.seat s).settle.active = s.settle.active ∧
      (State.seat s).settle.staging = s.settle.staging ∧ (State.seat s).fault.raised = s.fault.raised := by simp [State.seat]

@[simp] theorem State.hireWriteAnswered_frame (ref : Nat) (answer : WriteAnswer) (s : State) :
    (State.hireWriteAnswered ref answer s).straps = s.straps ∧
      (State.hireWriteAnswered ref answer s).clock = s.clock ∧
      (State.hireWriteAnswered ref answer s).peers = s.peers ∧
      (State.hireWriteAnswered ref answer s).time = s.time ∧ (State.hireWriteAnswered ref answer s).card = s.card ∧
      (State.hireWriteAnswered ref answer s).view = s.view ∧ (State.hireWriteAnswered ref answer s).port = s.port ∧
      (State.hireWriteAnswered ref answer s).terminal = s.terminal ∧
      (State.hireWriteAnswered ref answer s).pending = s.pending ∧
      (State.hireWriteAnswered ref answer s).line.serial = s.line.serial ∧
      (State.hireWriteAnswered ref answer s).line.lastSender = s.line.lastSender ∧
      (State.hireWriteAnswered ref answer s).line.quiet = s.line.quiet ∧
      (State.hireWriteAnswered ref answer s).line.stuck = s.line.stuck ∧
      (State.hireWriteAnswered ref answer s).line.clash = s.line.clash ∧
      (State.hireWriteAnswered ref answer s).line.rx = s.line.rx ∧
      (State.hireWriteAnswered ref answer s).dock.docked = s.dock.docked ∧
      (State.hireWriteAnswered ref answer s).dock.count = s.dock.count ∧
      (State.hireWriteAnswered ref answer s).hire.claims = s.hire.claims ∧
      (State.hireWriteAnswered ref answer s).tag.copy = s.tag.copy ∧
      (State.hireWriteAnswered ref answer s).van.window = s.van.window ∧
      (State.hireWriteAnswered ref answer s).van.hold = s.van.hold ∧
      (State.hireWriteAnswered ref answer s).van.target = s.van.target ∧
      (State.hireWriteAnswered ref answer s).settle.active = s.settle.active ∧
      (State.hireWriteAnswered ref answer s).settle.staging = s.settle.staging ∧
      (State.hireWriteAnswered ref answer s).fault.raised = s.fault.raised := by
  unfold State.hireWriteAnswered
  (repeat' split) <;> simp

@[simp] theorem State.checkMember_frame (card : CardRecord) (s : State) :
    (State.checkMember card s).straps = s.straps ∧ (State.checkMember card s).clock = s.clock ∧
      (State.checkMember card s).peers = s.peers ∧ (State.checkMember card s).time = s.time ∧
      (State.checkMember card s).tag = s.tag ∧ (State.checkMember card s).card = s.card ∧
      (State.checkMember card s).settle = s.settle ∧ (State.checkMember card s).fault = s.fault ∧
      (State.checkMember card s).port = s.port ∧ (State.checkMember card s).terminal = s.terminal ∧
      (State.checkMember card s).pending = s.pending ∧ (State.checkMember card s).line.serial = s.line.serial ∧
      (State.checkMember card s).line.lastSender = s.line.lastSender ∧
      (State.checkMember card s).line.quiet = s.line.quiet ∧ (State.checkMember card s).line.stuck = s.line.stuck ∧
      (State.checkMember card s).line.clash = s.line.clash ∧ (State.checkMember card s).line.rx = s.line.rx ∧
      (State.checkMember card s).dock.bolt = s.dock.bolt ∧ (State.checkMember card s).dock.coil = s.dock.coil ∧
      (State.checkMember card s).dock.pullInEndAt = s.dock.pullInEndAt ∧
      (State.checkMember card s).dock.docked = s.dock.docked ∧
      (State.checkMember card s).dock.count = s.dock.count ∧
      (State.checkMember card s).hire.claims = s.hire.claims ∧
      (State.checkMember card s).van.window = s.van.window ∧ (State.checkMember card s).van.hold = s.van.hold ∧
      (State.checkMember card s).van.target = s.van.target := by
  unfold State.checkMember
  split <;> simp

@[simp] theorem State.startSelfTest_frame (crew : Nat) (s : State) :
    (State.startSelfTest crew s).straps = s.straps ∧ (State.startSelfTest crew s).clock = s.clock ∧
      (State.startSelfTest crew s).time = s.time ∧ (State.startSelfTest crew s).card = s.card ∧
      (State.startSelfTest crew s).port = s.port ∧ (State.startSelfTest crew s).terminal = s.terminal ∧
      (State.startSelfTest crew s).pending = s.pending ∧ (State.startSelfTest crew s).line.serial = s.line.serial ∧
      (State.startSelfTest crew s).line.lastSender = s.line.lastSender ∧
      (State.startSelfTest crew s).line.quiet = s.line.quiet ∧
      (State.startSelfTest crew s).line.stuck = s.line.stuck ∧
      (State.startSelfTest crew s).line.clash = s.line.clash ∧ (State.startSelfTest crew s).line.rx = s.line.rx ∧
      (State.startSelfTest crew s).hire.claims = s.hire.claims ∧
      (State.startSelfTest crew s).tag.copy = s.tag.copy ∧ (State.startSelfTest crew s).van.window = s.van.window ∧
      (State.startSelfTest crew s).van.target = s.van.target ∧
      (State.startSelfTest crew s).settle.active = s.settle.active ∧
      (State.startSelfTest crew s).settle.staging = s.settle.staging ∧
      (State.startSelfTest crew s).peers.adoptedId = s.peers.adoptedId ∧
      (State.startSelfTest crew s).peers.entries = s.peers.entries ∧
      (State.startSelfTest crew s).view.entries = s.view.entries := by simp [State.startSelfTest]

@[simp] theorem State.bikeLeaves_frame (s : State) :
    (State.bikeLeaves s).straps = s.straps ∧ (State.bikeLeaves s).clock = s.clock ∧
      (State.bikeLeaves s).card = s.card ∧ (State.bikeLeaves s).view = s.view ∧
      (State.bikeLeaves s).port = s.port ∧ (State.bikeLeaves s).terminal = s.terminal ∧
      (State.bikeLeaves s).pending = s.pending ∧ (State.bikeLeaves s).line.serial = s.line.serial ∧
      (State.bikeLeaves s).line.lastSender = s.line.lastSender ∧ (State.bikeLeaves s).line.quiet = s.line.quiet ∧
      (State.bikeLeaves s).line.stuck = s.line.stuck ∧ (State.bikeLeaves s).line.clash = s.line.clash ∧
      (State.bikeLeaves s).line.rx = s.line.rx ∧ (State.bikeLeaves s).dock.bolt = s.dock.bolt ∧
      (State.bikeLeaves s).dock.coil = s.dock.coil ∧ (State.bikeLeaves s).dock.pullInEndAt = s.dock.pullInEndAt ∧
      (State.bikeLeaves s).dock.count = s.dock.count ∧ (State.bikeLeaves s).hire.claims = s.hire.claims ∧
      (State.bikeLeaves s).van.window = s.van.window ∧ (State.bikeLeaves s).van.target = s.van.target ∧
      (State.bikeLeaves s).settle.active = s.settle.active ∧
      (State.bikeLeaves s).settle.staging = s.settle.staging ∧
      (State.bikeLeaves s).peers.adoptedId = s.peers.adoptedId ∧
      (State.bikeLeaves s).peers.entries = s.peers.entries ∧ (State.bikeLeaves s).fault.raised = s.fault.raised ∧
      (State.bikeLeaves s).time.base = s.time.base ∧ (State.bikeLeaves s).time.quality = s.time.quality := by
  unfold State.bikeLeaves
  dsimp only
  (repeat' split) <;> first | (simp; done) | (rename_i heq; have h1 := congrArg Prod.fst heq; dsimp only at h1; subst h1; simp)

@[simp] theorem State.seatIfClosed_frame (s : State) :
    (State.seatIfClosed s).straps = s.straps ∧ (State.seatIfClosed s).clock = s.clock ∧
      (State.seatIfClosed s).peers = s.peers ∧ (State.seatIfClosed s).time = s.time ∧
      (State.seatIfClosed s).card = s.card ∧ (State.seatIfClosed s).view = s.view ∧
      (State.seatIfClosed s).port = s.port ∧ (State.seatIfClosed s).terminal = s.terminal ∧
      (State.seatIfClosed s).pending = s.pending ∧ (State.seatIfClosed s).line.serial = s.line.serial ∧
      (State.seatIfClosed s).line.lastSender = s.line.lastSender ∧
      (State.seatIfClosed s).line.quiet = s.line.quiet ∧ (State.seatIfClosed s).line.stuck = s.line.stuck ∧
      (State.seatIfClosed s).line.clash = s.line.clash ∧ (State.seatIfClosed s).line.rx = s.line.rx ∧
      (State.seatIfClosed s).dock.coil = s.dock.coil ∧
      (State.seatIfClosed s).dock.pullInEndAt = s.dock.pullInEndAt ∧
      (State.seatIfClosed s).dock.docked = s.dock.docked ∧ (State.seatIfClosed s).dock.count = s.dock.count ∧
      (State.seatIfClosed s).hire.claims = s.hire.claims ∧ (State.seatIfClosed s).tag.copy = s.tag.copy ∧
      (State.seatIfClosed s).van.window = s.van.window ∧ (State.seatIfClosed s).van.hold = s.van.hold ∧
      (State.seatIfClosed s).van.target = s.van.target ∧ (State.seatIfClosed s).settle.active = s.settle.active ∧
      (State.seatIfClosed s).settle.staging = s.settle.staging ∧
      (State.seatIfClosed s).fault.raised = s.fault.raised := by
  unfold State.seatIfClosed
  split <;> simp

@[simp] theorem State.beginHire_frame (card : CardRecord) (s : State) :
    (State.beginHire card s).straps = s.straps ∧ (State.beginHire card s).clock = s.clock ∧
      (State.beginHire card s).peers = s.peers ∧ (State.beginHire card s).time = s.time ∧
      (State.beginHire card s).card = s.card ∧ (State.beginHire card s).port = s.port ∧
      (State.beginHire card s).terminal = s.terminal ∧ (State.beginHire card s).pending = s.pending ∧
      (State.beginHire card s).line.serial = s.line.serial ∧
      (State.beginHire card s).line.lastSender = s.line.lastSender ∧
      (State.beginHire card s).line.quiet = s.line.quiet ∧ (State.beginHire card s).line.stuck = s.line.stuck ∧
      (State.beginHire card s).line.clash = s.line.clash ∧ (State.beginHire card s).line.rx = s.line.rx ∧
      (State.beginHire card s).dock.bolt = s.dock.bolt ∧ (State.beginHire card s).dock.coil = s.dock.coil ∧
      (State.beginHire card s).dock.pullInEndAt = s.dock.pullInEndAt ∧
      (State.beginHire card s).dock.docked = s.dock.docked ∧ (State.beginHire card s).dock.count = s.dock.count ∧
      (State.beginHire card s).hire.claims = s.hire.claims ∧ (State.beginHire card s).tag.copy = s.tag.copy ∧
      (State.beginHire card s).van.window = s.van.window ∧ (State.beginHire card s).van.hold = s.van.hold ∧
      (State.beginHire card s).van.target = s.van.target ∧
      (State.beginHire card s).settle.active = s.settle.active ∧
      (State.beginHire card s).settle.staging = s.settle.staging ∧
      (State.beginHire card s).fault.raised = s.fault.raised := by
  unfold State.beginHire
  split <;> simp

@[simp] theorem State.treatAsTaken_frame (s : State) :
    (State.treatAsTaken s).straps = s.straps ∧ (State.treatAsTaken s).clock = s.clock ∧
      (State.treatAsTaken s).card = s.card ∧ (State.treatAsTaken s).view = s.view ∧
      (State.treatAsTaken s).port = s.port ∧ (State.treatAsTaken s).terminal = s.terminal ∧
      (State.treatAsTaken s).pending = s.pending ∧ (State.treatAsTaken s).line.serial = s.line.serial ∧
      (State.treatAsTaken s).line.lastSender = s.line.lastSender ∧
      (State.treatAsTaken s).line.quiet = s.line.quiet ∧ (State.treatAsTaken s).line.stuck = s.line.stuck ∧
      (State.treatAsTaken s).line.clash = s.line.clash ∧ (State.treatAsTaken s).line.rx = s.line.rx ∧
      (State.treatAsTaken s).dock.bolt = s.dock.bolt ∧ (State.treatAsTaken s).dock.coil = s.dock.coil ∧
      (State.treatAsTaken s).dock.pullInEndAt = s.dock.pullInEndAt ∧
      (State.treatAsTaken s).dock.count = s.dock.count ∧ (State.treatAsTaken s).hire.claims = s.hire.claims ∧
      (State.treatAsTaken s).van.window = s.van.window ∧ (State.treatAsTaken s).van.target = s.van.target ∧
      (State.treatAsTaken s).settle.active = s.settle.active ∧
      (State.treatAsTaken s).settle.staging = s.settle.staging ∧
      (State.treatAsTaken s).peers.adoptedId = s.peers.adoptedId ∧
      (State.treatAsTaken s).peers.entries = s.peers.entries ∧
      (State.treatAsTaken s).fault.raised = s.fault.raised ∧ (State.treatAsTaken s).time.base = s.time.base ∧
      (State.treatAsTaken s).time.quality = s.time.quality := by simp [State.treatAsTaken]

@[simp] theorem State.releaseTake_frame (s : State) :
    (State.releaseTake s).straps = s.straps ∧ (State.releaseTake s).clock = s.clock ∧
      (State.releaseTake s).card = s.card ∧ (State.releaseTake s).view = s.view ∧
      (State.releaseTake s).port = s.port ∧ (State.releaseTake s).terminal = s.terminal ∧
      (State.releaseTake s).pending = s.pending ∧ (State.releaseTake s).line.serial = s.line.serial ∧
      (State.releaseTake s).line.lastSender = s.line.lastSender ∧ (State.releaseTake s).line.quiet = s.line.quiet ∧
      (State.releaseTake s).line.stuck = s.line.stuck ∧ (State.releaseTake s).line.clash = s.line.clash ∧
      (State.releaseTake s).line.rx = s.line.rx ∧ (State.releaseTake s).hire.claims = s.hire.claims ∧
      (State.releaseTake s).van.window = s.van.window ∧ (State.releaseTake s).van.target = s.van.target ∧
      (State.releaseTake s).settle.active = s.settle.active ∧
      (State.releaseTake s).settle.staging = s.settle.staging ∧
      (State.releaseTake s).peers.adoptedId = s.peers.adoptedId ∧
      (State.releaseTake s).peers.entries = s.peers.entries ∧ (State.releaseTake s).fault.raised = s.fault.raised ∧
      (State.releaseTake s).time.base = s.time.base ∧ (State.releaseTake s).time.quality = s.time.quality := by
  unfold State.releaseTake
  dsimp only
  (repeat' split) <;> first | (simp; done) | (rename_i heq; have h1 := congrArg Prod.fst heq; dsimp only at h1; subst h1; simp)

@[simp] theorem State.selfTestTake_frame (s : State) :
    (State.selfTestTake s).straps = s.straps ∧ (State.selfTestTake s).clock = s.clock ∧
      (State.selfTestTake s).card = s.card ∧ (State.selfTestTake s).view = s.view ∧
      (State.selfTestTake s).port = s.port ∧ (State.selfTestTake s).terminal = s.terminal ∧
      (State.selfTestTake s).pending = s.pending ∧ (State.selfTestTake s).line.serial = s.line.serial ∧
      (State.selfTestTake s).line.lastSender = s.line.lastSender ∧
      (State.selfTestTake s).line.quiet = s.line.quiet ∧ (State.selfTestTake s).line.stuck = s.line.stuck ∧
      (State.selfTestTake s).line.clash = s.line.clash ∧ (State.selfTestTake s).line.rx = s.line.rx ∧
      (State.selfTestTake s).dock.bolt = s.dock.bolt ∧ (State.selfTestTake s).dock.coil = s.dock.coil ∧
      (State.selfTestTake s).dock.pullInEndAt = s.dock.pullInEndAt ∧
      (State.selfTestTake s).dock.count = s.dock.count ∧ (State.selfTestTake s).hire.claims = s.hire.claims ∧
      (State.selfTestTake s).van.window = s.van.window ∧ (State.selfTestTake s).van.target = s.van.target ∧
      (State.selfTestTake s).settle.active = s.settle.active ∧
      (State.selfTestTake s).settle.staging = s.settle.staging ∧
      (State.selfTestTake s).peers.adoptedId = s.peers.adoptedId ∧
      (State.selfTestTake s).peers.entries = s.peers.entries ∧
      (State.selfTestTake s).fault.raised = s.fault.raised ∧ (State.selfTestTake s).time.base = s.time.base ∧
      (State.selfTestTake s).time.quality = s.time.quality := by
  unfold State.selfTestTake
  split <;> simp

@[simp] theorem State.selfTestCloses_frame (s : State) :
    (State.selfTestCloses s).straps = s.straps ∧ (State.selfTestCloses s).clock = s.clock ∧
      (State.selfTestCloses s).peers = s.peers ∧ (State.selfTestCloses s).time = s.time ∧
      (State.selfTestCloses s).card = s.card ∧ (State.selfTestCloses s).view = s.view ∧
      (State.selfTestCloses s).port = s.port ∧ (State.selfTestCloses s).terminal = s.terminal ∧
      (State.selfTestCloses s).pending = s.pending ∧ (State.selfTestCloses s).line.serial = s.line.serial ∧
      (State.selfTestCloses s).line.lastSender = s.line.lastSender ∧
      (State.selfTestCloses s).line.quiet = s.line.quiet ∧ (State.selfTestCloses s).line.stuck = s.line.stuck ∧
      (State.selfTestCloses s).line.clash = s.line.clash ∧ (State.selfTestCloses s).line.rx = s.line.rx ∧
      (State.selfTestCloses s).hire.claims = s.hire.claims ∧ (State.selfTestCloses s).tag.copy = s.tag.copy ∧
      (State.selfTestCloses s).van.window = s.van.window ∧ (State.selfTestCloses s).van.hold = s.van.hold ∧
      (State.selfTestCloses s).van.target = s.van.target ∧
      (State.selfTestCloses s).settle.active = s.settle.active ∧
      (State.selfTestCloses s).settle.staging = s.settle.staging ∧
      (State.selfTestCloses s).fault.raised = s.fault.raised := by
  unfold State.selfTestCloses
  split <;> simp

@[simp] theorem State.takeCard_frame (card : CardRecord) (held : Bool) (s : State) :
    (State.takeCard card held s).straps = s.straps ∧ (State.takeCard card held s).clock = s.clock ∧
      (State.takeCard card held s).time = s.time ∧ (State.takeCard card held s).card = s.card ∧
      (State.takeCard card held s).port = s.port ∧ (State.takeCard card held s).terminal = s.terminal ∧
      (State.takeCard card held s).pending = s.pending ∧ (State.takeCard card held s).line.serial = s.line.serial ∧
      (State.takeCard card held s).line.lastSender = s.line.lastSender ∧
      (State.takeCard card held s).line.quiet = s.line.quiet ∧
      (State.takeCard card held s).line.stuck = s.line.stuck ∧
      (State.takeCard card held s).line.clash = s.line.clash ∧ (State.takeCard card held s).line.rx = s.line.rx ∧
      (State.takeCard card held s).hire.claims = s.hire.claims ∧
      (State.takeCard card held s).tag.copy = s.tag.copy ∧ (State.takeCard card held s).van.window = s.van.window ∧
      (State.takeCard card held s).van.target = s.van.target ∧
      (State.takeCard card held s).settle.active = s.settle.active ∧
      (State.takeCard card held s).settle.staging = s.settle.staging ∧
      (State.takeCard card held s).peers.adoptedId = s.peers.adoptedId ∧
      (State.takeCard card held s).peers.entries = s.peers.entries := by
  unfold State.takeCard
  (repeat' split) <;> simp

@[simp] theorem State.startSettle_frame (s : State) :
    (State.startSettle s).straps = s.straps ∧ (State.startSettle s).clock = s.clock ∧
      (State.startSettle s).card = s.card ∧ (State.startSettle s).view = s.view ∧
      (State.startSettle s).port = s.port ∧ (State.startSettle s).terminal = s.terminal ∧
      (State.startSettle s).pending = s.pending ∧ (State.startSettle s).line.serial = s.line.serial ∧
      (State.startSettle s).line.lastSender = s.line.lastSender ∧ (State.startSettle s).line.quiet = s.line.quiet ∧
      (State.startSettle s).line.stuck = s.line.stuck ∧ (State.startSettle s).line.clash = s.line.clash ∧
      (State.startSettle s).line.rx = s.line.rx ∧ (State.startSettle s).dock.bolt = s.dock.bolt ∧
      (State.startSettle s).dock.coil = s.dock.coil ∧ (State.startSettle s).dock.pullInEndAt = s.dock.pullInEndAt ∧
      (State.startSettle s).dock.count = s.dock.count ∧ (State.startSettle s).hire.claims = s.hire.claims ∧
      (State.startSettle s).van.window = s.van.window ∧ (State.startSettle s).van.target = s.van.target ∧
      (State.startSettle s).settle.active = s.settle.active ∧
      (State.startSettle s).settle.staging = s.settle.staging ∧
      (State.startSettle s).peers.adoptedId = s.peers.adoptedId ∧
      (State.startSettle s).peers.entries = s.peers.entries ∧ (State.startSettle s).fault.raised = s.fault.raised ∧
      (State.startSettle s).time.base = s.time.base ∧ (State.startSettle s).time.quality = s.time.quality := by
  unfold State.startSettle
  split <;> simp

@[simp] theorem State.takeWhileHeld_frame (s : State) :
    (State.takeWhileHeld s).straps = s.straps ∧ (State.takeWhileHeld s).clock = s.clock ∧
      (State.takeWhileHeld s).card = s.card ∧ (State.takeWhileHeld s).view = s.view ∧
      (State.takeWhileHeld s).port = s.port ∧ (State.takeWhileHeld s).terminal = s.terminal ∧
      (State.takeWhileHeld s).pending = s.pending ∧ (State.takeWhileHeld s).line.serial = s.line.serial ∧
      (State.takeWhileHeld s).line.lastSender = s.line.lastSender ∧
      (State.takeWhileHeld s).line.quiet = s.line.quiet ∧ (State.takeWhileHeld s).line.stuck = s.line.stuck ∧
      (State.takeWhileHeld s).line.clash = s.line.clash ∧ (State.takeWhileHeld s).line.rx = s.line.rx ∧
      (State.takeWhileHeld s).hire.claims = s.hire.claims ∧ (State.takeWhileHeld s).van.window = s.van.window ∧
      (State.takeWhileHeld s).van.target = s.van.target ∧ (State.takeWhileHeld s).settle.active = s.settle.active ∧
      (State.takeWhileHeld s).settle.staging = s.settle.staging ∧
      (State.takeWhileHeld s).peers.adoptedId = s.peers.adoptedId ∧
      (State.takeWhileHeld s).peers.entries = s.peers.entries ∧
      (State.takeWhileHeld s).fault.raised = s.fault.raised ∧ (State.takeWhileHeld s).time.base = s.time.base ∧
      (State.takeWhileHeld s).time.quality = s.time.quality := by
  unfold State.takeWhileHeld
  (repeat' split) <;> simp

@[simp] theorem State.becomeHeld_frame (s : State) :
    (State.becomeHeld s).straps = s.straps ∧ (State.becomeHeld s).clock = s.clock ∧
      (State.becomeHeld s).card = s.card ∧ (State.becomeHeld s).view = s.view ∧
      (State.becomeHeld s).port = s.port ∧ (State.becomeHeld s).terminal = s.terminal ∧
      (State.becomeHeld s).pending = s.pending ∧ (State.becomeHeld s).line.serial = s.line.serial ∧
      (State.becomeHeld s).line.lastSender = s.line.lastSender ∧ (State.becomeHeld s).line.quiet = s.line.quiet ∧
      (State.becomeHeld s).line.stuck = s.line.stuck ∧ (State.becomeHeld s).line.clash = s.line.clash ∧
      (State.becomeHeld s).line.rx = s.line.rx ∧ (State.becomeHeld s).hire.claims = s.hire.claims ∧
      (State.becomeHeld s).van.window = s.van.window ∧ (State.becomeHeld s).van.target = s.van.target ∧
      (State.becomeHeld s).settle.active = s.settle.active ∧
      (State.becomeHeld s).settle.staging = s.settle.staging ∧
      (State.becomeHeld s).peers.adoptedId = s.peers.adoptedId ∧
      (State.becomeHeld s).peers.entries = s.peers.entries ∧ (State.becomeHeld s).fault.raised = s.fault.raised ∧
      (State.becomeHeld s).time.base = s.time.base ∧ (State.becomeHeld s).time.quality = s.time.quality := by
  unfold State.becomeHeld
  dsimp only
  (repeat' split) <;> first | (simp; done) | (rename_i heq; have h1 := congrArg Prod.fst heq; dsimp only at h1; subst h1; simp)

@[simp] theorem State.boltDropped_frame (s : State) :
    (State.boltDropped s).straps = s.straps ∧ (State.boltDropped s).clock = s.clock ∧
      (State.boltDropped s).card = s.card ∧ (State.boltDropped s).view = s.view ∧
      (State.boltDropped s).port = s.port ∧ (State.boltDropped s).terminal = s.terminal ∧
      (State.boltDropped s).pending = s.pending ∧ (State.boltDropped s).line.serial = s.line.serial ∧
      (State.boltDropped s).line.lastSender = s.line.lastSender ∧ (State.boltDropped s).line.quiet = s.line.quiet ∧
      (State.boltDropped s).line.stuck = s.line.stuck ∧ (State.boltDropped s).line.clash = s.line.clash ∧
      (State.boltDropped s).line.rx = s.line.rx ∧ (State.boltDropped s).hire.claims = s.hire.claims ∧
      (State.boltDropped s).van.window = s.van.window ∧ (State.boltDropped s).van.target = s.van.target ∧
      (State.boltDropped s).settle.active = s.settle.active ∧
      (State.boltDropped s).settle.staging = s.settle.staging ∧
      (State.boltDropped s).peers.adoptedId = s.peers.adoptedId ∧
      (State.boltDropped s).peers.entries = s.peers.entries ∧ (State.boltDropped s).fault.raised = s.fault.raised ∧
      (State.boltDropped s).time.base = s.time.base ∧ (State.boltDropped s).time.quality = s.time.quality := by
  unfold State.boltDropped
  (repeat' split) <;> simp

@[simp] theorem State.abortDrive_frame (s : State) :
    (State.abortDrive s).straps = s.straps ∧ (State.abortDrive s).clock = s.clock ∧
      (State.abortDrive s).card = s.card ∧ (State.abortDrive s).view = s.view ∧
      (State.abortDrive s).port = s.port ∧ (State.abortDrive s).terminal = s.terminal ∧
      (State.abortDrive s).pending = s.pending ∧ (State.abortDrive s).line.serial = s.line.serial ∧
      (State.abortDrive s).line.lastSender = s.line.lastSender ∧ (State.abortDrive s).line.quiet = s.line.quiet ∧
      (State.abortDrive s).line.stuck = s.line.stuck ∧ (State.abortDrive s).line.clash = s.line.clash ∧
      (State.abortDrive s).line.rx = s.line.rx ∧ (State.abortDrive s).hire.claims = s.hire.claims ∧
      (State.abortDrive s).van.window = s.van.window ∧ (State.abortDrive s).van.target = s.van.target ∧
      (State.abortDrive s).settle.active = s.settle.active ∧
      (State.abortDrive s).settle.staging = s.settle.staging ∧
      (State.abortDrive s).peers.adoptedId = s.peers.adoptedId ∧
      (State.abortDrive s).peers.entries = s.peers.entries ∧ (State.abortDrive s).fault.raised = s.fault.raised ∧
      (State.abortDrive s).time.base = s.time.base ∧ (State.abortDrive s).time.quality = s.time.quality := by
  unfold State.abortDrive
  (repeat' split) <;> simp

end Sys2Proof.Machine
end

