-- ==== Sys2Proof/Laws/SettleFrames.lean ====
section
/-! SUPPORT. Frames: what each operation of the settlement unit and the tag port (Machine/SettleOps.lean) leaves as it
was. -/

namespace Sys2Proof.Machine

@[simp] theorem State.setSlot_frame (name : SlotName) (slot : Option Slot) (s : State) :
    (State.setSlot name slot s).straps = s.straps ∧ (State.setSlot name slot s).clock = s.clock ∧
      (State.setSlot name slot s).line = s.line ∧ (State.setSlot name slot s).peers = s.peers ∧
      (State.setSlot name slot s).time = s.time ∧ (State.setSlot name slot s).dock = s.dock ∧
      (State.setSlot name slot s).tag = s.tag ∧ (State.setSlot name slot s).card = s.card ∧
      (State.setSlot name slot s).view = s.view ∧ (State.setSlot name slot s).hire = s.hire ∧
      (State.setSlot name slot s).fault = s.fault ∧ (State.setSlot name slot s).van = s.van ∧
      (State.setSlot name slot s).port = s.port ∧ (State.setSlot name slot s).terminal = s.terminal ∧
      (State.setSlot name slot s).pending = s.pending ∧
      (State.setSlot name slot s).settle.active = s.settle.active ∧
      (State.setSlot name slot s).settle.staging = s.settle.staging := by
  unfold State.setSlot
  split <;> simp

@[simp] theorem State.openMemberWindow_frame (w : ReturnedWrite) (s : State) :
    (State.openMemberWindow w s).straps = s.straps ∧ (State.openMemberWindow w s).clock = s.clock ∧
      (State.openMemberWindow w s).line = s.line ∧ (State.openMemberWindow w s).peers = s.peers ∧
      (State.openMemberWindow w s).time = s.time ∧ (State.openMemberWindow w s).dock = s.dock ∧
      (State.openMemberWindow w s).tag = s.tag ∧ (State.openMemberWindow w s).card = s.card ∧
      (State.openMemberWindow w s).view = s.view ∧ (State.openMemberWindow w s).hire = s.hire ∧
      (State.openMemberWindow w s).settle = s.settle ∧ (State.openMemberWindow w s).van = s.van ∧
      (State.openMemberWindow w s).port = s.port ∧ (State.openMemberWindow w s).terminal = s.terminal ∧
      (State.openMemberWindow w s).pending = s.pending ∧
      (State.openMemberWindow w s).fault.raised = s.fault.raised := by
  unfold State.openMemberWindow
  split <;> simp

@[simp] theorem State.queueRewrite_frame (s : State) :
    (State.queueRewrite s).straps = s.straps ∧ (State.queueRewrite s).clock = s.clock ∧
      (State.queueRewrite s).line = s.line ∧ (State.queueRewrite s).peers = s.peers ∧
      (State.queueRewrite s).time = s.time ∧ (State.queueRewrite s).dock = s.dock ∧
      (State.queueRewrite s).card = s.card ∧ (State.queueRewrite s).view = s.view ∧
      (State.queueRewrite s).hire = s.hire ∧ (State.queueRewrite s).settle = s.settle ∧
      (State.queueRewrite s).fault = s.fault ∧ (State.queueRewrite s).van = s.van ∧
      (State.queueRewrite s).port = s.port ∧ (State.queueRewrite s).terminal = s.terminal ∧
      (State.queueRewrite s).pending = s.pending ∧ (State.queueRewrite s).tag.copy = s.tag.copy ∧
      (State.queueRewrite s).tag.operation = s.tag.operation := by
  unfold State.queueRewrite
  split <;> simp

@[simp] theorem State.beginReadSet_frame (c : Capture) (s : State) :
    (State.beginReadSet c s).straps = s.straps ∧ (State.beginReadSet c s).clock = s.clock ∧
      (State.beginReadSet c s).line = s.line ∧ (State.beginReadSet c s).peers = s.peers ∧
      (State.beginReadSet c s).time = s.time ∧ (State.beginReadSet c s).dock = s.dock ∧
      (State.beginReadSet c s).card = s.card ∧ (State.beginReadSet c s).view = s.view ∧
      (State.beginReadSet c s).hire = s.hire ∧ (State.beginReadSet c s).settle = s.settle ∧
      (State.beginReadSet c s).fault = s.fault ∧ (State.beginReadSet c s).van = s.van ∧
      (State.beginReadSet c s).port = s.port ∧ (State.beginReadSet c s).terminal = s.terminal ∧
      (State.beginReadSet c s).pending = s.pending := by simp [State.beginReadSet]

@[simp] theorem State.vanDocks_frame (s : State) :
    (State.vanDocks s).straps = s.straps ∧ (State.vanDocks s).clock = s.clock ∧ (State.vanDocks s).line = s.line ∧
      (State.vanDocks s).peers = s.peers ∧ (State.vanDocks s).time = s.time ∧ (State.vanDocks s).dock = s.dock ∧
      (State.vanDocks s).tag = s.tag ∧ (State.vanDocks s).card = s.card ∧ (State.vanDocks s).view = s.view ∧
      (State.vanDocks s).hire = s.hire ∧ (State.vanDocks s).settle = s.settle ∧
      (State.vanDocks s).fault = s.fault ∧ (State.vanDocks s).port = s.port ∧
      (State.vanDocks s).terminal = s.terminal ∧ (State.vanDocks s).pending = s.pending ∧
      (State.vanDocks s).van.window = s.van.window ∧ (State.vanDocks s).van.hold = s.van.hold ∧
      (State.vanDocks s).van.offer = s.van.offer := by simp [State.vanDocks]

@[simp] theorem State.setPhase_frame (name : SlotName) (phase : SlotPhase) (s : State) :
    (State.setPhase name phase s).straps = s.straps ∧ (State.setPhase name phase s).clock = s.clock ∧
      (State.setPhase name phase s).line = s.line ∧ (State.setPhase name phase s).peers = s.peers ∧
      (State.setPhase name phase s).time = s.time ∧ (State.setPhase name phase s).dock = s.dock ∧
      (State.setPhase name phase s).tag = s.tag ∧ (State.setPhase name phase s).card = s.card ∧
      (State.setPhase name phase s).view = s.view ∧ (State.setPhase name phase s).hire = s.hire ∧
      (State.setPhase name phase s).fault = s.fault ∧ (State.setPhase name phase s).van = s.van ∧
      (State.setPhase name phase s).port = s.port ∧ (State.setPhase name phase s).terminal = s.terminal ∧
      (State.setPhase name phase s).pending = s.pending ∧
      (State.setPhase name phase s).settle.active = s.settle.active ∧
      (State.setPhase name phase s).settle.staging = s.settle.staging := by
  unfold State.setPhase
  split <;> simp

@[simp] theorem State.settleWriteAnswered_frame (ref : Nat) (answer : WriteAnswer) (s : State) :
    (State.settleWriteAnswered ref answer s).straps = s.straps ∧
      (State.settleWriteAnswered ref answer s).clock = s.clock ∧
      (State.settleWriteAnswered ref answer s).line = s.line ∧
      (State.settleWriteAnswered ref answer s).peers = s.peers ∧
      (State.settleWriteAnswered ref answer s).time = s.time ∧
      (State.settleWriteAnswered ref answer s).dock = s.dock ∧
      (State.settleWriteAnswered ref answer s).tag = s.tag ∧
      (State.settleWriteAnswered ref answer s).card = s.card ∧
      (State.settleWriteAnswered ref answer s).view = s.view ∧
      (State.settleWriteAnswered ref answer s).hire = s.hire ∧
      (State.settleWriteAnswered ref answer s).van = s.van ∧
      (State.settleWriteAnswered ref answer s).port = s.port ∧
      (State.settleWriteAnswered ref answer s).terminal = s.terminal ∧
      (State.settleWriteAnswered ref answer s).pending = s.pending ∧
      (State.settleWriteAnswered ref answer s).settle.active = s.settle.active ∧
      (State.settleWriteAnswered ref answer s).settle.staging = s.settle.staging ∧
      (State.settleWriteAnswered ref answer s).fault.raised = s.fault.raised := by
  unfold State.settleWriteAnswered
  (repeat' split) <;> simp

@[simp] theorem State.enterRating_frame (name : SlotName) (s : State) :
    (State.enterRating name s).straps = s.straps ∧ (State.enterRating name s).clock = s.clock ∧
      (State.enterRating name s).line = s.line ∧ (State.enterRating name s).peers = s.peers ∧
      (State.enterRating name s).time = s.time ∧ (State.enterRating name s).dock = s.dock ∧
      (State.enterRating name s).tag = s.tag ∧ (State.enterRating name s).card = s.card ∧
      (State.enterRating name s).view = s.view ∧ (State.enterRating name s).hire = s.hire ∧
      (State.enterRating name s).fault = s.fault ∧ (State.enterRating name s).van = s.van ∧
      (State.enterRating name s).port = s.port ∧ (State.enterRating name s).terminal = s.terminal ∧
      (State.enterRating name s).pending = s.pending ∧ (State.enterRating name s).settle.active = s.settle.active ∧
      (State.enterRating name s).settle.staging = s.settle.staging := by
  unfold State.enterRating
  (repeat' split) <;> simp

@[simp] theorem State.writeBack_frame (r : ReturnRecord) (t : Settlement) (s : State) :
    (State.writeBack r t s).straps = s.straps ∧ (State.writeBack r t s).clock = s.clock ∧
      (State.writeBack r t s).line = s.line ∧ (State.writeBack r t s).peers = s.peers ∧
      (State.writeBack r t s).time = s.time ∧ (State.writeBack r t s).dock = s.dock ∧
      (State.writeBack r t s).card = s.card ∧ (State.writeBack r t s).view = s.view ∧
      (State.writeBack r t s).hire = s.hire ∧ (State.writeBack r t s).van = s.van ∧
      (State.writeBack r t s).port = s.port ∧ (State.writeBack r t s).terminal = s.terminal ∧
      (State.writeBack r t s).pending = s.pending ∧ (State.writeBack r t s).tag.copy = s.tag.copy ∧
      (State.writeBack r t s).settle.active = s.settle.active ∧
      (State.writeBack r t s).settle.staging = s.settle.staging ∧
      (State.writeBack r t s).fault.raised = s.fault.raised := by
  unfold State.writeBack
  split <;> simp

@[simp] theorem State.enterDone_frame (name : SlotName) (t : Settlement) (s : State) :
    (State.enterDone name t s).straps = s.straps ∧ (State.enterDone name t s).clock = s.clock ∧
      (State.enterDone name t s).line = s.line ∧ (State.enterDone name t s).peers = s.peers ∧
      (State.enterDone name t s).time = s.time ∧ (State.enterDone name t s).dock = s.dock ∧
      (State.enterDone name t s).tag = s.tag ∧ (State.enterDone name t s).card = s.card ∧
      (State.enterDone name t s).view = s.view ∧ (State.enterDone name t s).hire = s.hire ∧
      (State.enterDone name t s).fault = s.fault ∧ (State.enterDone name t s).van = s.van ∧
      (State.enterDone name t s).port = s.port ∧ (State.enterDone name t s).terminal = s.terminal ∧
      (State.enterDone name t s).pending = s.pending ∧ (State.enterDone name t s).settle.active = s.settle.active ∧
      (State.enterDone name t s).settle.staging = s.settle.staging := by simp [State.enterDone]

@[simp] theorem State.requestReturned_frame (h : HireSection) (c : Capture) (s : State) :
    (State.requestReturned h c s).straps = s.straps ∧ (State.requestReturned h c s).clock = s.clock ∧
      (State.requestReturned h c s).line = s.line ∧ (State.requestReturned h c s).peers = s.peers ∧
      (State.requestReturned h c s).time = s.time ∧ (State.requestReturned h c s).dock = s.dock ∧
      (State.requestReturned h c s).card = s.card ∧ (State.requestReturned h c s).view = s.view ∧
      (State.requestReturned h c s).hire = s.hire ∧ (State.requestReturned h c s).van = s.van ∧
      (State.requestReturned h c s).port = s.port ∧ (State.requestReturned h c s).terminal = s.terminal ∧
      (State.requestReturned h c s).pending = s.pending ∧ (State.requestReturned h c s).tag.copy = s.tag.copy ∧
      (State.requestReturned h c s).settle.active = s.settle.active ∧
      (State.requestReturned h c s).settle.staging = s.settle.staging ∧
      (State.requestReturned h c s).fault.raised = s.fault.raised := by
  unfold State.requestReturned
  split <;>
    (rename_i heq; have h1 := congrArg Prod.fst heq; dsimp only at h1; subst h1; simp)

@[simp] theorem State.requestLastClear_frame (last : Option LastSection) (s : State) :
    (State.requestLastClear last s).straps = s.straps ∧ (State.requestLastClear last s).clock = s.clock ∧
      (State.requestLastClear last s).line = s.line ∧ (State.requestLastClear last s).peers = s.peers ∧
      (State.requestLastClear last s).time = s.time ∧ (State.requestLastClear last s).dock = s.dock ∧
      (State.requestLastClear last s).card = s.card ∧ (State.requestLastClear last s).view = s.view ∧
      (State.requestLastClear last s).hire = s.hire ∧ (State.requestLastClear last s).van = s.van ∧
      (State.requestLastClear last s).port = s.port ∧ (State.requestLastClear last s).terminal = s.terminal ∧
      (State.requestLastClear last s).pending = s.pending ∧ (State.requestLastClear last s).tag.copy = s.tag.copy ∧
      (State.requestLastClear last s).settle.active = s.settle.active ∧
      (State.requestLastClear last s).settle.staging = s.settle.staging ∧
      (State.requestLastClear last s).fault.raised = s.fault.raised := by
  unfold State.requestLastClear
  split <;> simp

@[simp] theorem State.requestClosed_frame (h : HireSection) (s : State) :
    (State.requestClosed h s).straps = s.straps ∧ (State.requestClosed h s).clock = s.clock ∧
      (State.requestClosed h s).line = s.line ∧ (State.requestClosed h s).peers = s.peers ∧
      (State.requestClosed h s).time = s.time ∧ (State.requestClosed h s).dock = s.dock ∧
      (State.requestClosed h s).card = s.card ∧ (State.requestClosed h s).view = s.view ∧
      (State.requestClosed h s).hire = s.hire ∧ (State.requestClosed h s).van = s.van ∧
      (State.requestClosed h s).port = s.port ∧ (State.requestClosed h s).terminal = s.terminal ∧
      (State.requestClosed h s).pending = s.pending ∧ (State.requestClosed h s).tag.copy = s.tag.copy ∧
      (State.requestClosed h s).settle.active = s.settle.active ∧
      (State.requestClosed h s).settle.staging = s.settle.staging ∧
      (State.requestClosed h s).fault.raised = s.fault.raised := by simp [State.requestClosed]

@[simp] theorem State.leaveGathering_frame (name : SlotName) (s : State) :
    (State.leaveGathering name s).straps = s.straps ∧ (State.leaveGathering name s).clock = s.clock ∧
      (State.leaveGathering name s).line = s.line ∧ (State.leaveGathering name s).peers = s.peers ∧
      (State.leaveGathering name s).time = s.time ∧ (State.leaveGathering name s).dock = s.dock ∧
      (State.leaveGathering name s).tag = s.tag ∧ (State.leaveGathering name s).card = s.card ∧
      (State.leaveGathering name s).view = s.view ∧ (State.leaveGathering name s).hire = s.hire ∧
      (State.leaveGathering name s).fault = s.fault ∧ (State.leaveGathering name s).van = s.van ∧
      (State.leaveGathering name s).port = s.port ∧ (State.leaveGathering name s).terminal = s.terminal ∧
      (State.leaveGathering name s).pending = s.pending ∧
      (State.leaveGathering name s).settle.active = s.settle.active ∧
      (State.leaveGathering name s).settle.staging = s.settle.staging := by
  unfold State.leaveGathering
  split <;> simp

@[simp] theorem State.immediateStl_frame (r : ReturnRecord) (t : Settlement) (s : State) :
    (State.immediateStl r t s).straps = s.straps ∧ (State.immediateStl r t s).clock = s.clock ∧
      (State.immediateStl r t s).peers = s.peers ∧ (State.immediateStl r t s).time = s.time ∧
      (State.immediateStl r t s).dock = s.dock ∧ (State.immediateStl r t s).card = s.card ∧
      (State.immediateStl r t s).view = s.view ∧ (State.immediateStl r t s).hire = s.hire ∧
      (State.immediateStl r t s).van = s.van ∧ (State.immediateStl r t s).port = s.port ∧
      (State.immediateStl r t s).terminal = s.terminal ∧ (State.immediateStl r t s).pending = s.pending ∧
      (State.immediateStl r t s).line.serial = s.line.serial ∧
      (State.immediateStl r t s).line.lastSender = s.line.lastSender ∧
      (State.immediateStl r t s).line.quiet = s.line.quiet ∧ (State.immediateStl r t s).line.stuck = s.line.stuck ∧
      (State.immediateStl r t s).line.clash = s.line.clash ∧ (State.immediateStl r t s).line.rx = s.line.rx ∧
      (State.immediateStl r t s).tag.copy = s.tag.copy ∧
      (State.immediateStl r t s).settle.active = s.settle.active ∧
      (State.immediateStl r t s).settle.staging = s.settle.staging ∧
      (State.immediateStl r t s).fault.raised = s.fault.raised := by simp [State.immediateStl]

@[simp] theorem State.finishSlot_frame (name : SlotName) (s : State) :
    (State.finishSlot name s).straps = s.straps ∧ (State.finishSlot name s).clock = s.clock ∧
      (State.finishSlot name s).line = s.line ∧ (State.finishSlot name s).peers = s.peers ∧
      (State.finishSlot name s).time = s.time ∧ (State.finishSlot name s).dock = s.dock ∧
      (State.finishSlot name s).card = s.card ∧ (State.finishSlot name s).view = s.view ∧
      (State.finishSlot name s).hire = s.hire ∧ (State.finishSlot name s).van = s.van ∧
      (State.finishSlot name s).port = s.port ∧ (State.finishSlot name s).terminal = s.terminal ∧
      (State.finishSlot name s).pending = s.pending ∧ (State.finishSlot name s).tag.copy = s.tag.copy ∧
      (State.finishSlot name s).settle.active = s.settle.active ∧
      (State.finishSlot name s).settle.staging = s.settle.staging ∧
      (State.finishSlot name s).fault.raised = s.fault.raised := by
  unfold State.finishSlot
  split <;> simp

@[simp] theorem State.markSlot_frame (f : ReturnRecord → Bool × Bool × Bool → Bool × Bool × Bool) (name : SlotName) (s : State) :
    (State.markSlot f name s).straps = s.straps ∧ (State.markSlot f name s).clock = s.clock ∧
      (State.markSlot f name s).line = s.line ∧ (State.markSlot f name s).peers = s.peers ∧
      (State.markSlot f name s).time = s.time ∧ (State.markSlot f name s).dock = s.dock ∧
      (State.markSlot f name s).tag = s.tag ∧ (State.markSlot f name s).card = s.card ∧
      (State.markSlot f name s).view = s.view ∧ (State.markSlot f name s).hire = s.hire ∧
      (State.markSlot f name s).fault = s.fault ∧ (State.markSlot f name s).van = s.van ∧
      (State.markSlot f name s).port = s.port ∧ (State.markSlot f name s).terminal = s.terminal ∧
      (State.markSlot f name s).pending = s.pending ∧ (State.markSlot f name s).settle.active = s.settle.active ∧
      (State.markSlot f name s).settle.staging = s.settle.staging := by
  unfold State.markSlot
  split <;> simp

@[simp] theorem State.offerSlot_frame (name : SlotName) (s : State) :
    (State.offerSlot name s).straps = s.straps ∧ (State.offerSlot name s).clock = s.clock ∧
      (State.offerSlot name s).peers = s.peers ∧ (State.offerSlot name s).time = s.time ∧
      (State.offerSlot name s).dock = s.dock ∧ (State.offerSlot name s).card = s.card ∧
      (State.offerSlot name s).view = s.view ∧ (State.offerSlot name s).hire = s.hire ∧
      (State.offerSlot name s).van = s.van ∧ (State.offerSlot name s).port = s.port ∧
      (State.offerSlot name s).terminal = s.terminal ∧ (State.offerSlot name s).pending = s.pending ∧
      (State.offerSlot name s).line.serial = s.line.serial ∧
      (State.offerSlot name s).line.lastSender = s.line.lastSender ∧
      (State.offerSlot name s).line.quiet = s.line.quiet ∧ (State.offerSlot name s).line.stuck = s.line.stuck ∧
      (State.offerSlot name s).line.clash = s.line.clash ∧ (State.offerSlot name s).line.rx = s.line.rx ∧
      (State.offerSlot name s).tag.copy = s.tag.copy ∧ (State.offerSlot name s).settle.active = s.settle.active ∧
      (State.offerSlot name s).settle.staging = s.settle.staging ∧
      (State.offerSlot name s).fault.raised = s.fault.raised := by
  unfold State.offerSlot
  split
  · split <;>
      (rename_i heq; have h1 := congrArg Prod.fst heq; dsimp only at h1; subst h1; simp)
  · simp

@[simp] theorem State.allocate_frame (name : SlotName) (r : ReturnRecord) (s : State) :
    (State.allocate name r s).straps = s.straps ∧ (State.allocate name r s).clock = s.clock ∧
      (State.allocate name r s).line = s.line ∧ (State.allocate name r s).peers = s.peers ∧
      (State.allocate name r s).time = s.time ∧ (State.allocate name r s).dock = s.dock ∧
      (State.allocate name r s).tag = s.tag ∧ (State.allocate name r s).card = s.card ∧
      (State.allocate name r s).view = s.view ∧ (State.allocate name r s).hire = s.hire ∧
      (State.allocate name r s).fault = s.fault ∧ (State.allocate name r s).van = s.van ∧
      (State.allocate name r s).port = s.port ∧ (State.allocate name r s).terminal = s.terminal ∧
      (State.allocate name r s).pending = s.pending ∧ (State.allocate name r s).settle.active = s.settle.active ∧
      (State.allocate name r s).settle.staging = s.settle.staging := by simp [State.allocate]

@[simp] theorem State.markSlots_frame (f : ReturnRecord → Bool × Bool × Bool → Bool × Bool × Bool) (s : State) :
    (State.markSlots f s).straps = s.straps ∧ (State.markSlots f s).clock = s.clock ∧
      (State.markSlots f s).line = s.line ∧ (State.markSlots f s).peers = s.peers ∧
      (State.markSlots f s).time = s.time ∧ (State.markSlots f s).dock = s.dock ∧
      (State.markSlots f s).tag = s.tag ∧ (State.markSlots f s).card = s.card ∧
      (State.markSlots f s).view = s.view ∧ (State.markSlots f s).hire = s.hire ∧
      (State.markSlots f s).fault = s.fault ∧ (State.markSlots f s).van = s.van ∧
      (State.markSlots f s).port = s.port ∧ (State.markSlots f s).terminal = s.terminal ∧
      (State.markSlots f s).pending = s.pending ∧ (State.markSlots f s).settle.active = s.settle.active ∧
      (State.markSlots f s).settle.staging = s.settle.staging := by simp [State.markSlots]

@[simp] theorem State.settleReturn_frame (r : ReadResult) (h : HireSection) (s : State) :
    (State.settleReturn r h s).straps = s.straps ∧ (State.settleReturn r h s).clock = s.clock ∧
      (State.settleReturn r h s).peers = s.peers ∧ (State.settleReturn r h s).time = s.time ∧
      (State.settleReturn r h s).dock = s.dock ∧ (State.settleReturn r h s).card = s.card ∧
      (State.settleReturn r h s).view = s.view ∧ (State.settleReturn r h s).hire = s.hire ∧
      (State.settleReturn r h s).van = s.van ∧ (State.settleReturn r h s).port = s.port ∧
      (State.settleReturn r h s).terminal = s.terminal ∧ (State.settleReturn r h s).pending = s.pending ∧
      (State.settleReturn r h s).line.serial = s.line.serial ∧
      (State.settleReturn r h s).line.lastSender = s.line.lastSender ∧
      (State.settleReturn r h s).line.quiet = s.line.quiet ∧ (State.settleReturn r h s).line.stuck = s.line.stuck ∧
      (State.settleReturn r h s).line.clash = s.line.clash ∧ (State.settleReturn r h s).line.rx = s.line.rx ∧
      (State.settleReturn r h s).tag.copy = s.tag.copy ∧
      (State.settleReturn r h s).settle.active = s.settle.active ∧
      (State.settleReturn r h s).settle.staging = s.settle.staging ∧
      (State.settleReturn r h s).fault.raised = s.fault.raised := by
  unfold State.settleReturn
  split <;> simp

@[simp] theorem State.faultWriteAnswered_frame (ref : Nat) (s : State) :
    (State.faultWriteAnswered ref s).straps = s.straps ∧ (State.faultWriteAnswered ref s).clock = s.clock ∧
      (State.faultWriteAnswered ref s).peers = s.peers ∧ (State.faultWriteAnswered ref s).time = s.time ∧
      (State.faultWriteAnswered ref s).dock = s.dock ∧ (State.faultWriteAnswered ref s).tag = s.tag ∧
      (State.faultWriteAnswered ref s).card = s.card ∧ (State.faultWriteAnswered ref s).view = s.view ∧
      (State.faultWriteAnswered ref s).hire = s.hire ∧ (State.faultWriteAnswered ref s).settle = s.settle ∧
      (State.faultWriteAnswered ref s).port = s.port ∧ (State.faultWriteAnswered ref s).terminal = s.terminal ∧
      (State.faultWriteAnswered ref s).pending = s.pending ∧
      (State.faultWriteAnswered ref s).line.serial = s.line.serial ∧
      (State.faultWriteAnswered ref s).line.lastSender = s.line.lastSender ∧
      (State.faultWriteAnswered ref s).line.quiet = s.line.quiet ∧
      (State.faultWriteAnswered ref s).line.stuck = s.line.stuck ∧
      (State.faultWriteAnswered ref s).line.clash = s.line.clash ∧
      (State.faultWriteAnswered ref s).line.rx = s.line.rx ∧
      (State.faultWriteAnswered ref s).van.window = s.van.window ∧
      (State.faultWriteAnswered ref s).van.hold = s.van.hold ∧
      (State.faultWriteAnswered ref s).van.target = s.van.target ∧
      (State.faultWriteAnswered ref s).fault.raised = s.fault.raised := by simp [State.faultWriteAnswered]

@[simp] theorem State.dockBike_frame (c : Capture) (s : State) :
    (State.dockBike c s).straps = s.straps ∧ (State.dockBike c s).clock = s.clock ∧
      (State.dockBike c s).peers = s.peers ∧ (State.dockBike c s).card = s.card ∧
      (State.dockBike c s).view = s.view ∧ (State.dockBike c s).hire = s.hire ∧
      (State.dockBike c s).settle = s.settle ∧ (State.dockBike c s).port = s.port ∧
      (State.dockBike c s).terminal = s.terminal ∧ (State.dockBike c s).pending = s.pending ∧
      (State.dockBike c s).line.serial = s.line.serial ∧ (State.dockBike c s).line.lastSender = s.line.lastSender ∧
      (State.dockBike c s).line.quiet = s.line.quiet ∧ (State.dockBike c s).line.stuck = s.line.stuck ∧
      (State.dockBike c s).line.clash = s.line.clash ∧ (State.dockBike c s).line.rx = s.line.rx ∧
      (State.dockBike c s).dock.bolt = s.dock.bolt ∧ (State.dockBike c s).dock.coil = s.dock.coil ∧
      (State.dockBike c s).dock.pullInEndAt = s.dock.pullInEndAt ∧ (State.dockBike c s).dock.count = s.dock.count ∧
      (State.dockBike c s).van.window = s.van.window ∧ (State.dockBike c s).van.hold = s.van.hold ∧
      (State.dockBike c s).fault.raised = s.fault.raised := by simp [State.dockBike]

@[simp] theorem State.startUpDocking_frame (released : Ms) (s : State) :
    (State.startUpDocking released s).straps = s.straps ∧ (State.startUpDocking released s).clock = s.clock ∧
      (State.startUpDocking released s).peers = s.peers ∧ (State.startUpDocking released s).card = s.card ∧
      (State.startUpDocking released s).view = s.view ∧ (State.startUpDocking released s).hire = s.hire ∧
      (State.startUpDocking released s).settle = s.settle ∧ (State.startUpDocking released s).fault = s.fault ∧
      (State.startUpDocking released s).port = s.port ∧ (State.startUpDocking released s).terminal = s.terminal ∧
      (State.startUpDocking released s).pending = s.pending ∧
      (State.startUpDocking released s).line.serial = s.line.serial ∧
      (State.startUpDocking released s).line.lastSender = s.line.lastSender ∧
      (State.startUpDocking released s).line.quiet = s.line.quiet ∧
      (State.startUpDocking released s).line.stuck = s.line.stuck ∧
      (State.startUpDocking released s).line.clash = s.line.clash ∧
      (State.startUpDocking released s).line.rx = s.line.rx ∧
      (State.startUpDocking released s).dock.bolt = s.dock.bolt ∧
      (State.startUpDocking released s).dock.coil = s.dock.coil ∧
      (State.startUpDocking released s).dock.pullInEndAt = s.dock.pullInEndAt ∧
      (State.startUpDocking released s).tag.operation = s.tag.operation ∧
      (State.startUpDocking released s).van.window = s.van.window ∧
      (State.startUpDocking released s).van.hold = s.van.hold ∧
      (State.startUpDocking released s).van.target = s.van.target := by simp [State.startUpDocking]

@[simp] theorem State.swapTariff_frame (s : State) :
    (State.swapTariff s).straps = s.straps ∧ (State.swapTariff s).clock = s.clock ∧
      (State.swapTariff s).line = s.line ∧ (State.swapTariff s).peers = s.peers ∧
      (State.swapTariff s).time = s.time ∧ (State.swapTariff s).dock = s.dock ∧ (State.swapTariff s).tag = s.tag ∧
      (State.swapTariff s).card = s.card ∧ (State.swapTariff s).view = s.view ∧
      (State.swapTariff s).hire = s.hire ∧ (State.swapTariff s).fault = s.fault ∧
      (State.swapTariff s).van = s.van ∧ (State.swapTariff s).port = s.port ∧
      (State.swapTariff s).terminal = s.terminal ∧ (State.swapTariff s).pending = s.pending := by
  unfold State.swapTariff
  split <;> simp

@[simp] theorem State.returnSequence_frame (r : ReadResult) (s : State) :
    (State.returnSequence r s).straps = s.straps ∧ (State.returnSequence r s).clock = s.clock ∧
      (State.returnSequence r s).peers = s.peers ∧ (State.returnSequence r s).time = s.time ∧
      (State.returnSequence r s).dock = s.dock ∧ (State.returnSequence r s).card = s.card ∧
      (State.returnSequence r s).view = s.view ∧ (State.returnSequence r s).hire = s.hire ∧
      (State.returnSequence r s).van = s.van ∧ (State.returnSequence r s).port = s.port ∧
      (State.returnSequence r s).terminal = s.terminal ∧ (State.returnSequence r s).pending = s.pending ∧
      (State.returnSequence r s).line.serial = s.line.serial ∧
      (State.returnSequence r s).line.lastSender = s.line.lastSender ∧
      (State.returnSequence r s).line.quiet = s.line.quiet ∧ (State.returnSequence r s).line.stuck = s.line.stuck ∧
      (State.returnSequence r s).line.clash = s.line.clash ∧ (State.returnSequence r s).line.rx = s.line.rx ∧
      (State.returnSequence r s).tag.copy = s.tag.copy ∧
      (State.returnSequence r s).settle.active = s.settle.active ∧
      (State.returnSequence r s).settle.staging = s.settle.staging ∧
      (State.returnSequence r s).fault.raised = s.fault.raised := by
  unfold State.returnSequence
  (repeat' split) <;> simp

@[simp] theorem State.duplicateCheck_frame (s : State) :
    (State.duplicateCheck s).straps = s.straps ∧ (State.duplicateCheck s).clock = s.clock ∧
      (State.duplicateCheck s).time = s.time ∧ (State.duplicateCheck s).dock = s.dock ∧
      (State.duplicateCheck s).tag = s.tag ∧ (State.duplicateCheck s).card = s.card ∧
      (State.duplicateCheck s).view = s.view ∧ (State.duplicateCheck s).hire = s.hire ∧
      (State.duplicateCheck s).settle = s.settle ∧ (State.duplicateCheck s).port = s.port ∧
      (State.duplicateCheck s).terminal = s.terminal ∧ (State.duplicateCheck s).pending = s.pending ∧
      (State.duplicateCheck s).line.serial = s.line.serial ∧
      (State.duplicateCheck s).line.lastSender = s.line.lastSender ∧
      (State.duplicateCheck s).line.quiet = s.line.quiet ∧ (State.duplicateCheck s).line.stuck = s.line.stuck ∧
      (State.duplicateCheck s).line.clash = s.line.clash ∧ (State.duplicateCheck s).line.rx = s.line.rx ∧
      (State.duplicateCheck s).van.window = s.van.window ∧ (State.duplicateCheck s).van.hold = s.van.hold ∧
      (State.duplicateCheck s).van.target = s.van.target ∧
      (State.duplicateCheck s).peers.adoptedId = s.peers.adoptedId ∧
      (State.duplicateCheck s).peers.entries = s.peers.entries ∧
      (State.duplicateCheck s).fault.raised = s.fault.raised := by
  unfold State.duplicateCheck
  split <;> simp

@[simp] theorem State.dockingTest_frame (s : State) :
    (State.dockingTest s).straps = s.straps ∧ (State.dockingTest s).clock = s.clock ∧
      (State.dockingTest s).peers = s.peers ∧ (State.dockingTest s).card = s.card ∧
      (State.dockingTest s).view = s.view ∧ (State.dockingTest s).hire = s.hire ∧
      (State.dockingTest s).settle = s.settle ∧ (State.dockingTest s).port = s.port ∧
      (State.dockingTest s).terminal = s.terminal ∧ (State.dockingTest s).pending = s.pending ∧
      (State.dockingTest s).line.serial = s.line.serial ∧
      (State.dockingTest s).line.lastSender = s.line.lastSender ∧ (State.dockingTest s).line.quiet = s.line.quiet ∧
      (State.dockingTest s).line.stuck = s.line.stuck ∧ (State.dockingTest s).line.clash = s.line.clash ∧
      (State.dockingTest s).line.rx = s.line.rx ∧ (State.dockingTest s).dock.bolt = s.dock.bolt ∧
      (State.dockingTest s).dock.coil = s.dock.coil ∧ (State.dockingTest s).dock.pullInEndAt = s.dock.pullInEndAt ∧
      (State.dockingTest s).dock.count = s.dock.count ∧ (State.dockingTest s).van.window = s.van.window ∧
      (State.dockingTest s).van.hold = s.van.hold ∧ (State.dockingTest s).fault.raised = s.fault.raised := by
  unfold State.dockingTest
  (repeat' split) <;> simp

@[simp] theorem State.tagAnswers_frame (s : State) :
    (State.tagAnswers s).straps = s.straps ∧ (State.tagAnswers s).clock = s.clock ∧
      (State.tagAnswers s).peers = s.peers ∧ (State.tagAnswers s).card = s.card ∧
      (State.tagAnswers s).view = s.view ∧ (State.tagAnswers s).hire = s.hire ∧
      (State.tagAnswers s).settle = s.settle ∧ (State.tagAnswers s).fault = s.fault ∧
      (State.tagAnswers s).port = s.port ∧ (State.tagAnswers s).terminal = s.terminal ∧
      (State.tagAnswers s).pending = s.pending ∧ (State.tagAnswers s).line.serial = s.line.serial ∧
      (State.tagAnswers s).line.lastSender = s.line.lastSender ∧ (State.tagAnswers s).line.quiet = s.line.quiet ∧
      (State.tagAnswers s).line.stuck = s.line.stuck ∧ (State.tagAnswers s).line.clash = s.line.clash ∧
      (State.tagAnswers s).line.rx = s.line.rx ∧ (State.tagAnswers s).dock.bolt = s.dock.bolt ∧
      (State.tagAnswers s).dock.coil = s.dock.coil ∧ (State.tagAnswers s).dock.pullInEndAt = s.dock.pullInEndAt ∧
      (State.tagAnswers s).van.window = s.van.window ∧ (State.tagAnswers s).van.hold = s.van.hold ∧
      (State.tagAnswers s).van.target = s.van.target := by
  unfold State.tagAnswers
  (repeat' split) <;> simp

@[simp] theorem State.takeTrf_frame (body : List Byte) (s : State) :
    (State.takeTrf body s).straps = s.straps ∧ (State.takeTrf body s).clock = s.clock ∧
      (State.takeTrf body s).line = s.line ∧ (State.takeTrf body s).peers = s.peers ∧
      (State.takeTrf body s).time = s.time ∧ (State.takeTrf body s).dock = s.dock ∧
      (State.takeTrf body s).tag = s.tag ∧ (State.takeTrf body s).card = s.card ∧
      (State.takeTrf body s).view = s.view ∧ (State.takeTrf body s).hire = s.hire ∧
      (State.takeTrf body s).fault = s.fault ∧ (State.takeTrf body s).van = s.van ∧
      (State.takeTrf body s).port = s.port ∧ (State.takeTrf body s).terminal = s.terminal ∧
      (State.takeTrf body s).pending = s.pending := by
  unfold State.takeTrf
  (repeat' split) <;> simp

@[simp] theorem State.memberReport_frame (count : Nat) (s : State) :
    (State.memberReport count s).straps = s.straps ∧ (State.memberReport count s).clock = s.clock ∧
      (State.memberReport count s).peers = s.peers ∧ (State.memberReport count s).time = s.time ∧
      (State.memberReport count s).dock = s.dock ∧ (State.memberReport count s).card = s.card ∧
      (State.memberReport count s).view = s.view ∧ (State.memberReport count s).hire = s.hire ∧
      (State.memberReport count s).port = s.port ∧ (State.memberReport count s).terminal = s.terminal ∧
      (State.memberReport count s).pending = s.pending ∧ (State.memberReport count s).line.serial = s.line.serial ∧
      (State.memberReport count s).line.lastSender = s.line.lastSender ∧
      (State.memberReport count s).line.quiet = s.line.quiet ∧
      (State.memberReport count s).line.stuck = s.line.stuck ∧
      (State.memberReport count s).line.clash = s.line.clash ∧ (State.memberReport count s).line.rx = s.line.rx ∧
      (State.memberReport count s).tag.copy = s.tag.copy ∧ (State.memberReport count s).van.window = s.van.window ∧
      (State.memberReport count s).van.hold = s.van.hold ∧ (State.memberReport count s).van.target = s.van.target ∧
      (State.memberReport count s).settle.active = s.settle.active ∧
      (State.memberReport count s).settle.staging = s.settle.staging ∧
      (State.memberReport count s).fault.raised = s.fault.raised := by
  unfold State.memberReport
  (repeat' split) <;> simp

@[simp] theorem State.faultTakesRead_frame (s : State) :
    (State.faultTakesRead s).straps = s.straps ∧ (State.faultTakesRead s).clock = s.clock ∧
      (State.faultTakesRead s).peers = s.peers ∧ (State.faultTakesRead s).time = s.time ∧
      (State.faultTakesRead s).dock = s.dock ∧ (State.faultTakesRead s).card = s.card ∧
      (State.faultTakesRead s).view = s.view ∧ (State.faultTakesRead s).hire = s.hire ∧
      (State.faultTakesRead s).port = s.port ∧ (State.faultTakesRead s).terminal = s.terminal ∧
      (State.faultTakesRead s).pending = s.pending ∧ (State.faultTakesRead s).line.serial = s.line.serial ∧
      (State.faultTakesRead s).line.lastSender = s.line.lastSender ∧
      (State.faultTakesRead s).line.quiet = s.line.quiet ∧ (State.faultTakesRead s).line.stuck = s.line.stuck ∧
      (State.faultTakesRead s).line.clash = s.line.clash ∧ (State.faultTakesRead s).line.rx = s.line.rx ∧
      (State.faultTakesRead s).tag.copy = s.tag.copy ∧ (State.faultTakesRead s).van.window = s.van.window ∧
      (State.faultTakesRead s).van.hold = s.van.hold ∧ (State.faultTakesRead s).van.target = s.van.target ∧
      (State.faultTakesRead s).settle.active = s.settle.active ∧
      (State.faultTakesRead s).settle.staging = s.settle.staging ∧
      (State.faultTakesRead s).fault.raised = s.fault.raised := by
  unfold State.faultTakesRead
  dsimp only
  (repeat' split) <;> first | (simp; done) | (rename_i heq; have h1 := congrArg Prod.fst heq; dsimp only at h1; subst h1; simp)

@[simp] theorem State.readSetSilent_frame (got : List (List Byte)) (s : State) :
    (State.readSetSilent got s).straps = s.straps ∧ (State.readSetSilent got s).clock = s.clock ∧
      (State.readSetSilent got s).time = s.time ∧ (State.readSetSilent got s).dock = s.dock ∧
      (State.readSetSilent got s).card = s.card ∧ (State.readSetSilent got s).view = s.view ∧
      (State.readSetSilent got s).hire = s.hire ∧ (State.readSetSilent got s).port = s.port ∧
      (State.readSetSilent got s).terminal = s.terminal ∧ (State.readSetSilent got s).pending = s.pending ∧
      (State.readSetSilent got s).line.serial = s.line.serial ∧
      (State.readSetSilent got s).line.lastSender = s.line.lastSender ∧
      (State.readSetSilent got s).line.quiet = s.line.quiet ∧
      (State.readSetSilent got s).line.stuck = s.line.stuck ∧
      (State.readSetSilent got s).line.clash = s.line.clash ∧ (State.readSetSilent got s).line.rx = s.line.rx ∧
      (State.readSetSilent got s).van.window = s.van.window ∧ (State.readSetSilent got s).van.hold = s.van.hold ∧
      (State.readSetSilent got s).van.target = s.van.target ∧
      (State.readSetSilent got s).settle.active = s.settle.active ∧
      (State.readSetSilent got s).settle.staging = s.settle.staging ∧
      (State.readSetSilent got s).peers.adoptedId = s.peers.adoptedId ∧
      (State.readSetSilent got s).peers.entries = s.peers.entries ∧
      (State.readSetSilent got s).fault.raised = s.fault.raised := by simp [State.readSetSilent]

@[simp] theorem State.readSetComplete_frame (got : List (List Byte)) (s : State) :
    (State.readSetComplete got s).straps = s.straps ∧ (State.readSetComplete got s).clock = s.clock ∧
      (State.readSetComplete got s).time = s.time ∧ (State.readSetComplete got s).dock = s.dock ∧
      (State.readSetComplete got s).card = s.card ∧ (State.readSetComplete got s).view = s.view ∧
      (State.readSetComplete got s).hire = s.hire ∧ (State.readSetComplete got s).port = s.port ∧
      (State.readSetComplete got s).terminal = s.terminal ∧ (State.readSetComplete got s).pending = s.pending ∧
      (State.readSetComplete got s).line.serial = s.line.serial ∧
      (State.readSetComplete got s).line.lastSender = s.line.lastSender ∧
      (State.readSetComplete got s).line.quiet = s.line.quiet ∧
      (State.readSetComplete got s).line.stuck = s.line.stuck ∧
      (State.readSetComplete got s).line.clash = s.line.clash ∧ (State.readSetComplete got s).line.rx = s.line.rx ∧
      (State.readSetComplete got s).van.window = s.van.window ∧
      (State.readSetComplete got s).van.hold = s.van.hold ∧
      (State.readSetComplete got s).van.target = s.van.target ∧
      (State.readSetComplete got s).settle.active = s.settle.active ∧
      (State.readSetComplete got s).settle.staging = s.settle.staging ∧
      (State.readSetComplete got s).peers.adoptedId = s.peers.adoptedId ∧
      (State.readSetComplete got s).peers.entries = s.peers.entries ∧
      (State.readSetComplete got s).fault.raised = s.fault.raised := by simp [State.readSetComplete]

@[simp] theorem State.writeAnswered_frame (r : WriteRequest) (answer : WriteAnswer) (s : State) :
    (State.writeAnswered r answer s).straps = s.straps ∧ (State.writeAnswered r answer s).clock = s.clock ∧
      (State.writeAnswered r answer s).peers = s.peers ∧ (State.writeAnswered r answer s).time = s.time ∧
      (State.writeAnswered r answer s).card = s.card ∧ (State.writeAnswered r answer s).view = s.view ∧
      (State.writeAnswered r answer s).port = s.port ∧ (State.writeAnswered r answer s).terminal = s.terminal ∧
      (State.writeAnswered r answer s).pending = s.pending ∧
      (State.writeAnswered r answer s).line.serial = s.line.serial ∧
      (State.writeAnswered r answer s).line.lastSender = s.line.lastSender ∧
      (State.writeAnswered r answer s).line.quiet = s.line.quiet ∧
      (State.writeAnswered r answer s).line.stuck = s.line.stuck ∧
      (State.writeAnswered r answer s).line.clash = s.line.clash ∧
      (State.writeAnswered r answer s).line.rx = s.line.rx ∧
      (State.writeAnswered r answer s).dock.docked = s.dock.docked ∧
      (State.writeAnswered r answer s).dock.count = s.dock.count ∧
      (State.writeAnswered r answer s).hire.claims = s.hire.claims ∧
      (State.writeAnswered r answer s).tag.copy = s.tag.copy ∧
      (State.writeAnswered r answer s).van.window = s.van.window ∧
      (State.writeAnswered r answer s).van.hold = s.van.hold ∧
      (State.writeAnswered r answer s).van.target = s.van.target ∧
      (State.writeAnswered r answer s).settle.active = s.settle.active ∧
      (State.writeAnswered r answer s).settle.staging = s.settle.staging ∧
      (State.writeAnswered r answer s).fault.raised = s.fault.raised := by
  unfold State.writeAnswered
  split <;> simp

@[simp] theorem State.finishWrite_frame (r : WriteRequest) (answer : WriteAnswer) (s : State) :
    (State.finishWrite r answer s).straps = s.straps ∧ (State.finishWrite r answer s).clock = s.clock ∧
      (State.finishWrite r answer s).peers = s.peers ∧ (State.finishWrite r answer s).time = s.time ∧
      (State.finishWrite r answer s).card = s.card ∧ (State.finishWrite r answer s).view = s.view ∧
      (State.finishWrite r answer s).port = s.port ∧ (State.finishWrite r answer s).terminal = s.terminal ∧
      (State.finishWrite r answer s).pending = s.pending ∧
      (State.finishWrite r answer s).line.serial = s.line.serial ∧
      (State.finishWrite r answer s).line.lastSender = s.line.lastSender ∧
      (State.finishWrite r answer s).line.quiet = s.line.quiet ∧
      (State.finishWrite r answer s).line.stuck = s.line.stuck ∧
      (State.finishWrite r answer s).line.clash = s.line.clash ∧
      (State.finishWrite r answer s).line.rx = s.line.rx ∧
      (State.finishWrite r answer s).dock.docked = s.dock.docked ∧
      (State.finishWrite r answer s).dock.count = s.dock.count ∧
      (State.finishWrite r answer s).hire.claims = s.hire.claims ∧
      (State.finishWrite r answer s).van.window = s.van.window ∧
      (State.finishWrite r answer s).van.hold = s.van.hold ∧
      (State.finishWrite r answer s).van.target = s.van.target ∧
      (State.finishWrite r answer s).settle.active = s.settle.active ∧
      (State.finishWrite r answer s).settle.staging = s.settle.staging ∧
      (State.finishWrite r answer s).fault.raised = s.fault.raised := by
  unfold State.finishWrite
  split <;> simp

end Sys2Proof.Machine
end

