-- ==== Sys2Proof/Laws/LineFrames.lean ====
section
/-! SUPPORT. Frames: what each operation of the receiver, the peer table and the listening blocks
(Machine/FrameOps.lean) leaves as it was. -/

namespace Sys2Proof.Machine

@[simp] theorem State.takeClm_frame (sender : Nat) (serial : BitVec 8) (body : List Byte) (s : State) :
    (State.takeClm sender serial body s).straps = s.straps ∧ (State.takeClm sender serial body s).clock = s.clock ∧
      (State.takeClm sender serial body s).line = s.line ∧ (State.takeClm sender serial body s).peers = s.peers ∧
      (State.takeClm sender serial body s).time = s.time ∧ (State.takeClm sender serial body s).dock = s.dock ∧
      (State.takeClm sender serial body s).tag = s.tag ∧ (State.takeClm sender serial body s).card = s.card ∧
      (State.takeClm sender serial body s).view = s.view ∧ (State.takeClm sender serial body s).settle = s.settle ∧
      (State.takeClm sender serial body s).fault = s.fault ∧ (State.takeClm sender serial body s).van = s.van ∧
      (State.takeClm sender serial body s).port = s.port ∧
      (State.takeClm sender serial body s).terminal = s.terminal ∧
      (State.takeClm sender serial body s).pending = s.pending ∧
      (State.takeClm sender serial body s).hire.state = s.hire.state := by
  unfold State.takeClm
  split <;> simp

@[simp] theorem State.removeClaim_frame (sender : Nat) (serial : BitVec 8) (member : Nat) (s : State) :
    (State.removeClaim sender serial member s).straps = s.straps ∧
      (State.removeClaim sender serial member s).clock = s.clock ∧
      (State.removeClaim sender serial member s).line = s.line ∧
      (State.removeClaim sender serial member s).peers = s.peers ∧
      (State.removeClaim sender serial member s).time = s.time ∧
      (State.removeClaim sender serial member s).dock = s.dock ∧
      (State.removeClaim sender serial member s).tag = s.tag ∧
      (State.removeClaim sender serial member s).card = s.card ∧
      (State.removeClaim sender serial member s).view = s.view ∧
      (State.removeClaim sender serial member s).settle = s.settle ∧
      (State.removeClaim sender serial member s).fault = s.fault ∧
      (State.removeClaim sender serial member s).van = s.van ∧
      (State.removeClaim sender serial member s).port = s.port ∧
      (State.removeClaim sender serial member s).terminal = s.terminal ∧
      (State.removeClaim sender serial member s).pending = s.pending ∧
      (State.removeClaim sender serial member s).hire.state = s.hire.state := by simp [State.removeClaim]

@[simp] theorem State.setPeer_frame (n : Nat) (p : Peer) (s : State) :
    (State.setPeer n p s).straps = s.straps ∧ (State.setPeer n p s).clock = s.clock ∧
      (State.setPeer n p s).line = s.line ∧ (State.setPeer n p s).time = s.time ∧
      (State.setPeer n p s).dock = s.dock ∧ (State.setPeer n p s).tag = s.tag ∧
      (State.setPeer n p s).card = s.card ∧ (State.setPeer n p s).view = s.view ∧
      (State.setPeer n p s).hire = s.hire ∧ (State.setPeer n p s).settle = s.settle ∧
      (State.setPeer n p s).fault = s.fault ∧ (State.setPeer n p s).van = s.van ∧
      (State.setPeer n p s).port = s.port ∧ (State.setPeer n p s).terminal = s.terminal ∧
      (State.setPeer n p s).pending = s.pending ∧ (State.setPeer n p s).peers.adoptedId = s.peers.adoptedId := by simp [State.setPeer]

@[simp] theorem State.replaceHeld_frame (e : TxEntry) (s : State) :
    (State.replaceHeld e s).straps = s.straps ∧ (State.replaceHeld e s).clock = s.clock ∧
      (State.replaceHeld e s).peers = s.peers ∧ (State.replaceHeld e s).time = s.time ∧
      (State.replaceHeld e s).dock = s.dock ∧ (State.replaceHeld e s).tag = s.tag ∧
      (State.replaceHeld e s).card = s.card ∧ (State.replaceHeld e s).view = s.view ∧
      (State.replaceHeld e s).hire = s.hire ∧ (State.replaceHeld e s).settle = s.settle ∧
      (State.replaceHeld e s).fault = s.fault ∧ (State.replaceHeld e s).van = s.van ∧
      (State.replaceHeld e s).port = s.port ∧ (State.replaceHeld e s).terminal = s.terminal ∧
      (State.replaceHeld e s).pending = s.pending ∧ (State.replaceHeld e s).line.serial = s.line.serial ∧
      (State.replaceHeld e s).line.lastSender = s.line.lastSender ∧
      (State.replaceHeld e s).line.quiet = s.line.quiet ∧ (State.replaceHeld e s).line.stuck = s.line.stuck ∧
      (State.replaceHeld e s).line.clash = s.line.clash ∧ (State.replaceHeld e s).line.rx = s.line.rx := by
  unfold State.replaceHeld
  split <;> simp

@[simp] theorem State.inFrame_frame (bytes : List Byte) (s : State) :
    (State.inFrame bytes s).straps = s.straps ∧ (State.inFrame bytes s).clock = s.clock ∧
      (State.inFrame bytes s).peers = s.peers ∧ (State.inFrame bytes s).time = s.time ∧
      (State.inFrame bytes s).dock = s.dock ∧ (State.inFrame bytes s).tag = s.tag ∧
      (State.inFrame bytes s).card = s.card ∧ (State.inFrame bytes s).view = s.view ∧
      (State.inFrame bytes s).hire = s.hire ∧ (State.inFrame bytes s).settle = s.settle ∧
      (State.inFrame bytes s).fault = s.fault ∧ (State.inFrame bytes s).van = s.van ∧
      (State.inFrame bytes s).port = s.port ∧ (State.inFrame bytes s).terminal = s.terminal ∧
      (State.inFrame bytes s).pending = s.pending ∧ (State.inFrame bytes s).line.serial = s.line.serial ∧
      (State.inFrame bytes s).line.lastSender = s.line.lastSender ∧
      (State.inFrame bytes s).line.quiet = s.line.quiet ∧ (State.inFrame bytes s).line.stuck = s.line.stuck ∧
      (State.inFrame bytes s).line.clash = s.line.clash := by simp [State.inFrame]

@[simp] theorem State.hearSelf_frame (s : State) :
    (State.hearSelf s).straps = s.straps ∧ (State.hearSelf s).clock = s.clock ∧ (State.hearSelf s).line = s.line ∧
      (State.hearSelf s).time = s.time ∧ (State.hearSelf s).dock = s.dock ∧ (State.hearSelf s).tag = s.tag ∧
      (State.hearSelf s).card = s.card ∧ (State.hearSelf s).view = s.view ∧ (State.hearSelf s).hire = s.hire ∧
      (State.hearSelf s).settle = s.settle ∧ (State.hearSelf s).fault = s.fault ∧ (State.hearSelf s).van = s.van ∧
      (State.hearSelf s).port = s.port ∧ (State.hearSelf s).terminal = s.terminal ∧
      (State.hearSelf s).pending = s.pending ∧ (State.hearSelf s).peers.adoptedId = s.peers.adoptedId := by simp [State.hearSelf]

@[simp] theorem State.terminalTakes_frame (f : Frame) (s : State) :
    (State.terminalTakes f s).straps = s.straps ∧ (State.terminalTakes f s).clock = s.clock ∧
      (State.terminalTakes f s).line = s.line ∧ (State.terminalTakes f s).peers = s.peers ∧
      (State.terminalTakes f s).time = s.time ∧ (State.terminalTakes f s).dock = s.dock ∧
      (State.terminalTakes f s).tag = s.tag ∧ (State.terminalTakes f s).card = s.card ∧
      (State.terminalTakes f s).hire = s.hire ∧ (State.terminalTakes f s).settle = s.settle ∧
      (State.terminalTakes f s).fault = s.fault ∧ (State.terminalTakes f s).van = s.van ∧
      (State.terminalTakes f s).terminal = s.terminal ∧ (State.terminalTakes f s).pending = s.pending := by
  unfold State.terminalTakes
  split <;> simp

@[simp] theorem State.characterEnds_frame (c : LineChar) (s : State) :
    (State.characterEnds c s).straps = s.straps ∧ (State.characterEnds c s).peers = s.peers ∧
      (State.characterEnds c s).time = s.time ∧ (State.characterEnds c s).dock = s.dock ∧
      (State.characterEnds c s).tag = s.tag ∧ (State.characterEnds c s).card = s.card ∧
      (State.characterEnds c s).view = s.view ∧ (State.characterEnds c s).hire = s.hire ∧
      (State.characterEnds c s).settle = s.settle ∧ (State.characterEnds c s).fault = s.fault ∧
      (State.characterEnds c s).van = s.van ∧ (State.characterEnds c s).port = s.port ∧
      (State.characterEnds c s).terminal = s.terminal ∧ (State.characterEnds c s).pending = s.pending ∧
      (State.characterEnds c s).line.serial = s.line.serial ∧
      (State.characterEnds c s).line.lastSender = s.line.lastSender ∧
      (State.characterEnds c s).line.stuck = s.line.stuck ∧ (State.characterEnds c s).line.clash = s.line.clash ∧
      (State.characterEnds c s).line.rx = s.line.rx := by
  unfold State.characterEnds
  split <;> simp

@[simp] theorem State.closeWindow_frame (cause : WindowCause) (s : State) :
    (State.closeWindow cause s).straps = s.straps ∧ (State.closeWindow cause s).clock = s.clock ∧
      (State.closeWindow cause s).line = s.line ∧ (State.closeWindow cause s).peers = s.peers ∧
      (State.closeWindow cause s).time = s.time ∧ (State.closeWindow cause s).dock = s.dock ∧
      (State.closeWindow cause s).tag = s.tag ∧ (State.closeWindow cause s).card = s.card ∧
      (State.closeWindow cause s).view = s.view ∧ (State.closeWindow cause s).hire = s.hire ∧
      (State.closeWindow cause s).settle = s.settle ∧ (State.closeWindow cause s).fault = s.fault ∧
      (State.closeWindow cause s).terminal = s.terminal ∧ (State.closeWindow cause s).pending = s.pending := by
  unfold State.closeWindow
  (repeat' split) <;> simp

@[simp] theorem State.offerAccepted_frame (w : VanWindow) (s : State) :
    (State.offerAccepted w s).straps = s.straps ∧ (State.offerAccepted w s).clock = s.clock ∧
      (State.offerAccepted w s).line = s.line ∧ (State.offerAccepted w s).peers = s.peers ∧
      (State.offerAccepted w s).time = s.time ∧ (State.offerAccepted w s).dock = s.dock ∧
      (State.offerAccepted w s).tag = s.tag ∧ (State.offerAccepted w s).card = s.card ∧
      (State.offerAccepted w s).view = s.view ∧ (State.offerAccepted w s).hire = s.hire ∧
      (State.offerAccepted w s).settle = s.settle ∧ (State.offerAccepted w s).fault = s.fault ∧
      (State.offerAccepted w s).port = s.port ∧ (State.offerAccepted w s).terminal = s.terminal ∧
      (State.offerAccepted w s).pending = s.pending ∧ (State.offerAccepted w s).van.window = s.van.window := by
  unfold State.offerAccepted
  (repeat' split) <;> simp

@[simp] theorem State.takeVcl_frame (body : List Byte) (s : State) :
    (State.takeVcl body s).straps = s.straps ∧ (State.takeVcl body s).clock = s.clock ∧
      (State.takeVcl body s).line = s.line ∧ (State.takeVcl body s).peers = s.peers ∧
      (State.takeVcl body s).time = s.time ∧ (State.takeVcl body s).dock = s.dock ∧
      (State.takeVcl body s).tag = s.tag ∧ (State.takeVcl body s).card = s.card ∧
      (State.takeVcl body s).view = s.view ∧ (State.takeVcl body s).hire = s.hire ∧
      (State.takeVcl body s).settle = s.settle ∧ (State.takeVcl body s).fault = s.fault ∧
      (State.takeVcl body s).terminal = s.terminal ∧ (State.takeVcl body s).pending = s.pending := by
  unfold State.takeVcl
  (repeat' split) <;> simp

@[simp] theorem State.offerHeld_frame (s : State) :
    (State.offerHeld s).straps = s.straps ∧ (State.offerHeld s).clock = s.clock ∧
      (State.offerHeld s).peers = s.peers ∧ (State.offerHeld s).time = s.time ∧ (State.offerHeld s).dock = s.dock ∧
      (State.offerHeld s).tag = s.tag ∧ (State.offerHeld s).card = s.card ∧ (State.offerHeld s).view = s.view ∧
      (State.offerHeld s).hire = s.hire ∧ (State.offerHeld s).settle = s.settle ∧
      (State.offerHeld s).fault = s.fault ∧ (State.offerHeld s).van = s.van ∧ (State.offerHeld s).port = s.port ∧
      (State.offerHeld s).terminal = s.terminal ∧ (State.offerHeld s).pending = s.pending ∧
      (State.offerHeld s).line.serial = s.line.serial ∧ (State.offerHeld s).line.lastSender = s.line.lastSender ∧
      (State.offerHeld s).line.quiet = s.line.quiet ∧ (State.offerHeld s).line.stuck = s.line.stuck ∧
      (State.offerHeld s).line.clash = s.line.clash ∧ (State.offerHeld s).line.rx = s.line.rx := by
  unfold State.offerHeld
  split <;> simp

@[simp] theorem State.openWindow_frame (v : VopValues) (s : State) :
    (State.openWindow v s).straps = s.straps ∧ (State.openWindow v s).clock = s.clock ∧
      (State.openWindow v s).peers = s.peers ∧ (State.openWindow v s).time = s.time ∧
      (State.openWindow v s).dock = s.dock ∧ (State.openWindow v s).tag = s.tag ∧
      (State.openWindow v s).card = s.card ∧ (State.openWindow v s).view = s.view ∧
      (State.openWindow v s).hire = s.hire ∧ (State.openWindow v s).settle = s.settle ∧
      (State.openWindow v s).fault = s.fault ∧ (State.openWindow v s).port = s.port ∧
      (State.openWindow v s).terminal = s.terminal ∧ (State.openWindow v s).pending = s.pending ∧
      (State.openWindow v s).line.serial = s.line.serial ∧
      (State.openWindow v s).line.lastSender = s.line.lastSender ∧
      (State.openWindow v s).line.quiet = s.line.quiet ∧ (State.openWindow v s).line.stuck = s.line.stuck ∧
      (State.openWindow v s).line.clash = s.line.clash ∧ (State.openWindow v s).line.rx = s.line.rx ∧
      (State.openWindow v s).van.hold = s.van.hold ∧ (State.openWindow v s).van.target = s.van.target := by simp [State.openWindow]

@[simp] theorem State.appendOffer_frame (w : VanWindow) (sender : Nat) (body : List Byte) (s : State) :
    (State.appendOffer w sender body s).straps = s.straps ∧ (State.appendOffer w sender body s).clock = s.clock ∧
      (State.appendOffer w sender body s).peers = s.peers ∧ (State.appendOffer w sender body s).time = s.time ∧
      (State.appendOffer w sender body s).dock = s.dock ∧ (State.appendOffer w sender body s).tag = s.tag ∧
      (State.appendOffer w sender body s).card = s.card ∧ (State.appendOffer w sender body s).view = s.view ∧
      (State.appendOffer w sender body s).hire = s.hire ∧ (State.appendOffer w sender body s).settle = s.settle ∧
      (State.appendOffer w sender body s).fault = s.fault ∧
      (State.appendOffer w sender body s).terminal = s.terminal ∧
      (State.appendOffer w sender body s).pending = s.pending ∧
      (State.appendOffer w sender body s).line.serial = s.line.serial ∧
      (State.appendOffer w sender body s).line.lastSender = s.line.lastSender ∧
      (State.appendOffer w sender body s).line.quiet = s.line.quiet ∧
      (State.appendOffer w sender body s).line.stuck = s.line.stuck ∧
      (State.appendOffer w sender body s).line.clash = s.line.clash ∧
      (State.appendOffer w sender body s).line.rx = s.line.rx := by
  unfold State.appendOffer
  (repeat' split) <;> simp

@[simp] theorem State.takeVop_frame (body : List Byte) (s : State) :
    (State.takeVop body s).straps = s.straps ∧ (State.takeVop body s).clock = s.clock ∧
      (State.takeVop body s).peers = s.peers ∧ (State.takeVop body s).time = s.time ∧
      (State.takeVop body s).dock = s.dock ∧ (State.takeVop body s).tag = s.tag ∧
      (State.takeVop body s).card = s.card ∧ (State.takeVop body s).view = s.view ∧
      (State.takeVop body s).hire = s.hire ∧ (State.takeVop body s).settle = s.settle ∧
      (State.takeVop body s).fault = s.fault ∧ (State.takeVop body s).terminal = s.terminal ∧
      (State.takeVop body s).pending = s.pending ∧ (State.takeVop body s).line.serial = s.line.serial ∧
      (State.takeVop body s).line.lastSender = s.line.lastSender ∧
      (State.takeVop body s).line.quiet = s.line.quiet ∧ (State.takeVop body s).line.stuck = s.line.stuck ∧
      (State.takeVop body s).line.clash = s.line.clash ∧ (State.takeVop body s).line.rx = s.line.rx := by
  unfold State.takeVop
  (repeat' split) <;> simp

@[simp] theorem State.takeOfr_frame (sender : Nat) (body : List Byte) (own : Option Nat) (s : State) :
    (State.takeOfr sender body own s).straps = s.straps ∧ (State.takeOfr sender body own s).clock = s.clock ∧
      (State.takeOfr sender body own s).peers = s.peers ∧ (State.takeOfr sender body own s).time = s.time ∧
      (State.takeOfr sender body own s).dock = s.dock ∧ (State.takeOfr sender body own s).tag = s.tag ∧
      (State.takeOfr sender body own s).card = s.card ∧ (State.takeOfr sender body own s).view = s.view ∧
      (State.takeOfr sender body own s).hire = s.hire ∧ (State.takeOfr sender body own s).settle = s.settle ∧
      (State.takeOfr sender body own s).fault = s.fault ∧ (State.takeOfr sender body own s).terminal = s.terminal ∧
      (State.takeOfr sender body own s).pending = s.pending ∧
      (State.takeOfr sender body own s).line.serial = s.line.serial ∧
      (State.takeOfr sender body own s).line.lastSender = s.line.lastSender ∧
      (State.takeOfr sender body own s).line.quiet = s.line.quiet ∧
      (State.takeOfr sender body own s).line.stuck = s.line.stuck ∧
      (State.takeOfr sender body own s).line.clash = s.line.clash ∧
      (State.takeOfr sender body own s).line.rx = s.line.rx := by
  unfold State.takeOfr
  (repeat' split) <;> simp

@[simp] theorem State.clearTagMark_frame (s : State) :
    (State.clearTagMark s).straps = s.straps ∧ (State.clearTagMark s).clock = s.clock ∧
      (State.clearTagMark s).peers = s.peers ∧ (State.clearTagMark s).time = s.time ∧
      (State.clearTagMark s).dock = s.dock ∧ (State.clearTagMark s).tag = s.tag ∧
      (State.clearTagMark s).card = s.card ∧ (State.clearTagMark s).view = s.view ∧
      (State.clearTagMark s).hire = s.hire ∧ (State.clearTagMark s).settle = s.settle ∧
      (State.clearTagMark s).port = s.port ∧ (State.clearTagMark s).terminal = s.terminal ∧
      (State.clearTagMark s).pending = s.pending ∧ (State.clearTagMark s).line.serial = s.line.serial ∧
      (State.clearTagMark s).line.lastSender = s.line.lastSender ∧
      (State.clearTagMark s).line.quiet = s.line.quiet ∧ (State.clearTagMark s).line.stuck = s.line.stuck ∧
      (State.clearTagMark s).line.clash = s.line.clash ∧ (State.clearTagMark s).line.rx = s.line.rx ∧
      (State.clearTagMark s).van.window = s.van.window ∧ (State.clearTagMark s).van.hold = s.van.hold ∧
      (State.clearTagMark s).van.target = s.van.target ∧ (State.clearTagMark s).fault.raised = s.fault.raised := by simp [State.clearTagMark]

@[simp] theorem State.backDate_frame (base : BasePair) (s : State) :
    (State.backDate base s).straps = s.straps ∧ (State.backDate base s).clock = s.clock ∧
      (State.backDate base s).line = s.line ∧ (State.backDate base s).peers = s.peers ∧
      (State.backDate base s).card = s.card ∧ (State.backDate base s).view = s.view ∧
      (State.backDate base s).hire = s.hire ∧ (State.backDate base s).fault = s.fault ∧
      (State.backDate base s).van = s.van ∧ (State.backDate base s).port = s.port ∧
      (State.backDate base s).terminal = s.terminal ∧ (State.backDate base s).pending = s.pending ∧
      (State.backDate base s).dock.bolt = s.dock.bolt ∧ (State.backDate base s).dock.coil = s.dock.coil ∧
      (State.backDate base s).dock.pullInEndAt = s.dock.pullInEndAt ∧
      (State.backDate base s).dock.docked = s.dock.docked ∧ (State.backDate base s).dock.count = s.dock.count ∧
      (State.backDate base s).tag.copy = s.tag.copy ∧ (State.backDate base s).tag.operation = s.tag.operation ∧
      (State.backDate base s).settle.active = s.settle.active ∧
      (State.backDate base s).settle.staging = s.settle.staging ∧ (State.backDate base s).time.base = s.time.base ∧
      (State.backDate base s).time.quality = s.time.quality := by simp [State.backDate]

@[simp] theorem State.adoptStation_frame (id : Nat) (s : State) :
    (State.adoptStation id s).straps = s.straps ∧ (State.adoptStation id s).clock = s.clock ∧
      (State.adoptStation id s).line = s.line ∧ (State.adoptStation id s).time = s.time ∧
      (State.adoptStation id s).dock = s.dock ∧ (State.adoptStation id s).tag = s.tag ∧
      (State.adoptStation id s).card = s.card ∧ (State.adoptStation id s).view = s.view ∧
      (State.adoptStation id s).hire = s.hire ∧ (State.adoptStation id s).fault = s.fault ∧
      (State.adoptStation id s).van = s.van ∧ (State.adoptStation id s).port = s.port ∧
      (State.adoptStation id s).terminal = s.terminal ∧ (State.adoptStation id s).pending = s.pending ∧
      (State.adoptStation id s).settle.active = s.settle.active ∧
      (State.adoptStation id s).settle.staging = s.settle.staging ∧
      (State.adoptStation id s).peers.entries = s.peers.entries := by simp [State.adoptStation]

@[simp] theorem State.stationConflict_frame (s : State) :
    (State.stationConflict s).straps = s.straps ∧ (State.stationConflict s).clock = s.clock ∧
      (State.stationConflict s).time = s.time ∧ (State.stationConflict s).dock = s.dock ∧
      (State.stationConflict s).tag = s.tag ∧ (State.stationConflict s).card = s.card ∧
      (State.stationConflict s).view = s.view ∧ (State.stationConflict s).hire = s.hire ∧
      (State.stationConflict s).settle = s.settle ∧ (State.stationConflict s).port = s.port ∧
      (State.stationConflict s).terminal = s.terminal ∧ (State.stationConflict s).pending = s.pending ∧
      (State.stationConflict s).line.serial = s.line.serial ∧
      (State.stationConflict s).line.lastSender = s.line.lastSender ∧
      (State.stationConflict s).line.quiet = s.line.quiet ∧ (State.stationConflict s).line.stuck = s.line.stuck ∧
      (State.stationConflict s).line.clash = s.line.clash ∧ (State.stationConflict s).line.rx = s.line.rx ∧
      (State.stationConflict s).van.window = s.van.window ∧ (State.stationConflict s).van.hold = s.van.hold ∧
      (State.stationConflict s).van.target = s.van.target ∧
      (State.stationConflict s).peers.adoptedId = s.peers.adoptedId ∧
      (State.stationConflict s).peers.entries = s.peers.entries := by
  unfold State.stationConflict
  split <;> simp

@[simp] theorem State.adoptTime_frame (schemeMs : Nat) (s : State) :
    (State.adoptTime schemeMs s).straps = s.straps ∧ (State.adoptTime schemeMs s).clock = s.clock ∧
      (State.adoptTime schemeMs s).line = s.line ∧ (State.adoptTime schemeMs s).peers = s.peers ∧
      (State.adoptTime schemeMs s).card = s.card ∧ (State.adoptTime schemeMs s).view = s.view ∧
      (State.adoptTime schemeMs s).hire = s.hire ∧ (State.adoptTime schemeMs s).fault = s.fault ∧
      (State.adoptTime schemeMs s).van = s.van ∧ (State.adoptTime schemeMs s).port = s.port ∧
      (State.adoptTime schemeMs s).terminal = s.terminal ∧ (State.adoptTime schemeMs s).pending = s.pending ∧
      (State.adoptTime schemeMs s).dock.bolt = s.dock.bolt ∧ (State.adoptTime schemeMs s).dock.coil = s.dock.coil ∧
      (State.adoptTime schemeMs s).dock.pullInEndAt = s.dock.pullInEndAt ∧
      (State.adoptTime schemeMs s).dock.docked = s.dock.docked ∧
      (State.adoptTime schemeMs s).dock.count = s.dock.count ∧ (State.adoptTime schemeMs s).tag.copy = s.tag.copy ∧
      (State.adoptTime schemeMs s).tag.operation = s.tag.operation ∧
      (State.adoptTime schemeMs s).settle.active = s.settle.active ∧
      (State.adoptTime schemeMs s).settle.staging = s.settle.staging := by
  unfold State.adoptTime
  split <;> simp

@[simp] theorem State.takeFcl_frame (body : List Byte) (s : State) :
    (State.takeFcl body s).straps = s.straps ∧ (State.takeFcl body s).clock = s.clock ∧
      (State.takeFcl body s).peers = s.peers ∧ (State.takeFcl body s).time = s.time ∧
      (State.takeFcl body s).dock = s.dock ∧ (State.takeFcl body s).card = s.card ∧
      (State.takeFcl body s).view = s.view ∧ (State.takeFcl body s).hire = s.hire ∧
      (State.takeFcl body s).port = s.port ∧ (State.takeFcl body s).terminal = s.terminal ∧
      (State.takeFcl body s).pending = s.pending ∧ (State.takeFcl body s).line.serial = s.line.serial ∧
      (State.takeFcl body s).line.lastSender = s.line.lastSender ∧
      (State.takeFcl body s).line.quiet = s.line.quiet ∧ (State.takeFcl body s).line.stuck = s.line.stuck ∧
      (State.takeFcl body s).line.clash = s.line.clash ∧ (State.takeFcl body s).line.rx = s.line.rx ∧
      (State.takeFcl body s).tag.copy = s.tag.copy ∧ (State.takeFcl body s).van.window = s.van.window ∧
      (State.takeFcl body s).van.hold = s.van.hold ∧ (State.takeFcl body s).van.target = s.van.target ∧
      (State.takeFcl body s).settle.active = s.settle.active ∧
      (State.takeFcl body s).settle.staging = s.settle.staging ∧
      (State.takeFcl body s).fault.raised = s.fault.raised := by
  unfold State.takeFcl
  dsimp only
  (repeat' split) <;> first | (simp; done) | (rename_i heq; have h1 := congrArg Prod.fst heq; dsimp only at h1; subst h1; simp)

@[simp] theorem State.peerChange_frame (n : Nat) (fieldsChanged : Bool) (s : State) :
    (State.peerChange n fieldsChanged s).straps = s.straps ∧ (State.peerChange n fieldsChanged s).clock = s.clock ∧
      (State.peerChange n fieldsChanged s).time = s.time ∧ (State.peerChange n fieldsChanged s).dock = s.dock ∧
      (State.peerChange n fieldsChanged s).tag = s.tag ∧ (State.peerChange n fieldsChanged s).card = s.card ∧
      (State.peerChange n fieldsChanged s).view = s.view ∧ (State.peerChange n fieldsChanged s).hire = s.hire ∧
      (State.peerChange n fieldsChanged s).settle = s.settle ∧
      (State.peerChange n fieldsChanged s).terminal = s.terminal ∧
      (State.peerChange n fieldsChanged s).pending = s.pending ∧
      (State.peerChange n fieldsChanged s).line.serial = s.line.serial ∧
      (State.peerChange n fieldsChanged s).line.lastSender = s.line.lastSender ∧
      (State.peerChange n fieldsChanged s).line.quiet = s.line.quiet ∧
      (State.peerChange n fieldsChanged s).line.stuck = s.line.stuck ∧
      (State.peerChange n fieldsChanged s).line.clash = s.line.clash ∧
      (State.peerChange n fieldsChanged s).line.rx = s.line.rx ∧
      (State.peerChange n fieldsChanged s).van.window = s.van.window ∧
      (State.peerChange n fieldsChanged s).van.hold = s.van.hold ∧
      (State.peerChange n fieldsChanged s).van.target = s.van.target ∧
      (State.peerChange n fieldsChanged s).peers.adoptedId = s.peers.adoptedId ∧
      (State.peerChange n fieldsChanged s).peers.entries = s.peers.entries ∧
      (State.peerChange n fieldsChanged s).fault.raised = s.fault.raised := by
  unfold State.peerChange
  split <;> simp

@[simp] theorem State.offerStationId_frame (b : Beacon) (s : State) :
    (State.offerStationId b s).straps = s.straps ∧ (State.offerStationId b s).clock = s.clock ∧
      (State.offerStationId b s).time = s.time ∧ (State.offerStationId b s).dock = s.dock ∧
      (State.offerStationId b s).tag = s.tag ∧ (State.offerStationId b s).card = s.card ∧
      (State.offerStationId b s).view = s.view ∧ (State.offerStationId b s).hire = s.hire ∧
      (State.offerStationId b s).port = s.port ∧ (State.offerStationId b s).terminal = s.terminal ∧
      (State.offerStationId b s).pending = s.pending ∧ (State.offerStationId b s).line.serial = s.line.serial ∧
      (State.offerStationId b s).line.lastSender = s.line.lastSender ∧
      (State.offerStationId b s).line.quiet = s.line.quiet ∧ (State.offerStationId b s).line.stuck = s.line.stuck ∧
      (State.offerStationId b s).line.clash = s.line.clash ∧ (State.offerStationId b s).line.rx = s.line.rx ∧
      (State.offerStationId b s).van.window = s.van.window ∧ (State.offerStationId b s).van.hold = s.van.hold ∧
      (State.offerStationId b s).van.target = s.van.target ∧
      (State.offerStationId b s).settle.active = s.settle.active ∧
      (State.offerStationId b s).settle.staging = s.settle.staging ∧
      (State.offerStationId b s).peers.entries = s.peers.entries := by
  unfold State.offerStationId
  (repeat' split) <;> simp

@[simp] theorem State.takeTim_frame (body : List Byte) (s : State) :
    (State.takeTim body s).straps = s.straps ∧ (State.takeTim body s).clock = s.clock ∧
      (State.takeTim body s).line = s.line ∧ (State.takeTim body s).peers = s.peers ∧
      (State.takeTim body s).card = s.card ∧ (State.takeTim body s).view = s.view ∧
      (State.takeTim body s).hire = s.hire ∧ (State.takeTim body s).fault = s.fault ∧
      (State.takeTim body s).van = s.van ∧ (State.takeTim body s).port = s.port ∧
      (State.takeTim body s).terminal = s.terminal ∧ (State.takeTim body s).pending = s.pending ∧
      (State.takeTim body s).dock.bolt = s.dock.bolt ∧ (State.takeTim body s).dock.coil = s.dock.coil ∧
      (State.takeTim body s).dock.pullInEndAt = s.dock.pullInEndAt ∧
      (State.takeTim body s).dock.docked = s.dock.docked ∧ (State.takeTim body s).dock.count = s.dock.count ∧
      (State.takeTim body s).tag.copy = s.tag.copy ∧ (State.takeTim body s).tag.operation = s.tag.operation ∧
      (State.takeTim body s).settle.active = s.settle.active ∧
      (State.takeTim body s).settle.staging = s.settle.staging := by
  unfold State.takeTim
  split <;> simp

@[simp] theorem State.peerHears_frame (f : Frame) (s : State) :
    (State.peerHears f s).straps = s.straps ∧ (State.peerHears f s).clock = s.clock ∧
      (State.peerHears f s).time = s.time ∧ (State.peerHears f s).dock = s.dock ∧
      (State.peerHears f s).tag = s.tag ∧ (State.peerHears f s).card = s.card ∧
      (State.peerHears f s).view = s.view ∧ (State.peerHears f s).hire = s.hire ∧
      (State.peerHears f s).terminal = s.terminal ∧ (State.peerHears f s).pending = s.pending ∧
      (State.peerHears f s).line.serial = s.line.serial ∧
      (State.peerHears f s).line.lastSender = s.line.lastSender ∧ (State.peerHears f s).line.quiet = s.line.quiet ∧
      (State.peerHears f s).line.stuck = s.line.stuck ∧ (State.peerHears f s).line.clash = s.line.clash ∧
      (State.peerHears f s).line.rx = s.line.rx ∧ (State.peerHears f s).van.window = s.van.window ∧
      (State.peerHears f s).van.hold = s.van.hold ∧ (State.peerHears f s).van.target = s.van.target ∧
      (State.peerHears f s).settle.active = s.settle.active ∧
      (State.peerHears f s).settle.staging = s.settle.staging := by
  unfold State.peerHears
  dsimp only
  split <;> simp

@[simp] theorem State.handOn_frame (f : Frame) (s before : State) :
    (State.handOn f s before).straps = s.straps ∧ (State.handOn f s before).clock = s.clock ∧
      (State.handOn f s before).time = s.time ∧ (State.handOn f s before).dock = s.dock ∧
      (State.handOn f s before).tag = s.tag ∧ (State.handOn f s before).card = s.card ∧
      (State.handOn f s before).view = s.view ∧ (State.handOn f s before).hire = s.hire ∧
      (State.handOn f s before).terminal = s.terminal ∧ (State.handOn f s before).pending = s.pending ∧
      (State.handOn f s before).line.serial = s.line.serial ∧
      (State.handOn f s before).line.lastSender = s.line.lastSender ∧ (State.handOn f s before).line.quiet = s.line.quiet ∧
      (State.handOn f s before).line.stuck = s.line.stuck ∧ (State.handOn f s before).line.clash = s.line.clash ∧
      (State.handOn f s before).line.rx = s.line.rx ∧ (State.handOn f s before).van.window = s.van.window ∧
      (State.handOn f s before).van.hold = s.van.hold ∧ (State.handOn f s before).van.target = s.van.target ∧
      (State.handOn f s before).settle.active = s.settle.active ∧
      (State.handOn f s before).settle.staging = s.settle.staging := by
  unfold State.handOn
  split <;> simp

@[simp] theorem State.abandonForOwn_frame (t : Transmission) (s : State) :
    (State.abandonForOwn t s).straps = s.straps ∧ (State.abandonForOwn t s).clock = s.clock ∧
      (State.abandonForOwn t s).peers = s.peers ∧ (State.abandonForOwn t s).time = s.time ∧
      (State.abandonForOwn t s).dock = s.dock ∧ (State.abandonForOwn t s).tag = s.tag ∧
      (State.abandonForOwn t s).card = s.card ∧ (State.abandonForOwn t s).view = s.view ∧
      (State.abandonForOwn t s).hire = s.hire ∧ (State.abandonForOwn t s).settle = s.settle ∧
      (State.abandonForOwn t s).port = s.port ∧ (State.abandonForOwn t s).terminal = s.terminal ∧
      (State.abandonForOwn t s).pending = s.pending ∧ (State.abandonForOwn t s).line.serial = s.line.serial ∧
      (State.abandonForOwn t s).line.lastSender = s.line.lastSender ∧
      (State.abandonForOwn t s).line.quiet = s.line.quiet ∧ (State.abandonForOwn t s).line.stuck = s.line.stuck ∧
      (State.abandonForOwn t s).line.clash = s.line.clash ∧ (State.abandonForOwn t s).van.window = s.van.window ∧
      (State.abandonForOwn t s).van.hold = s.van.hold ∧ (State.abandonForOwn t s).van.target = s.van.target := by
  unfold State.abandonForOwn
  split <;> simp

@[simp] theorem State.abandonFrame_frame (s : State) :
    (State.abandonFrame s).straps = s.straps ∧ (State.abandonFrame s).clock = s.clock ∧
      (State.abandonFrame s).peers = s.peers ∧ (State.abandonFrame s).time = s.time ∧
      (State.abandonFrame s).dock = s.dock ∧ (State.abandonFrame s).tag = s.tag ∧
      (State.abandonFrame s).card = s.card ∧ (State.abandonFrame s).view = s.view ∧
      (State.abandonFrame s).hire = s.hire ∧ (State.abandonFrame s).settle = s.settle ∧
      (State.abandonFrame s).port = s.port ∧ (State.abandonFrame s).terminal = s.terminal ∧
      (State.abandonFrame s).pending = s.pending ∧ (State.abandonFrame s).line.serial = s.line.serial ∧
      (State.abandonFrame s).line.lastSender = s.line.lastSender ∧
      (State.abandonFrame s).line.quiet = s.line.quiet ∧ (State.abandonFrame s).line.stuck = s.line.stuck ∧
      (State.abandonFrame s).line.clash = s.line.clash ∧ (State.abandonFrame s).van.window = s.van.window ∧
      (State.abandonFrame s).van.hold = s.van.hold ∧ (State.abandonFrame s).van.target = s.van.target := by simp [State.abandonFrame]

@[simp] theorem State.vanTakes_frame (f : Frame) (s : State) :
    (State.vanTakes f s).straps = s.straps ∧ (State.vanTakes f s).clock = s.clock ∧
      (State.vanTakes f s).peers = s.peers ∧ (State.vanTakes f s).card = s.card ∧
      (State.vanTakes f s).view = s.view ∧ (State.vanTakes f s).hire = s.hire ∧
      (State.vanTakes f s).fault = s.fault ∧ (State.vanTakes f s).terminal = s.terminal ∧
      (State.vanTakes f s).pending = s.pending ∧ (State.vanTakes f s).line.serial = s.line.serial ∧
      (State.vanTakes f s).line.lastSender = s.line.lastSender ∧ (State.vanTakes f s).line.quiet = s.line.quiet ∧
      (State.vanTakes f s).line.stuck = s.line.stuck ∧ (State.vanTakes f s).line.clash = s.line.clash ∧
      (State.vanTakes f s).line.rx = s.line.rx ∧ (State.vanTakes f s).dock.bolt = s.dock.bolt ∧
      (State.vanTakes f s).dock.coil = s.dock.coil ∧ (State.vanTakes f s).dock.pullInEndAt = s.dock.pullInEndAt ∧
      (State.vanTakes f s).dock.docked = s.dock.docked ∧ (State.vanTakes f s).dock.count = s.dock.count ∧
      (State.vanTakes f s).tag.copy = s.tag.copy ∧ (State.vanTakes f s).tag.operation = s.tag.operation ∧
      (State.vanTakes f s).settle.active = s.settle.active ∧
      (State.vanTakes f s).settle.staging = s.settle.staging := by
  unfold State.vanTakes
  (repeat' split) <;> simp

@[simp] theorem State.monitorTakes_frame (f : Frame) (s : State) :
    (State.monitorTakes f s).straps = s.straps ∧ (State.monitorTakes f s).clock = s.clock ∧
      (State.monitorTakes f s).line = s.line ∧ (State.monitorTakes f s).peers = s.peers ∧
      (State.monitorTakes f s).card = s.card ∧ (State.monitorTakes f s).view = s.view ∧
      (State.monitorTakes f s).hire = s.hire ∧ (State.monitorTakes f s).fault = s.fault ∧
      (State.monitorTakes f s).van = s.van ∧ (State.monitorTakes f s).terminal = s.terminal ∧
      (State.monitorTakes f s).pending = s.pending ∧ (State.monitorTakes f s).dock.bolt = s.dock.bolt ∧
      (State.monitorTakes f s).dock.coil = s.dock.coil ∧
      (State.monitorTakes f s).dock.pullInEndAt = s.dock.pullInEndAt ∧
      (State.monitorTakes f s).dock.docked = s.dock.docked ∧ (State.monitorTakes f s).dock.count = s.dock.count ∧
      (State.monitorTakes f s).tag.copy = s.tag.copy ∧ (State.monitorTakes f s).tag.operation = s.tag.operation ∧
      (State.monitorTakes f s).settle.active = s.settle.active ∧
      (State.monitorTakes f s).settle.staging = s.settle.staging := by
  unfold State.monitorTakes
  split <;> simp

@[simp] theorem State.removeBusy_frame (e : TxEntry) (s : State) :
    (State.removeBusy e s).straps = s.straps ∧ (State.removeBusy e s).clock = s.clock ∧
      (State.removeBusy e s).peers = s.peers ∧ (State.removeBusy e s).time = s.time ∧
      (State.removeBusy e s).tag = s.tag ∧ (State.removeBusy e s).card = s.card ∧
      (State.removeBusy e s).view = s.view ∧ (State.removeBusy e s).settle = s.settle ∧
      (State.removeBusy e s).fault = s.fault ∧ (State.removeBusy e s).port = s.port ∧
      (State.removeBusy e s).terminal = s.terminal ∧ (State.removeBusy e s).pending = s.pending ∧
      (State.removeBusy e s).line.serial = s.line.serial ∧
      (State.removeBusy e s).line.lastSender = s.line.lastSender ∧
      (State.removeBusy e s).line.quiet = s.line.quiet ∧ (State.removeBusy e s).line.stuck = s.line.stuck ∧
      (State.removeBusy e s).line.clash = s.line.clash ∧ (State.removeBusy e s).line.rx = s.line.rx ∧
      (State.removeBusy e s).dock.bolt = s.dock.bolt ∧ (State.removeBusy e s).dock.coil = s.dock.coil ∧
      (State.removeBusy e s).dock.pullInEndAt = s.dock.pullInEndAt ∧
      (State.removeBusy e s).dock.docked = s.dock.docked ∧ (State.removeBusy e s).dock.count = s.dock.count ∧
      (State.removeBusy e s).hire.claims = s.hire.claims ∧ (State.removeBusy e s).van.window = s.van.window ∧
      (State.removeBusy e s).van.hold = s.van.hold ∧ (State.removeBusy e s).van.target = s.van.target := by simp [State.removeBusy]

@[simp] theorem State.takeMbr_frame (body : List Byte) (s : State) :
    (State.takeMbr body s).straps = s.straps ∧ (State.takeMbr body s).clock = s.clock ∧
      (State.takeMbr body s).peers = s.peers ∧ (State.takeMbr body s).time = s.time ∧
      (State.takeMbr body s).tag = s.tag ∧ (State.takeMbr body s).card = s.card ∧
      (State.takeMbr body s).settle = s.settle ∧ (State.takeMbr body s).fault = s.fault ∧
      (State.takeMbr body s).port = s.port ∧ (State.takeMbr body s).terminal = s.terminal ∧
      (State.takeMbr body s).pending = s.pending ∧ (State.takeMbr body s).line.serial = s.line.serial ∧
      (State.takeMbr body s).line.lastSender = s.line.lastSender ∧
      (State.takeMbr body s).line.quiet = s.line.quiet ∧ (State.takeMbr body s).line.stuck = s.line.stuck ∧
      (State.takeMbr body s).line.clash = s.line.clash ∧ (State.takeMbr body s).line.rx = s.line.rx ∧
      (State.takeMbr body s).dock.bolt = s.dock.bolt ∧ (State.takeMbr body s).dock.coil = s.dock.coil ∧
      (State.takeMbr body s).dock.pullInEndAt = s.dock.pullInEndAt ∧
      (State.takeMbr body s).dock.docked = s.dock.docked ∧ (State.takeMbr body s).dock.count = s.dock.count ∧
      (State.takeMbr body s).hire.claims = s.hire.claims ∧ (State.takeMbr body s).van.window = s.van.window ∧
      (State.takeMbr body s).van.hold = s.van.hold ∧ (State.takeMbr body s).van.target = s.van.target := by
  unfold State.takeMbr
  (repeat' split) <;> simp

@[simp] theorem State.endContended_frame (s : State) :
    (State.endContended s).straps = s.straps ∧ (State.endContended s).clock = s.clock ∧
      (State.endContended s).peers = s.peers ∧ (State.endContended s).time = s.time ∧
      (State.endContended s).tag = s.tag ∧ (State.endContended s).card = s.card ∧
      (State.endContended s).view = s.view ∧ (State.endContended s).settle = s.settle ∧
      (State.endContended s).fault = s.fault ∧ (State.endContended s).port = s.port ∧
      (State.endContended s).terminal = s.terminal ∧ (State.endContended s).pending = s.pending ∧
      (State.endContended s).line.serial = s.line.serial ∧
      (State.endContended s).line.lastSender = s.line.lastSender ∧
      (State.endContended s).line.quiet = s.line.quiet ∧ (State.endContended s).line.stuck = s.line.stuck ∧
      (State.endContended s).line.clash = s.line.clash ∧ (State.endContended s).line.rx = s.line.rx ∧
      (State.endContended s).dock.bolt = s.dock.bolt ∧ (State.endContended s).dock.coil = s.dock.coil ∧
      (State.endContended s).dock.pullInEndAt = s.dock.pullInEndAt ∧
      (State.endContended s).dock.docked = s.dock.docked ∧ (State.endContended s).dock.count = s.dock.count ∧
      (State.endContended s).hire.claims = s.hire.claims ∧ (State.endContended s).van.window = s.van.window ∧
      (State.endContended s).van.hold = s.van.hold ∧ (State.endContended s).van.target = s.van.target := by
  unfold State.endContended
  (repeat' split) <;> simp

@[simp] theorem State.clearClassZero_frame (s : State) :
    (State.clearClassZero s).straps = s.straps ∧ (State.clearClassZero s).clock = s.clock ∧
      (State.clearClassZero s).peers = s.peers ∧ (State.clearClassZero s).time = s.time ∧
      (State.clearClassZero s).tag = s.tag ∧ (State.clearClassZero s).card = s.card ∧
      (State.clearClassZero s).view = s.view ∧ (State.clearClassZero s).settle = s.settle ∧
      (State.clearClassZero s).fault = s.fault ∧ (State.clearClassZero s).port = s.port ∧
      (State.clearClassZero s).terminal = s.terminal ∧ (State.clearClassZero s).pending = s.pending ∧
      (State.clearClassZero s).line.serial = s.line.serial ∧
      (State.clearClassZero s).line.lastSender = s.line.lastSender ∧
      (State.clearClassZero s).line.quiet = s.line.quiet ∧ (State.clearClassZero s).line.stuck = s.line.stuck ∧
      (State.clearClassZero s).line.clash = s.line.clash ∧ (State.clearClassZero s).line.rx = s.line.rx ∧
      (State.clearClassZero s).dock.bolt = s.dock.bolt ∧ (State.clearClassZero s).dock.coil = s.dock.coil ∧
      (State.clearClassZero s).dock.pullInEndAt = s.dock.pullInEndAt ∧
      (State.clearClassZero s).dock.docked = s.dock.docked ∧ (State.clearClassZero s).dock.count = s.dock.count ∧
      (State.clearClassZero s).hire.claims = s.hire.claims ∧ (State.clearClassZero s).van.window = s.van.window ∧
      (State.clearClassZero s).van.hold = s.van.hold ∧ (State.clearClassZero s).van.target = s.van.target := by
  unfold State.clearClassZero
  refine ⟨foldl_keeps (fun t e => State.removeBusy e t) (fun t => t.straps) (fun b a => by simp) _ s, foldl_keeps (fun t e => State.removeBusy e t) (fun t => t.clock) (fun b a => by simp) _ s, foldl_keeps (fun t e => State.removeBusy e t) (fun t => t.peers) (fun b a => by simp) _ s, foldl_keeps (fun t e => State.removeBusy e t) (fun t => t.time) (fun b a => by simp) _ s, foldl_keeps (fun t e => State.removeBusy e t) (fun t => t.tag) (fun b a => by simp) _ s, foldl_keeps (fun t e => State.removeBusy e t) (fun t => t.card) (fun b a => by simp) _ s, foldl_keeps (fun t e => State.removeBusy e t) (fun t => t.view) (fun b a => by simp) _ s, foldl_keeps (fun t e => State.removeBusy e t) (fun t => t.settle) (fun b a => by simp) _ s, foldl_keeps (fun t e => State.removeBusy e t) (fun t => t.fault) (fun b a => by simp) _ s, foldl_keeps (fun t e => State.removeBusy e t) (fun t => t.port) (fun b a => by simp) _ s, foldl_keeps (fun t e => State.removeBusy e t) (fun t => t.terminal) (fun b a => by simp) _ s, foldl_keeps (fun t e => State.removeBusy e t) (fun t => t.pending) (fun b a => by simp) _ s, foldl_keeps (fun t e => State.removeBusy e t) (fun t => t.line.serial) (fun b a => by simp) _ s, foldl_keeps (fun t e => State.removeBusy e t) (fun t => t.line.lastSender) (fun b a => by simp) _ s, foldl_keeps (fun t e => State.removeBusy e t) (fun t => t.line.quiet) (fun b a => by simp) _ s, foldl_keeps (fun t e => State.removeBusy e t) (fun t => t.line.stuck) (fun b a => by simp) _ s, foldl_keeps (fun t e => State.removeBusy e t) (fun t => t.line.clash) (fun b a => by simp) _ s, foldl_keeps (fun t e => State.removeBusy e t) (fun t => t.line.rx) (fun b a => by simp) _ s, foldl_keeps (fun t e => State.removeBusy e t) (fun t => t.dock.bolt) (fun b a => by simp) _ s, foldl_keeps (fun t e => State.removeBusy e t) (fun t => t.dock.coil) (fun b a => by simp) _ s, foldl_keeps (fun t e => State.removeBusy e t) (fun t => t.dock.pullInEndAt) (fun b a => by simp) _ s, foldl_keeps (fun t e => State.removeBusy e t) (fun t => t.dock.docked) (fun b a => by simp) _ s, foldl_keeps (fun t e => State.removeBusy e t) (fun t => t.dock.count) (fun b a => by simp) _ s, foldl_keeps (fun t e => State.removeBusy e t) (fun t => t.hire.claims) (fun b a => by simp) _ s, foldl_keeps (fun t e => State.removeBusy e t) (fun t => t.van.window) (fun b a => by simp) _ s, foldl_keeps (fun t e => State.removeBusy e t) (fun t => t.van.hold) (fun b a => by simp) _ s, foldl_keeps (fun t e => State.removeBusy e t) (fun t => t.van.target) (fun b a => by simp) _ s⟩

@[simp] theorem State.postTakes_frame (f : Frame) (own : Option Nat) (s : State) :
    (State.postTakes f own s).straps = s.straps ∧ (State.postTakes f own s).clock = s.clock ∧
      (State.postTakes f own s).peers = s.peers ∧ (State.postTakes f own s).card = s.card ∧
      (State.postTakes f own s).terminal = s.terminal ∧ (State.postTakes f own s).pending = s.pending ∧
      (State.postTakes f own s).line.serial = s.line.serial ∧
      (State.postTakes f own s).line.lastSender = s.line.lastSender ∧
      (State.postTakes f own s).line.quiet = s.line.quiet ∧ (State.postTakes f own s).line.stuck = s.line.stuck ∧
      (State.postTakes f own s).line.clash = s.line.clash ∧ (State.postTakes f own s).line.rx = s.line.rx ∧
      (State.postTakes f own s).dock.bolt = s.dock.bolt ∧ (State.postTakes f own s).dock.coil = s.dock.coil ∧
      (State.postTakes f own s).dock.pullInEndAt = s.dock.pullInEndAt ∧
      (State.postTakes f own s).dock.docked = s.dock.docked ∧ (State.postTakes f own s).dock.count = s.dock.count ∧
      (State.postTakes f own s).tag.copy = s.tag.copy ∧ (State.postTakes f own s).fault.raised = s.fault.raised := by
  unfold State.postTakes
  (repeat' split) <;> simp

@[simp] theorem State.setClash_frame (s : State) :
    (State.setClash s).straps = s.straps ∧ (State.setClash s).clock = s.clock ∧
      (State.setClash s).peers = s.peers ∧ (State.setClash s).time = s.time ∧ (State.setClash s).tag = s.tag ∧
      (State.setClash s).card = s.card ∧ (State.setClash s).view = s.view ∧ (State.setClash s).settle = s.settle ∧
      (State.setClash s).port = s.port ∧ (State.setClash s).terminal = s.terminal ∧
      (State.setClash s).pending = s.pending ∧ (State.setClash s).line.serial = s.line.serial ∧
      (State.setClash s).line.lastSender = s.line.lastSender ∧ (State.setClash s).line.quiet = s.line.quiet ∧
      (State.setClash s).line.stuck = s.line.stuck ∧ (State.setClash s).line.rx = s.line.rx ∧
      (State.setClash s).dock.bolt = s.dock.bolt ∧ (State.setClash s).dock.coil = s.dock.coil ∧
      (State.setClash s).dock.pullInEndAt = s.dock.pullInEndAt ∧ (State.setClash s).dock.docked = s.dock.docked ∧
      (State.setClash s).dock.count = s.dock.count ∧ (State.setClash s).hire.claims = s.hire.claims ∧
      (State.setClash s).van.window = s.van.window ∧ (State.setClash s).van.hold = s.van.hold ∧
      (State.setClash s).van.target = s.van.target := by simp [State.setClash]

@[simp] theorem State.blocksTake_frame (f : Frame) (own : Option Nat) (s : State) :
    (State.blocksTake f own s).straps = s.straps ∧ (State.blocksTake f own s).clock = s.clock ∧
      (State.blocksTake f own s).peers = s.peers ∧ (State.blocksTake f own s).card = s.card ∧
      (State.blocksTake f own s).terminal = s.terminal ∧ (State.blocksTake f own s).pending = s.pending ∧
      (State.blocksTake f own s).line.serial = s.line.serial ∧
      (State.blocksTake f own s).line.lastSender = s.line.lastSender ∧
      (State.blocksTake f own s).line.quiet = s.line.quiet ∧ (State.blocksTake f own s).line.stuck = s.line.stuck ∧
      (State.blocksTake f own s).line.clash = s.line.clash ∧ (State.blocksTake f own s).line.rx = s.line.rx ∧
      (State.blocksTake f own s).dock.bolt = s.dock.bolt ∧ (State.blocksTake f own s).dock.coil = s.dock.coil ∧
      (State.blocksTake f own s).dock.pullInEndAt = s.dock.pullInEndAt ∧
      (State.blocksTake f own s).dock.docked = s.dock.docked ∧
      (State.blocksTake f own s).dock.count = s.dock.count ∧ (State.blocksTake f own s).tag.copy = s.tag.copy ∧
      (State.blocksTake f own s).fault.raised = s.fault.raised := by
  unfold State.blocksTake
  split <;> simp

@[simp] theorem State.takeFromPeer_frame (f : Frame) (s : State) :
    (State.takeFromPeer f s).straps = s.straps ∧ (State.takeFromPeer f s).clock = s.clock ∧
      (State.takeFromPeer f s).card = s.card ∧ (State.takeFromPeer f s).terminal = s.terminal ∧
      (State.takeFromPeer f s).pending = s.pending ∧ (State.takeFromPeer f s).line.serial = s.line.serial ∧
      (State.takeFromPeer f s).line.quiet = s.line.quiet ∧ (State.takeFromPeer f s).line.stuck = s.line.stuck ∧
      (State.takeFromPeer f s).line.rx = s.line.rx ∧ (State.takeFromPeer f s).dock.bolt = s.dock.bolt ∧
      (State.takeFromPeer f s).dock.coil = s.dock.coil ∧ (State.takeFromPeer f s).dock.pullInEndAt = s.dock.pullInEndAt ∧
      (State.takeFromPeer f s).dock.docked = s.dock.docked ∧ (State.takeFromPeer f s).dock.count = s.dock.count ∧
      (State.takeFromPeer f s).tag.copy = s.tag.copy := by
  unfold State.takeFromPeer
  dsimp only
  split <;> simp

@[simp] theorem State.takeFrame_frame (f : Frame) (s : State) :
    (State.takeFrame f s).straps = s.straps ∧ (State.takeFrame f s).clock = s.clock ∧
      (State.takeFrame f s).card = s.card ∧ (State.takeFrame f s).terminal = s.terminal ∧
      (State.takeFrame f s).pending = s.pending ∧ (State.takeFrame f s).line.serial = s.line.serial ∧
      (State.takeFrame f s).line.quiet = s.line.quiet ∧ (State.takeFrame f s).line.stuck = s.line.stuck ∧
      (State.takeFrame f s).line.rx = s.line.rx ∧ (State.takeFrame f s).dock.bolt = s.dock.bolt ∧
      (State.takeFrame f s).dock.coil = s.dock.coil ∧ (State.takeFrame f s).dock.pullInEndAt = s.dock.pullInEndAt ∧
      (State.takeFrame f s).dock.docked = s.dock.docked ∧ (State.takeFrame f s).dock.count = s.dock.count ∧
      (State.takeFrame f s).tag.copy = s.tag.copy := by
  unfold State.takeFrame
  split <;> simp

@[simp] theorem State.frameEnds_frame (bytes : List Byte) (s : State) :
    (State.frameEnds bytes s).straps = s.straps ∧ (State.frameEnds bytes s).clock = s.clock ∧
      (State.frameEnds bytes s).card = s.card ∧ (State.frameEnds bytes s).terminal = s.terminal ∧
      (State.frameEnds bytes s).pending = s.pending ∧ (State.frameEnds bytes s).line.serial = s.line.serial ∧
      (State.frameEnds bytes s).line.quiet = s.line.quiet ∧ (State.frameEnds bytes s).line.stuck = s.line.stuck ∧
      (State.frameEnds bytes s).dock.bolt = s.dock.bolt ∧ (State.frameEnds bytes s).dock.coil = s.dock.coil ∧
      (State.frameEnds bytes s).dock.pullInEndAt = s.dock.pullInEndAt ∧
      (State.frameEnds bytes s).dock.docked = s.dock.docked ∧ (State.frameEnds bytes s).dock.count = s.dock.count ∧
      (State.frameEnds bytes s).tag.copy = s.tag.copy := by
  unfold State.frameEnds
  split <;> simp

@[simp] theorem State.extendFrame_frame (bytes : List Byte) (s : State) :
    (State.extendFrame bytes s).straps = s.straps ∧ (State.extendFrame bytes s).clock = s.clock ∧
      (State.extendFrame bytes s).card = s.card ∧ (State.extendFrame bytes s).terminal = s.terminal ∧
      (State.extendFrame bytes s).pending = s.pending ∧ (State.extendFrame bytes s).line.serial = s.line.serial ∧
      (State.extendFrame bytes s).line.quiet = s.line.quiet ∧
      (State.extendFrame bytes s).line.stuck = s.line.stuck ∧ (State.extendFrame bytes s).dock.bolt = s.dock.bolt ∧
      (State.extendFrame bytes s).dock.coil = s.dock.coil ∧
      (State.extendFrame bytes s).dock.pullInEndAt = s.dock.pullInEndAt ∧
      (State.extendFrame bytes s).dock.docked = s.dock.docked ∧
      (State.extendFrame bytes s).dock.count = s.dock.count ∧ (State.extendFrame bytes s).tag.copy = s.tag.copy := by
  unfold State.extendFrame
  (repeat' split) <;> simp

@[simp] theorem State.receiveChar_frame (c : LineChar) (s : State) :
    (State.receiveChar c s).straps = s.straps ∧ (State.receiveChar c s).clock = s.clock ∧
      (State.receiveChar c s).card = s.card ∧ (State.receiveChar c s).terminal = s.terminal ∧
      (State.receiveChar c s).pending = s.pending ∧ (State.receiveChar c s).line.serial = s.line.serial ∧
      (State.receiveChar c s).line.quiet = s.line.quiet ∧ (State.receiveChar c s).line.stuck = s.line.stuck ∧
      (State.receiveChar c s).dock.bolt = s.dock.bolt ∧ (State.receiveChar c s).dock.coil = s.dock.coil ∧
      (State.receiveChar c s).dock.pullInEndAt = s.dock.pullInEndAt ∧
      (State.receiveChar c s).dock.docked = s.dock.docked ∧ (State.receiveChar c s).dock.count = s.dock.count ∧
      (State.receiveChar c s).tag.copy = s.tag.copy := by
  unfold State.receiveChar
  split <;> simp

@[simp] theorem State.lineReceives_frame (c : LineChar) (s : State) :
    (State.lineReceives c s).straps = s.straps ∧ (State.lineReceives c s).card = s.card ∧
      (State.lineReceives c s).terminal = s.terminal ∧ (State.lineReceives c s).pending = s.pending ∧
      (State.lineReceives c s).line.serial = s.line.serial ∧ (State.lineReceives c s).line.stuck = s.line.stuck ∧
      (State.lineReceives c s).dock.bolt = s.dock.bolt ∧ (State.lineReceives c s).dock.coil = s.dock.coil ∧
      (State.lineReceives c s).dock.pullInEndAt = s.dock.pullInEndAt ∧
      (State.lineReceives c s).dock.docked = s.dock.docked ∧ (State.lineReceives c s).dock.count = s.dock.count ∧
      (State.lineReceives c s).tag.copy = s.tag.copy := by
  unfold State.lineReceives
  (repeat' split) <;> simp

end Sys2Proof.Machine
end

