-- ==== Sys2Proof/Laws/PortFrames.lean ====
section
/-! SUPPORT. Frames: what each operation of the local port (Machine/PortOps.lean) leaves as it was. -/

namespace Sys2Proof.Machine

@[simp] theorem State.respondCarrying_frame (status : PortStatus) (body : List Byte) (carried : Carried) (s : State) :
    (State.respondCarrying status body carried s).straps = s.straps ∧
      (State.respondCarrying status body carried s).clock = s.clock ∧
      (State.respondCarrying status body carried s).line = s.line ∧
      (State.respondCarrying status body carried s).peers = s.peers ∧
      (State.respondCarrying status body carried s).time = s.time ∧
      (State.respondCarrying status body carried s).dock = s.dock ∧
      (State.respondCarrying status body carried s).tag = s.tag ∧
      (State.respondCarrying status body carried s).card = s.card ∧
      (State.respondCarrying status body carried s).view = s.view ∧
      (State.respondCarrying status body carried s).hire = s.hire ∧
      (State.respondCarrying status body carried s).settle = s.settle ∧
      (State.respondCarrying status body carried s).fault = s.fault ∧
      (State.respondCarrying status body carried s).van = s.van ∧
      (State.respondCarrying status body carried s).terminal = s.terminal ∧
      (State.respondCarrying status body carried s).pending = s.pending ∧
      (State.respondCarrying status body carried s).port.events = s.port.events := by simp [State.respondCarrying]

@[simp] theorem State.shiftFiller_frame (count : Nat) (s : State) :
    (State.shiftFiller count s).straps = s.straps ∧ (State.shiftFiller count s).clock = s.clock ∧
      (State.shiftFiller count s).line = s.line ∧ (State.shiftFiller count s).peers = s.peers ∧
      (State.shiftFiller count s).time = s.time ∧ (State.shiftFiller count s).dock = s.dock ∧
      (State.shiftFiller count s).tag = s.tag ∧ (State.shiftFiller count s).card = s.card ∧
      (State.shiftFiller count s).view = s.view ∧ (State.shiftFiller count s).hire = s.hire ∧
      (State.shiftFiller count s).settle = s.settle ∧ (State.shiftFiller count s).fault = s.fault ∧
      (State.shiftFiller count s).van = s.van ∧ (State.shiftFiller count s).terminal = s.terminal ∧
      (State.shiftFiller count s).pending = s.pending ∧ (State.shiftFiller count s).port.events = s.port.events := by simp [State.shiftFiller]

@[simp] theorem State.readsResponse_frame (count : Nat) (s : State) :
    (State.readsResponse count s).straps = s.straps ∧ (State.readsResponse count s).clock = s.clock ∧
      (State.readsResponse count s).line = s.line ∧ (State.readsResponse count s).peers = s.peers ∧
      (State.readsResponse count s).time = s.time ∧ (State.readsResponse count s).dock = s.dock ∧
      (State.readsResponse count s).tag = s.tag ∧ (State.readsResponse count s).card = s.card ∧
      (State.readsResponse count s).view = s.view ∧ (State.readsResponse count s).hire = s.hire ∧
      (State.readsResponse count s).settle = s.settle ∧ (State.readsResponse count s).fault = s.fault ∧
      (State.readsResponse count s).van = s.van ∧ (State.readsResponse count s).terminal = s.terminal ∧
      (State.readsResponse count s).pending = s.pending := by
  unfold State.readsResponse
  (repeat' split) <;> simp

@[simp] theorem State.respond_frame (status : PortStatus) (s : State) :
    (State.respond status s).straps = s.straps ∧ (State.respond status s).clock = s.clock ∧
      (State.respond status s).line = s.line ∧ (State.respond status s).peers = s.peers ∧
      (State.respond status s).time = s.time ∧ (State.respond status s).dock = s.dock ∧
      (State.respond status s).tag = s.tag ∧ (State.respond status s).card = s.card ∧
      (State.respond status s).view = s.view ∧ (State.respond status s).hire = s.hire ∧
      (State.respond status s).settle = s.settle ∧ (State.respond status s).fault = s.fault ∧
      (State.respond status s).van = s.van ∧ (State.respond status s).terminal = s.terminal ∧
      (State.respond status s).pending = s.pending ∧ (State.respond status s).port.events = s.port.events := by simp [State.respond]

@[simp] theorem State.respondOffer_frame (kind : Kind) (body : List Byte) (s : State) :
    (State.respondOffer kind body s).straps = s.straps ∧ (State.respondOffer kind body s).clock = s.clock ∧
      (State.respondOffer kind body s).peers = s.peers ∧ (State.respondOffer kind body s).time = s.time ∧
      (State.respondOffer kind body s).dock = s.dock ∧ (State.respondOffer kind body s).tag = s.tag ∧
      (State.respondOffer kind body s).card = s.card ∧ (State.respondOffer kind body s).view = s.view ∧
      (State.respondOffer kind body s).hire = s.hire ∧ (State.respondOffer kind body s).settle = s.settle ∧
      (State.respondOffer kind body s).fault = s.fault ∧ (State.respondOffer kind body s).van = s.van ∧
      (State.respondOffer kind body s).terminal = s.terminal ∧
      (State.respondOffer kind body s).pending = s.pending ∧
      (State.respondOffer kind body s).line.serial = s.line.serial ∧
      (State.respondOffer kind body s).line.lastSender = s.line.lastSender ∧
      (State.respondOffer kind body s).line.quiet = s.line.quiet ∧
      (State.respondOffer kind body s).line.stuck = s.line.stuck ∧
      (State.respondOffer kind body s).line.clash = s.line.clash ∧
      (State.respondOffer kind body s).line.rx = s.line.rx ∧
      (State.respondOffer kind body s).port.events = s.port.events := by
  unfold State.respondOffer
  split <;>
    (rename_i heq; have h1 := congrArg Prod.fst heq; dsimp only at h1; subst h1; simp)

@[simp] theorem State.requestStatus_frame (body : List Byte) (s : State) :
    (State.requestStatus body s).straps = s.straps ∧ (State.requestStatus body s).clock = s.clock ∧
      (State.requestStatus body s).line = s.line ∧ (State.requestStatus body s).peers = s.peers ∧
      (State.requestStatus body s).time = s.time ∧ (State.requestStatus body s).dock = s.dock ∧
      (State.requestStatus body s).tag = s.tag ∧ (State.requestStatus body s).card = s.card ∧
      (State.requestStatus body s).view = s.view ∧ (State.requestStatus body s).hire = s.hire ∧
      (State.requestStatus body s).settle = s.settle ∧ (State.requestStatus body s).fault = s.fault ∧
      (State.requestStatus body s).van = s.van ∧ (State.requestStatus body s).terminal = s.terminal ∧
      (State.requestStatus body s).pending = s.pending ∧ (State.requestStatus body s).port.events = s.port.events := by
  unfold State.requestStatus
  split <;> simp

@[simp] theorem State.requestPeerRead_frame (body : List Byte) (s : State) :
    (State.requestPeerRead body s).straps = s.straps ∧ (State.requestPeerRead body s).clock = s.clock ∧
      (State.requestPeerRead body s).line = s.line ∧ (State.requestPeerRead body s).peers = s.peers ∧
      (State.requestPeerRead body s).time = s.time ∧ (State.requestPeerRead body s).dock = s.dock ∧
      (State.requestPeerRead body s).tag = s.tag ∧ (State.requestPeerRead body s).card = s.card ∧
      (State.requestPeerRead body s).view = s.view ∧ (State.requestPeerRead body s).hire = s.hire ∧
      (State.requestPeerRead body s).settle = s.settle ∧ (State.requestPeerRead body s).fault = s.fault ∧
      (State.requestPeerRead body s).van = s.van ∧ (State.requestPeerRead body s).terminal = s.terminal ∧
      (State.requestPeerRead body s).pending = s.pending ∧
      (State.requestPeerRead body s).port.events = s.port.events := by
  unfold State.requestPeerRead
  split <;> simp

@[simp] theorem State.requestEventRead_frame (body : List Byte) (s : State) :
    (State.requestEventRead body s).straps = s.straps ∧ (State.requestEventRead body s).clock = s.clock ∧
      (State.requestEventRead body s).line = s.line ∧ (State.requestEventRead body s).peers = s.peers ∧
      (State.requestEventRead body s).time = s.time ∧ (State.requestEventRead body s).dock = s.dock ∧
      (State.requestEventRead body s).tag = s.tag ∧ (State.requestEventRead body s).card = s.card ∧
      (State.requestEventRead body s).view = s.view ∧ (State.requestEventRead body s).hire = s.hire ∧
      (State.requestEventRead body s).settle = s.settle ∧ (State.requestEventRead body s).fault = s.fault ∧
      (State.requestEventRead body s).van = s.van ∧ (State.requestEventRead body s).terminal = s.terminal ∧
      (State.requestEventRead body s).pending = s.pending ∧
      (State.requestEventRead body s).port.events = s.port.events := by
  unfold State.requestEventRead
  (repeat' split) <;> simp

@[simp] theorem State.requestStationSet_frame (body : List Byte) (s : State) :
    (State.requestStationSet body s).straps = s.straps ∧ (State.requestStationSet body s).clock = s.clock ∧
      (State.requestStationSet body s).line = s.line ∧ (State.requestStationSet body s).peers = s.peers ∧
      (State.requestStationSet body s).time = s.time ∧ (State.requestStationSet body s).dock = s.dock ∧
      (State.requestStationSet body s).tag = s.tag ∧ (State.requestStationSet body s).card = s.card ∧
      (State.requestStationSet body s).view = s.view ∧ (State.requestStationSet body s).hire = s.hire ∧
      (State.requestStationSet body s).settle = s.settle ∧ (State.requestStationSet body s).fault = s.fault ∧
      (State.requestStationSet body s).van = s.van ∧ (State.requestStationSet body s).pending = s.pending ∧
      (State.requestStationSet body s).port.events = s.port.events := by
  unfold State.requestStationSet
  (repeat' split) <;> simp

@[simp] theorem State.requestTariffCommit_frame (body : List Byte) (s : State) :
    (State.requestTariffCommit body s).straps = s.straps ∧ (State.requestTariffCommit body s).clock = s.clock ∧
      (State.requestTariffCommit body s).line = s.line ∧ (State.requestTariffCommit body s).peers = s.peers ∧
      (State.requestTariffCommit body s).time = s.time ∧ (State.requestTariffCommit body s).dock = s.dock ∧
      (State.requestTariffCommit body s).tag = s.tag ∧ (State.requestTariffCommit body s).card = s.card ∧
      (State.requestTariffCommit body s).view = s.view ∧ (State.requestTariffCommit body s).hire = s.hire ∧
      (State.requestTariffCommit body s).settle = s.settle ∧ (State.requestTariffCommit body s).fault = s.fault ∧
      (State.requestTariffCommit body s).van = s.van ∧ (State.requestTariffCommit body s).pending = s.pending ∧
      (State.requestTariffCommit body s).port.events = s.port.events ∧
      (State.requestTariffCommit body s).terminal.stationId = s.terminal.stationId := by
  unfold State.requestTariffCommit
  (repeat' split) <;> simp

@[simp] theorem State.timTimerExpires_frame (due : Ms) (s : State) :
    (State.timTimerExpires due s).straps = s.straps ∧ (State.timTimerExpires due s).clock = s.clock ∧
      (State.timTimerExpires due s).peers = s.peers ∧ (State.timTimerExpires due s).time = s.time ∧
      (State.timTimerExpires due s).dock = s.dock ∧ (State.timTimerExpires due s).tag = s.tag ∧
      (State.timTimerExpires due s).card = s.card ∧ (State.timTimerExpires due s).view = s.view ∧
      (State.timTimerExpires due s).hire = s.hire ∧ (State.timTimerExpires due s).settle = s.settle ∧
      (State.timTimerExpires due s).fault = s.fault ∧ (State.timTimerExpires due s).van = s.van ∧
      (State.timTimerExpires due s).port = s.port ∧ (State.timTimerExpires due s).pending = s.pending ∧
      (State.timTimerExpires due s).line.serial = s.line.serial ∧
      (State.timTimerExpires due s).line.lastSender = s.line.lastSender ∧
      (State.timTimerExpires due s).line.quiet = s.line.quiet ∧
      (State.timTimerExpires due s).line.stuck = s.line.stuck ∧
      (State.timTimerExpires due s).line.clash = s.line.clash ∧ (State.timTimerExpires due s).line.rx = s.line.rx ∧
      (State.timTimerExpires due s).terminal.stationId = s.terminal.stationId := by
  unfold State.timTimerExpires
  dsimp only
  (repeat' split) <;> first | (simp; done) | (rename_i heq; have h1 := congrArg Prod.fst heq; dsimp only at h1; subst h1; simp)

@[simp] theorem State.requestTariffLoad_frame (body : List Byte) (s : State) :
    (State.requestTariffLoad body s).straps = s.straps ∧ (State.requestTariffLoad body s).clock = s.clock ∧
      (State.requestTariffLoad body s).peers = s.peers ∧ (State.requestTariffLoad body s).time = s.time ∧
      (State.requestTariffLoad body s).dock = s.dock ∧ (State.requestTariffLoad body s).tag = s.tag ∧
      (State.requestTariffLoad body s).card = s.card ∧ (State.requestTariffLoad body s).view = s.view ∧
      (State.requestTariffLoad body s).hire = s.hire ∧ (State.requestTariffLoad body s).settle = s.settle ∧
      (State.requestTariffLoad body s).fault = s.fault ∧ (State.requestTariffLoad body s).van = s.van ∧
      (State.requestTariffLoad body s).pending = s.pending ∧
      (State.requestTariffLoad body s).line.serial = s.line.serial ∧
      (State.requestTariffLoad body s).line.lastSender = s.line.lastSender ∧
      (State.requestTariffLoad body s).line.quiet = s.line.quiet ∧
      (State.requestTariffLoad body s).line.stuck = s.line.stuck ∧
      (State.requestTariffLoad body s).line.clash = s.line.clash ∧
      (State.requestTariffLoad body s).line.rx = s.line.rx ∧
      (State.requestTariffLoad body s).port.events = s.port.events ∧
      (State.requestTariffLoad body s).terminal.stationId = s.terminal.stationId := by
  unfold State.requestTariffLoad
  (repeat' split) <;> simp

@[simp] theorem State.trfCycleExpires_frame (due : Ms) (s : State) :
    (State.trfCycleExpires due s).straps = s.straps ∧ (State.trfCycleExpires due s).clock = s.clock ∧
      (State.trfCycleExpires due s).peers = s.peers ∧ (State.trfCycleExpires due s).time = s.time ∧
      (State.trfCycleExpires due s).dock = s.dock ∧ (State.trfCycleExpires due s).tag = s.tag ∧
      (State.trfCycleExpires due s).card = s.card ∧ (State.trfCycleExpires due s).view = s.view ∧
      (State.trfCycleExpires due s).hire = s.hire ∧ (State.trfCycleExpires due s).settle = s.settle ∧
      (State.trfCycleExpires due s).fault = s.fault ∧ (State.trfCycleExpires due s).van = s.van ∧
      (State.trfCycleExpires due s).port = s.port ∧ (State.trfCycleExpires due s).pending = s.pending ∧
      (State.trfCycleExpires due s).line.serial = s.line.serial ∧
      (State.trfCycleExpires due s).line.lastSender = s.line.lastSender ∧
      (State.trfCycleExpires due s).line.quiet = s.line.quiet ∧
      (State.trfCycleExpires due s).line.stuck = s.line.stuck ∧
      (State.trfCycleExpires due s).line.clash = s.line.clash ∧ (State.trfCycleExpires due s).line.rx = s.line.rx ∧
      (State.trfCycleExpires due s).terminal.stationId = s.terminal.stationId := by
  unfold State.trfCycleExpires
  dsimp only
  (repeat' split) <;> first | (simp; done) | (rename_i heq; have h1 := congrArg Prod.fst heq; dsimp only at h1; subst h1; simp)

@[simp] theorem State.requestMemberPush_frame (body : List Byte) (s : State) :
    (State.requestMemberPush body s).straps = s.straps ∧ (State.requestMemberPush body s).clock = s.clock ∧
      (State.requestMemberPush body s).peers = s.peers ∧ (State.requestMemberPush body s).time = s.time ∧
      (State.requestMemberPush body s).dock = s.dock ∧ (State.requestMemberPush body s).tag = s.tag ∧
      (State.requestMemberPush body s).card = s.card ∧ (State.requestMemberPush body s).hire = s.hire ∧
      (State.requestMemberPush body s).settle = s.settle ∧ (State.requestMemberPush body s).fault = s.fault ∧
      (State.requestMemberPush body s).van = s.van ∧ (State.requestMemberPush body s).terminal = s.terminal ∧
      (State.requestMemberPush body s).pending = s.pending ∧
      (State.requestMemberPush body s).line.serial = s.line.serial ∧
      (State.requestMemberPush body s).line.lastSender = s.line.lastSender ∧
      (State.requestMemberPush body s).line.quiet = s.line.quiet ∧
      (State.requestMemberPush body s).line.stuck = s.line.stuck ∧
      (State.requestMemberPush body s).line.clash = s.line.clash ∧
      (State.requestMemberPush body s).line.rx = s.line.rx ∧
      (State.requestMemberPush body s).port.events = s.port.events := by
  unfold State.requestMemberPush
  split <;> simp

@[simp] theorem State.requestFaultClear_frame (body : List Byte) (s : State) :
    (State.requestFaultClear body s).straps = s.straps ∧ (State.requestFaultClear body s).clock = s.clock ∧
      (State.requestFaultClear body s).peers = s.peers ∧ (State.requestFaultClear body s).time = s.time ∧
      (State.requestFaultClear body s).dock = s.dock ∧ (State.requestFaultClear body s).tag = s.tag ∧
      (State.requestFaultClear body s).card = s.card ∧ (State.requestFaultClear body s).view = s.view ∧
      (State.requestFaultClear body s).hire = s.hire ∧ (State.requestFaultClear body s).settle = s.settle ∧
      (State.requestFaultClear body s).fault = s.fault ∧ (State.requestFaultClear body s).van = s.van ∧
      (State.requestFaultClear body s).terminal = s.terminal ∧
      (State.requestFaultClear body s).pending = s.pending ∧
      (State.requestFaultClear body s).line.serial = s.line.serial ∧
      (State.requestFaultClear body s).line.lastSender = s.line.lastSender ∧
      (State.requestFaultClear body s).line.quiet = s.line.quiet ∧
      (State.requestFaultClear body s).line.stuck = s.line.stuck ∧
      (State.requestFaultClear body s).line.clash = s.line.clash ∧
      (State.requestFaultClear body s).line.rx = s.line.rx ∧
      (State.requestFaultClear body s).port.events = s.port.events := by
  unfold State.requestFaultClear
  split <;> simp

@[simp] theorem State.requestVanOpen_frame (body : List Byte) (s : State) :
    (State.requestVanOpen body s).straps = s.straps ∧ (State.requestVanOpen body s).clock = s.clock ∧
      (State.requestVanOpen body s).peers = s.peers ∧ (State.requestVanOpen body s).time = s.time ∧
      (State.requestVanOpen body s).dock = s.dock ∧ (State.requestVanOpen body s).tag = s.tag ∧
      (State.requestVanOpen body s).card = s.card ∧ (State.requestVanOpen body s).view = s.view ∧
      (State.requestVanOpen body s).hire = s.hire ∧ (State.requestVanOpen body s).settle = s.settle ∧
      (State.requestVanOpen body s).fault = s.fault ∧ (State.requestVanOpen body s).van = s.van ∧
      (State.requestVanOpen body s).terminal = s.terminal ∧ (State.requestVanOpen body s).pending = s.pending ∧
      (State.requestVanOpen body s).line.serial = s.line.serial ∧
      (State.requestVanOpen body s).line.lastSender = s.line.lastSender ∧
      (State.requestVanOpen body s).line.quiet = s.line.quiet ∧
      (State.requestVanOpen body s).line.stuck = s.line.stuck ∧
      (State.requestVanOpen body s).line.clash = s.line.clash ∧ (State.requestVanOpen body s).line.rx = s.line.rx ∧
      (State.requestVanOpen body s).port.events = s.port.events := by
  unfold State.requestVanOpen
  (repeat' split) <;> simp

@[simp] theorem State.requestVanClose_frame (body : List Byte) (s : State) :
    (State.requestVanClose body s).straps = s.straps ∧ (State.requestVanClose body s).clock = s.clock ∧
      (State.requestVanClose body s).peers = s.peers ∧ (State.requestVanClose body s).time = s.time ∧
      (State.requestVanClose body s).dock = s.dock ∧ (State.requestVanClose body s).tag = s.tag ∧
      (State.requestVanClose body s).card = s.card ∧ (State.requestVanClose body s).view = s.view ∧
      (State.requestVanClose body s).hire = s.hire ∧ (State.requestVanClose body s).settle = s.settle ∧
      (State.requestVanClose body s).fault = s.fault ∧ (State.requestVanClose body s).van = s.van ∧
      (State.requestVanClose body s).terminal = s.terminal ∧ (State.requestVanClose body s).pending = s.pending ∧
      (State.requestVanClose body s).line.serial = s.line.serial ∧
      (State.requestVanClose body s).line.lastSender = s.line.lastSender ∧
      (State.requestVanClose body s).line.quiet = s.line.quiet ∧
      (State.requestVanClose body s).line.stuck = s.line.stuck ∧
      (State.requestVanClose body s).line.clash = s.line.clash ∧
      (State.requestVanClose body s).line.rx = s.line.rx ∧
      (State.requestVanClose body s).port.events = s.port.events := by
  unfold State.requestVanClose
  (repeat' split) <;> simp

@[simp] theorem State.requestTimeSet_frame (body : List Byte) (s : State) :
    (State.requestTimeSet body s).straps = s.straps ∧ (State.requestTimeSet body s).clock = s.clock ∧
      (State.requestTimeSet body s).peers = s.peers ∧ (State.requestTimeSet body s).card = s.card ∧
      (State.requestTimeSet body s).view = s.view ∧ (State.requestTimeSet body s).hire = s.hire ∧
      (State.requestTimeSet body s).fault = s.fault ∧ (State.requestTimeSet body s).van = s.van ∧
      (State.requestTimeSet body s).pending = s.pending ∧
      (State.requestTimeSet body s).line.serial = s.line.serial ∧
      (State.requestTimeSet body s).line.lastSender = s.line.lastSender ∧
      (State.requestTimeSet body s).line.quiet = s.line.quiet ∧
      (State.requestTimeSet body s).line.stuck = s.line.stuck ∧
      (State.requestTimeSet body s).line.clash = s.line.clash ∧ (State.requestTimeSet body s).line.rx = s.line.rx ∧
      (State.requestTimeSet body s).dock.bolt = s.dock.bolt ∧
      (State.requestTimeSet body s).dock.coil = s.dock.coil ∧
      (State.requestTimeSet body s).dock.pullInEndAt = s.dock.pullInEndAt ∧
      (State.requestTimeSet body s).dock.docked = s.dock.docked ∧
      (State.requestTimeSet body s).dock.count = s.dock.count ∧
      (State.requestTimeSet body s).tag.copy = s.tag.copy ∧
      (State.requestTimeSet body s).tag.operation = s.tag.operation ∧
      (State.requestTimeSet body s).settle.active = s.settle.active ∧
      (State.requestTimeSet body s).settle.staging = s.settle.staging ∧
      (State.requestTimeSet body s).port.events = s.port.events ∧
      (State.requestTimeSet body s).terminal.stationId = s.terminal.stationId := by
  unfold State.requestTimeSet
  dsimp only
  (repeat' split) <;> first | (simp; done) | (rename_i heq; have h1 := congrArg Prod.fst heq; dsimp only at h1; subst h1; simp)

end Sys2Proof.Machine
end

