-- ==== Sys2Proof/Laws/Conclude.lean ====
section
/-! SUPPORT. What an evaluation of the own offer and the end of a step do: the own offer, the access wait and the lamp, one
lemma for each, and the fact that every command but FULL_RESET ends so. -/

namespace Sys2Proof.Machine

/-! ### The access wait -/

theorem State.startTransmission_wait (s : State) (e : TxEntry) (rest : List TxEntry) (h : s.line.queue = e :: rest) :
    s.startTransmission.line.wait = none ∧ s.startTransmission.waitDue = none := by
  simp [State.startTransmission, h, State.waitDue]

/-- Following the head leaves the wait that is due. -/
theorem State.followHead_wait (s : State) : s.followHead.line.wait = s.followHead.waitDue := by
  unfold State.followHead
  split
  · rename_i h
    have : State.waitDue { s with line := { s.line with wait := none } } = s.waitDue := rfl
    rw [this, h]
  · rename_i bits h
    split
    · rename_i hw; rw [hw, h]
    · split
      · have : ∃ e rest, s.line.queue = e :: rest := by
          unfold State.waitDue at h
          split at h
          · exact ⟨_, _, by assumption⟩
          · cases h
        obtain ⟨e, rest, hq⟩ := this
        obtain ⟨h1, h2⟩ := s.startTransmission_wait e rest hq
        rw [h1, h2]
      · have : State.waitDue { s with line := { s.line with wait := some bits } } = s.waitDue := rfl
        rw [this, h]

/-- The frames queued stay the frames queued: an attempt that starts fills a body and moves nothing. -/
theorem State.followHead_refs (s : State) :
    s.followHead.line.queue.map TxEntry.ref = s.line.queue.map TxEntry.ref ∧
      s.followHead.line.queue.map TxEntry.kind = s.line.queue.map TxEntry.kind := by
  have key : ∀ (ref : Nat) (body : List Byte) (q : List TxEntry),
      (replaceBody ref body q).map TxEntry.ref = q.map TxEntry.ref ∧
        (replaceBody ref body q).map TxEntry.kind = q.map TxEntry.kind := by
    intro ref body q
    constructor <;>
    · simp only [replaceBody, List.map_map]
      refine List.map_congr_left (fun e _ => ?_)
      simp only [Function.comp_apply]
      split <;> rfl
  unfold State.followHead State.startTransmission
  (repeat' split) <;> first | exact ⟨rfl, rfl⟩ | exact key _ _ _

/-- A wait that is the one due is followed by nothing. -/
theorem State.followHead_of_due (s : State) (h : s.line.wait = s.waitDue) : s.followHead = s := by
  unfold State.followHead
  split
  · rename_i hd; rw [hd] at h; rw [← h]
  · rename_i bits hd; rw [hd] at h; simp [h]

/-! ### The lamp -/

theorem State.lampRow_congr (s t : State) (hd : ∃ l, t = { s with dock := { s.dock with lamp := l } }) :
    t.lampRow = s.lampRow := by
  obtain ⟨l, rfl⟩ := hd; rfl

theorem State.chooseLamp_row (s : State) (h : s.isPost = true) : s.chooseLamp.dock.lamp.row = s.lampRow := by
  unfold State.chooseLamp
  split
  · rfl
  · rename_i hc; simp_all

theorem State.chooseLamp_eq (s : State) :
    s.chooseLamp = { s with dock := { s.dock with lamp := s.chooseLamp.dock.lamp } } := by
  unfold State.chooseLamp; split <;> rfl

theorem State.chooseLamp_of_row (s : State) (h : s.isPost = true → s.dock.lamp.row = s.lampRow) :
    s.chooseLamp = s := by
  unfold State.chooseLamp
  split
  · rename_i hc; simp_all
  · rfl

theorem State.followHead_eq (s : State) :
    s.followHead =
      { s with
        line := { s.line with
          queue := s.followHead.line.queue, tx := s.followHead.line.tx, quiet := s.followHead.line.quiet,
          wait := s.followHead.line.wait, recessiveSince := s.followHead.line.recessiveSince,
          charEndsAt := s.followHead.line.charEndsAt } } := by
  unfold State.followHead State.startTransmission; (repeat' split) <;> rfl

/-! ### The own offer -/

theorem State.enqueue_eq (kind : Kind) (body : List Byte) (s : State) :
    (s.enqueue kind body).1 =
      { s with
        line := { s.line with
          queue := (s.enqueue kind body).1.line.queue, nextRef := (s.enqueue kind body).1.line.nextRef } } := by
  unfold State.enqueue; (repeat' split) <;> rfl

theorem State.evaluateOffer_eq (s : State) :
    s.evaluateOffer =
      { s with
        line := { s.line with queue := s.evaluateOffer.line.queue, nextRef := s.evaluateOffer.line.nextRef }
        van := { s.van with
          offer := s.evaluateOffer.van.offer, offerRef := s.evaluateOffer.van.offerRef,
          voidMark := s.evaluateOffer.van.voidMark, retryAt := s.evaluateOffer.van.retryAt } } := by
  have h : ∀ body, (s.offer .ofr body).1 =
      { s with line := { s.line with queue := (s.offer .ofr body).1.line.queue
                                     nextRef := (s.offer .ofr body).1.line.nextRef } } := by
    intro body
    unfold State.offer
    split
    · rfl
    · simp only [reduceCtorEq, if_false]; exact s.enqueue_eq .ofr body
  unfold State.evaluateOffer
  split
  · split
    · rename_i w _ _ _
      have hw := h (ofrBody w.serial (s.offerBike w) (s.ownRank w))
      split
      · rename_i heq; rw [heq] at hw; dsimp only at hw; rw [hw]
      · rename_i heq; rw [heq] at hw; dsimp only at hw; rw [hw]; rfl
    · rfl
  · rfl

/-- An evaluation moves the queue and the own offer alone, caused or not. -/
theorem State.evaluateSince_eq (s before : State) :
    s.evaluateSince before =
      { s with
        line := { s.line with
          queue := (s.evaluateSince before).line.queue, nextRef := (s.evaluateSince before).line.nextRef }
        van := { s.van with
          offer := (s.evaluateSince before).van.offer, offerRef := (s.evaluateSince before).van.offerRef,
          voidMark := (s.evaluateSince before).van.voidMark, retryAt := (s.evaluateSince before).van.retryAt } } := by
  unfold State.evaluateSince
  split
  · exact s.evaluateOffer_eq
  · rfl

/-- A post with no open window, with an own offer that is not NONE, with a hire in progress or in a self-test makes no
offer, and neither does a station that is no post (R168, R170). -/
theorem State.evaluateOffer_of_none (s : State)
    (h : s.van.window = none ∨ s.van.offer ≠ .none_ ∨ s.hire.state ≠ .idle ∨ s.dock.selfTest ≠ none ∨
      s.isPost = false) : s.evaluateOffer = s := by
  unfold State.evaluateOffer
  split
  · rename_i w hw ho
    rw [if_neg]
    rcases h with h | h | h | h | h
    · rw [hw] at h; cases h
    · exact absurd ho h
    · simp [State.ownCandidate, h]
    · have : s.dock.selfTest.isNone = false := by cases hs : s.dock.selfTest <;> simp_all
      simp [State.ownCandidate, this]
    · simp [h]
  · rfl

/-- The same for a change that may call for an evaluation. -/
theorem State.evaluateSince_of_none (s before : State)
    (h : s.van.window = none ∨ s.van.offer ≠ .none_ ∨ s.hire.state ≠ .idle ∨ s.dock.selfTest ≠ none ∨
      s.isPost = false) : s.evaluateSince before = s := by
  unfold State.evaluateSince
  split
  · exact s.evaluateOffer_of_none h
  · rfl

/-- A change that is none of R170's causes calls for no evaluation. -/
theorem State.evaluateSince_of_uncaused (s before : State) (h : evaluationCaused before s = false) :
    s.evaluateSince before = s := by
  simp [State.evaluateSince, h]

theorem evaluationCaused_self (s : State) : evaluationCaused s s = false := by simp [evaluationCaused]

/-! ### The conclusion -/

theorem conclude_eq (s : State) :
    conclude s =
      { s with
        line := { s.line with
          queue := (conclude s).line.queue, tx := (conclude s).line.tx, quiet := (conclude s).line.quiet,
          wait := (conclude s).line.wait, recessiveSince := (conclude s).line.recessiveSince,
          charEndsAt := (conclude s).line.charEndsAt }
        dock := { s.dock with lamp := (conclude s).dock.lamp } } := by
  unfold conclude
  have h2 := s.followHead_eq
  generalize s.followHead = f at h2
  have h3 := f.chooseLamp_eq
  generalize f.chooseLamp = g at h3
  rw [h3, h2]

/-- The two things every step ends in. -/
theorem conclude_settled (s : State) : (conclude s).settled := by
  refine ⟨?_, ?_⟩
  · have h := s.followHead_wait
    unfold conclude
    rw [State.chooseLamp_eq]
    exact h
  · intro hp
    have hp' : s.followHead.isPost = true := by
      unfold conclude at hp; rw [State.chooseLamp_eq] at hp; exact hp
    unfold conclude
    rw [State.chooseLamp_row _ hp']
    exact (State.lampRow_congr _ _ ⟨_, State.chooseLamp_eq _⟩).symm

/-- A settled state stays. -/
theorem conclude_of_settled (s : State) (h : s.settled) : conclude s = s := by
  unfold conclude
  rw [State.followHead_of_due s h.1, State.chooseLamp_of_row s h.2]

/-- Every command but FULL_RESET answers the conclusion of some state. -/
theorem exec_concludes (i : Instr) (s : State) :
    (∃ straps o a b, i = .fullReset straps o a b) ∨ ∃ u, exec i s = .next (conclude u) := by
  cases i
  case fullReset => exact .inl ⟨_, _, _, _, rfl⟩
  all_goals exact .inr ⟨_, rfl⟩

/-- A frame in which only the blocks named were touched, from the state a command concludes. -/
theorem conclude_frame_of (b : Touched) (s u : State) (h : b.frame s u) : b.frame s (conclude u) := by
  rw [conclude_eq]; exact h

/-- What the conclusion of a step leaves of the line controller. -/
@[simp] theorem conclude_line (s : State) :
    let l := (conclude s).line
    l.rx = s.line.rx ∧ l.rxCharEnd = s.line.rxCharEnd ∧ l.lastSender = s.line.lastSender ∧
      l.heldBeacon = s.line.heldBeacon ∧ l.serial = s.line.serial ∧ l.badFrames = s.line.badFrames ∧
      l.stuck = s.line.stuck ∧ l.lineRaised = s.line.lineRaised ∧ l.lineClearAt = s.line.lineClearAt ∧
      l.clash = s.line.clash ∧ l.nextRef = s.line.nextRef := by
  intro l
  have h : l = _ := congrArg State.line (conclude_eq s)
  rw [h]; simp

/-- The conclusion of a step moves of the dock mechanism the lamp alone. -/
@[simp] theorem conclude_dock (s : State) :
    let d := (conclude s).dock
    d.sensorOpen = s.dock.sensorOpen ∧ d.bolt = s.dock.bolt ∧ d.coil = s.dock.coil ∧
      d.holdDutyFrom = s.dock.holdDutyFrom ∧ d.seenOpen = s.dock.seenOpen ∧ d.release = s.dock.release ∧
      d.pullIns = s.dock.pullIns ∧ d.pullInEndAt = s.dock.pullInEndAt ∧ d.ch0At = s.dock.ch0At ∧
      d.openCheckAt = s.dock.openCheckAt ∧ d.takeWindowAt = s.dock.takeWindowAt ∧
      d.closeCheckAt = s.dock.closeCheckAt ∧ d.pushAsideAt = s.dock.pushAsideAt ∧
      d.selfTest = s.dock.selfTest ∧ d.holdEndAt = s.dock.holdEndAt ∧ d.docked = s.dock.docked ∧
      d.dockedSince = s.dock.dockedSince ∧ d.beamA = s.dock.beamA ∧ d.beamB = s.dock.beamB ∧
      d.count = s.dock.count ∧ d.noise = s.dock.noise ∧ d.pressed = s.dock.pressed ∧
      d.pressAt = s.dock.pressAt ∧ d.burst = s.dock.burst ∧ d.refusal = s.dock.refusal ∧
      d.crewAckAt = s.dock.crewAckAt ∧ d.converter = s.dock.converter ∧
      d.pendingPeriodic = s.dock.pendingPeriodic ∧ d.pendingEvent = s.dock.pendingEvent ∧
      d.periodicAt = s.dock.periodicAt ∧ d.ch0 = s.dock.ch0 ∧ d.ch1 = s.dock.ch1 ∧
      d.ch2 = s.dock.ch2 ∧ d.ch3 = s.dock.ch3 ∧ d.sansLamp = s.dock.sansLamp := by
  intro d
  have h : d = _ := congrArg State.dock (conclude_eq s)
  rw [h]; simp [Dock.sansLamp]

/-- An entry of the queue that is no TIM stays in it through the following of the head, its body with it when no other
entry has its reference. -/
theorem State.followHead_keeps (s : State) (e : TxEntry) (he : e ∈ s.line.queue) (hk : e.kind ≠ .tim)
    (hu : ∀ x ∈ s.line.queue, x.ref = e.ref → x = e) : e ∈ s.followHead.line.queue := by
  unfold State.followHead State.startTransmission
  (repeat' split) <;> try exact he
  rename_i x rest hq
  simp only [replaceBody, List.mem_map]
  refine ⟨e, he, ?_⟩
  split
  · rename_i hr
    have : x = e := hu x (by simp [hq]) hr.symm
    subst this
    simp [State.bodyAtAttempt, hk]
  · rfl

end Sys2Proof.Machine
end

