-- ==== Sys2Proof/Laws/Queue.lean ====
section
/-! SUPPORT. The laws of the clock's bringing to a timer, of the transmit queue and of the request list: what each answers
where its condition holds. -/

namespace Sys2Proof.Machine

/-! ### The clock -/

/-- Bringing the clock to an instant changes nothing but the clock. -/
theorem State.reachMs_eq (due : Ms) (s : State) : ∃ c, s.reachMs due = { s with clock := c } := by
  unfold State.reachMs
  split
  · exact ⟨s.clock, rfl⟩
  · exact ⟨_, rfl⟩

/-- The same for an instant finer than a millisecond. -/
theorem State.reachInstant_eq (due : Instant) (s : State) : ∃ c, s.reachInstant due = { s with clock := c } := by
  unfold State.reachInstant
  (repeat' split)
  · exact ⟨_, rfl⟩
  · exact ⟨s.clock, rfl⟩
  · exact ⟨_, rfl⟩

/-- The end of a character changes the line's present character and quiet, and the clock. -/
theorem State.characterEnds_eq (c : LineChar) (s : State) :
    ∃ k, s.characterEnds c =
      { s with
        clock := k
        line := { s.line with
          charEndsAt := none, quiet := none, wait := none, recessiveSince := if c.stopGood then some k else none } } := by
  unfold State.characterEnds
  split
  · obtain ⟨k, hk⟩ := State.reachInstant_eq (by assumption) s
    exact ⟨k, by rw [hk]⟩
  · exact ⟨s.clock, rfl⟩

/-! ### The transmit queue -/

/-- The entries after an insertion. -/
@[simp] theorem mem_insertEntry (e x : TxEntry) (queue : List TxEntry) :
    x ∈ insertEntry e queue ↔ x = e ∨ x ∈ queue := by
  unfold insertEntry
  constructor
  · intro h
    rw [List.mem_append, List.mem_cons] at h
    rcases h with h | h | h
    · exact .inr (List.takeWhile_prefix _ |>.subset h)
    · exact .inl h
    · exact .inr (List.dropWhile_suffix _ |>.subset h)
  · rintro (h | h)
    · simp [h]
    · rw [← List.takeWhile_append_dropWhile (p := fun x => decide (x.kind.cls ≤ e.kind.cls)) (l := queue)] at h
      simp only [List.mem_append, List.mem_cons] at h ⊢
      tauto

@[simp] theorem length_insertEntry (e : TxEntry) (queue : List TxEntry) :
    (insertEntry e queue).length = queue.length + 1 := by
  have h := congrArg List.length
    (List.takeWhile_append_dropWhile (p := fun x => decide (x.kind.cls ≤ e.kind.cls)) (l := queue))
  simp only [List.length_append] at h
  simp only [insertEntry, List.length_append, List.length_cons]
  omega

/-- An offer that is not refused outright, with room in the queue, is queued with the next reference. -/
theorem State.offer_room (kind : Kind) (body : List Byte) (s : State) (hr : s.refusesOffer kind = false)
    (hk : kind ≠ .bcn) (hl : s.line.queue.length < 8) :
    s.offer kind body =
      ({ s with
         line := { s.line with
           queue := insertEntry (s.newEntry kind body) s.line.queue
           nextRef := s.line.nextRef + 1 } }, some s.line.nextRef) := by
  simp [State.offer, hr, hk, State.enqueue, hl]

/-- An offer refused outright changes nothing. -/
theorem State.offer_refused (kind : Kind) (body : List Byte) (s : State) (hr : s.refusesOffer kind = true) :
    s.offer kind body = (s, none) := by
  simp [State.offer, hr]

/-- An entry stays queued through the conclusion of the step, when its kind is no TIM and no other entry has its
reference. -/
theorem conclude_keeps (s : State) (e : TxEntry) (he : e ∈ s.line.queue) (hk : e.kind ≠ .tim)
    (hu : ∀ x ∈ s.line.queue, x.ref = e.ref → x = e) : e ∈ (conclude s).line.queue := by
  unfold conclude
  rw [State.chooseLamp_eq]
  exact State.followHead_keeps _ e he hk hu

/-! ### The request list -/

/-- A request made while nothing is in progress or waiting begins at once. -/
theorem State.requestWrite_idle (contents : SectionContents) (requester : Requester) (s : State)
    (hc : s.tag.copy.state = .held ∨ s.tag.copy.state = .noTag) (ho : s.tag.operation = .idle)
    (hr : s.tag.requests = []) :
    s.requestWrite contents requester =
      ({ s with
         tag := { s.tag with
           operation :=
             .write { contents := contents, requester := requester, ref := s.tag.nextRef } false false false s.clock.ms
           nextRef := s.tag.nextRef + 1 } }, .listed s.tag.nextRef) := by
  have hne : s.tag.copy.state ≠ .empty := by rcases hc with h | h <;> simp [h]
  have hb : (decide (s.tag.copy.state = .held) || decide (s.tag.copy.state = .noTag)) = true := by
    rcases hc with h | h <;> simp [h]
  unfold State.requestWrite
  rw [if_neg hne]
  simp only [hr, List.find?_nil, List.nil_append, State.beginWrite, ho]
  rw [if_pos hb]

/-- A request made behind an operation in progress waits in the list, when none for its section does. -/
theorem State.requestWrite_waits (contents : SectionContents) (requester : Requester) (s : State)
    (hc : s.tag.copy.state ≠ .empty) (ho : s.tag.operation ≠ .idle)
    (hr : ∀ r ∈ s.tag.requests, r.contents.sameSection contents = false) :
    s.requestWrite contents requester =
      ({ s with
         tag := { s.tag with
           requests := s.tag.requests ++ [{ contents := contents, requester := requester, ref := s.tag.nextRef }]
           nextRef := s.tag.nextRef + 1 } }, .listed s.tag.nextRef) := by
  unfold State.requestWrite
  rw [if_neg hc]
  have hf : s.tag.requests.find? (fun r => r.contents.sameSection contents) = none := by
    rw [List.find?_eq_none]; intro r hrm; simp [hr r hrm]
  simp only [hf, State.beginWrite]
  split
  · rename_i h _; exact absurd h ho
  · rfl

end Sys2Proof.Machine
end

