-- ==== Sys2Proof/WellFormed.lean ====
section
/-! DEFINITION. Which operands a command can carry. `exec` does not consult this check: it is total, and an
ill-formed command is one the outside cannot present. -/

namespace Sys2Proof

/-- A bit position of a frame at which the echo can differ: within the longest frame (R1), and not a start bit,
which is driven dominant and so always reads back as driven. -/
def wfEchoBit (bit : Nat) : Bool := decide (bit < 594) && decide (bit % 11 ≠ 0)

/-- A second check character is no mark character and has a good stop bit (R1, R4). -/
def wfLastChar (c : LineChar) : Bool := !c.mark && c.stopGood

/-- A character can abandon a frame by its stop bit, by its mark, or as a length above 48 (R4, R6). -/
def wfAbandoningChar (c : LineChar) : Bool := !c.stopGood || c.mark || decide (c.data.toNat > 48)

/-- A tag section is 8, 24, 12 or 20 bytes long (Table 12-5). -/
def wfSection (bytes : List Byte) : Bool :=
  decide (bytes.length = 8) || decide (bytes.length = 24) || decide (bytes.length = 12) || decide (bytes.length = 20)

/-- The body of a well-formed request record is at most 48 bytes long (R181). -/
def wfRequestBody (body : List Byte) : Bool := decide (body.length ≤ 48)

/-- A request transaction holds at least one byte, and its first is not the read code 80H (R180). -/
def wfTransaction : List Byte → Bool
  | [] => false
  | k :: _ => decide (k ≠ 0x80)

/-- The command's operands are ones the outside can present. -/
def Instr.wf : Instr → Bool
  | .fullReset _ _ _ _ => true
  | .quiet => true
  | .accessWaitExpiry => true
  | .echoCheckFail bit => wfEchoBit bit
  | .sentIntact => true
  | .frameReceived c => wfLastChar c
  | .frameAbandoned c => wfAbandoningChar c
  | .receiveGapExpiry => true
  | .stuckLine => true
  | .lineClear => true
  | .deadlineExpiry => true
  | .beaconTimerExpiry => true
  | .silenceTimerExpiry _ => true
  | .duplicateHoldExpiry => true
  | .stalenessExpiry => true
  | .carry => true
  | .pendingLapse _ => true
  | .captureSlotLapse _ => true
  | .openEdge => true
  | .closedEdge => true
  | .pullInEnd => true
  | .openCheckExpiry => true
  | .takeWindowExpiry => true
  | .closeCheckExpiry => true
  | .pushAsideLimitExpiry => true
  | .beamEdge _ _ => true
  | .buttonPress => true
  | .buttonRelease => true
  | .burstEndExpiry => true
  | .flashPhaseExpiry => true
  | .refusalDisplayEnd => true
  | .crewAcknowledgementEnd => true
  | .periodicTimerExpiry => true
  | .ch0Request => true
  | .converterWakeEnd => true
  | .burstComplete _ _ _ _ => true
  | .holdPhaseEnd => true
  | .noTag => true
  | .sectionReadComplete bytes => wfSection bytes
  | .sectionWriteComplete => true
  | .cardCharacter _ => true
  | .recordGap => true
  | .lookupTimerExpiry => true
  | .claimAgeExpiry => true
  | .claimWindowExpiry => true
  | .settleTimerExpiry => true
  | .gatheringExpiry _ => true
  | .ratingComplete _ => true
  | .stlRetryExpiry _ => true
  | .stlAbandon _ => true
  | .reportingWindowExpiry => true
  | .windowExpiry => true
  | .offerRetryExpiry => true
  | .status body => wfRequestBody body
  | .peerRead body => wfRequestBody body
  | .stationSet body => wfRequestBody body
  | .timeSet body => wfRequestBody body
  | .timTimerExpiry => true
  | .tariffLoad body => wfRequestBody body
  | .tariffCommit body => wfRequestBody body
  | .trfCycleExpiry => true
  | .memberPush body => wfRequestBody body
  | .faultClear body => wfRequestBody body
  | .vanOpen body => wfRequestBody body
  | .vanClose body => wfRequestBody body
  | .eventRead body => wfRequestBody body
  | .unknownRequest bytes => wfTransaction bytes
  | .readTransaction _ => true
  | .startBit => true
  | .lineCharacter _ => true
  | .tagAnswer => true

end Sys2Proof
end

