-- ==== Sys2Proof/Tests/Slice0.lean ====
section
/-! SUPPORT. Tests: ill-formed operands refused, the values of the worked cases of the manual, and for every statement
with hypotheses a witness that meets them, for each of its clauses. -/

open Sys2Proof Sys2Proof.Machine

namespace Sys2Proof.Tests

set_option Elab.async false

/-! ### States for the witnesses -/

/-- The tag copy of a hireable bike: bike 77, HIRE CLOSED, no entries. -/
def hireClosed : HireSection :=
  { mark := .closed, member := 0, plan := 0, start := 0, startStation := 0, startPost := 0, startDay := 0,
    startSpend := 0, unverified := false, endAt := 0 }

def hireOpen : HireSection :=
  { mark := .opened, member := 55, plan := 2, start := 8660000, startStation := 412, startPost := 1, startDay := 100,
    startSpend := 50, unverified := false, endAt := 0 }

def bike77 : IdSection := { bikeId := 77, kind := .classic }

def copy77 : TagCopy := { state := .held, id := .good bike77, hire := .good hireClosed, last := none, faults := .good [] }

def plan2 : PlanRecord :=
  { freeMinutes := 30, blockMinutes := 30, rateA := 100, rateB := 150, rateC := 50, rateD := 60, surcharge := 20,
    rideCap := 0, dayCap := 1200, overdueFee := 5000, grace := 120 }

def tariff5 : Tariff :=
  { version := 5
    pieces := List.replicate 8 (some (.plan (some plan2))) ++ [some (.bands [{ start := 0, cls := .a }])] }

def liveEntry : Peer := { state := .live, beacon := none, heard := some 999000, silenceAt := some 1005000 }

/-- The clock at 1,000,000 ms, the time SET at scheme second 8,671,000 (day 100). -/
def timed (s : State) : State :=
  { s with
    clock := { ms := 1000000, us := 0 }
    time := { s.time with
      base := some { localMs := 1000000, schemeMs := 8671000000 }, quality := .set, staleAt := some 87400000 } }

/-- A post of station 412, at number 1, that hears the terminal and the van. -/
def post : State :=
  { timed State.reset with
    tag := { State.reset.tag with operation := .idle }
    peers := { State.reset.peers with
      adoptedId := 412, entries := (State.reset.peers.entries.set 0 liveEntry).set 31 liveEntry } }

/-- The post with bike 77 docked and a tariff in force. -/
def docked : State :=
  { post with
    dock := { post.dock with
      docked := true, count := 15, ch2 := { last := some 900, fresh := false }
      dockedSince := some { ms := 900000, scheme := .known 8670000000, startUp := false } }
    tag := { post.tag with copy := copy77 }
    settle := { post.settle with active := tariff5 } }

def term : State := timed (State.atRelease { role := .terminal, number := 0, rateHigh := false } false false false [])
def van : State := timed (State.atRelease { role := .van, number := 31, rateHigh := true } false false false [])
def monitor : State := timed (State.atRelease { role := .monitor, number := 5, rateHigh := true } false false false [])

/-- The same state without time. -/
def untimed (s : State) : State := { s with time := Timebase.afterReset }

def window7 (mode : VanMode) : VanWindow :=
  { serial := 7, mode := mode, places := 1, crew := 9, expiresAt := 1060000, accepted := [] }

def inWindow (s : State) (mode : VanMode) : State := { s with van := { s.van with window := some (window7 mode) } }

def placesWindow (places : Nat) : VanWindow := { window7 .collect with places := places }

/-- The docked post with post 5 LIVE, a candidate that ranks before it. -/
def rivalled : State :=
  docked.setPeer 5
    { state := .live, beacon := some { docked.ownBeacon with bikeId := 76, dockedSince := 1 }
      heard := some 1, silenceAt := none }

/-- The window with its one place taken by station 4. -/
def fullWindow (mode : VanMode) : VanWindow :=
  { window7 mode with accepted := [{ station := 4, bikeId := 5, rank := 1, heard := 0 }] }

def bytesOf (f : Frame) : List Byte := frameBytes f.kind f.sender f.serial f.body

/-- The station about to take the last character of the frame `f`, and that character. -/
def hears (s : State) (f : Frame) : State :=
  { s with line := { s.line with tx := none, rx := some (bytesOf f).dropLast } }
def lastChar (f : Frame) : LineChar := { data := (bytesOf f).getLastD 0, mark := false, stopGood := true }

def frame (kind : Kind) (sender : Nat) (body : List Byte) : Frame :=
  { kind := kind, sender := sender, serial := 4, body := body }

def entry (kind : Kind) (body : List Byte) : TxEntry :=
  { kind := kind, body := body, ref := 3, queuedAt := 999000, deadline := 1004000 }

def queueing (s : State) (e : TxEntry) : State := { s with line := { s.line with queue := [e], nextRef := 4 } }

def attempt (s : State) (e : TxEntry) : Transmission :=
  { ref := e.ref, bytes := frameBytes e.kind s.number s.line.serial e.body, start := s.clock }

def sending (s : State) (e : TxEntry) : State :=
  { queueing s e with line := { (queueing s e).line with rx := none, tx := some (attempt s e) } }

def card55 : CardRecord := { member := 55, plan := 2, sequence := 1, expiryDay := 100, offline := false }

def withCard (s : State) (expiry : Nat) : State :=
  { s with
    card := { s.card with
      assembler := .complete, gapAt := some 1000000
      chars := withCrc16 (be4 55 ++ be1 2 ++ be1 1 ++ be2 expiry ++ be1 0 ++ List.replicate 5 0) } }

def hire55 : HireRecord :=
  { HireRecord.ofCard .member card55 with
    answer := some
      { status := .good, plan := 2, allowance := 2, bikesOut := 1, spend := 10, minSequence := 0, unverified := false } }

def hiring (s : State) (state : HireState) (h : HireRecord) : State :=
  { s with hire := { s.hire with state := state, record := some h } }

def operating (s : State) (op : TagOperation) : State := { s with tag := { s.tag with operation := op } }

def entry55 : ViewEntry :=
  { member := 55, status := .good, plan := 2, allowance := 2, bikesOut := 1, day := 100, spend := 40, minSequence := 1,
    updatedAt := 8670000 }

def knowing (s : State) : State := { s with view := { s.view with entries := [entry55] } }

def ride55 : ReturnRecord :=
  { bikeId := 77, ebike := false, member := 55, plan := 2, start := 8660000, startStation := 412, startPost := 1,
    startDay := 100, startSpend := 50, capture := 990000, startUp := false, end_ := .pending }

def rating55 : RatingInputs :=
  { start := 8660000, end_ := 8661800, plan := plan2, bands := [{ start := 0, cls := .a }], version := 5,
    startSpend := 50, ebike := false, atStartPost := false }

def inSlotA (s : State) (r : ReturnRecord) (phase : SlotPhase) : State :=
  { s with settle := { s.settle with slotA := some { record := r, phase := phase } } }

def claim4 : SentClaim := { serial := 4, at_ := 999000 }

def released55 : HireRecord :=
  { hire55 with claim := some claim4, prior := some hireClosed, written := some hireOpen, bike := some bike77 }

def fault2 (reporter : Nat) : FaultEntry := { cls := 2, level := 1, source := .member, reporter := reporter }

def vop7 : VopValues := { serial := 7, mode := .collect, places := 1, crew := 9, seconds := 60 }

def write4 (contents : SectionContents) (requester : Requester) : WriteRequest :=
  { contents := contents, requester := requester, ref := 4 }

def answeredWrite (contents : SectionContents) (requester : Requester) (second : Bool) : State :=
  operating docked (.write (write4 contents requester) second true true 999985)

def idBytes : List Byte := withCrc8 (be4 77 ++ be1 0 ++ be1 1 ++ be1 0)

/-- The crew card of member 9, read whole, its capture in the held slot and passed by the button held test or not. -/
def card9 : CardRecord := { member := 9, plan := 15, sequence := 1, expiryDay := 100, offline := false }

def withCrewCard (s : State) (held : Bool) : State :=
  { s with
    time := { s.time with card := some { ms := 999000, scheme := .pending, startUp := false } }
    card := { s.card with
      assembler := .complete, gapAt := some 1000000, captureHeld := held
      chars := withCrc16 (be4 9 ++ be1 15 ++ be1 1 ++ be2 100 ++ be1 0 ++ List.replicate 5 0) } }

def crewRelease : HireRecord :=
  { HireRecord.ofCard .crew card9 with
    prior := some hireClosed, bike := some bike77, written := some { hireClosed with mark := .van, member := 9 } }

def capture999 : Capture := { ms := 999000, scheme := .known 8670999000, startUp := false }

/-- A read set that lacks its FAULTS section alone, begun by the docking at 999,000. -/
def readingWhole (s : State) (id hire last : List Byte) : State :=
  { s with tag := { s.tag with operation := .readSet false [id, hire, last] true 999985, docking := some capture999 } }

def tagEntry : FaultEntry := { cls := 8, level := 2, source := .auto, reporter := 0 }

/-- The rewrite of a damaged FAULTS section in its read-back, with the changes that wait for it. -/
def rewriting (second : Bool) (deferred : List FaultChange) : State :=
  { docked with
    tag := { docked.tag with
      copy := { copy77 with faults := .damaged }
      operation := .write (write4 (.faults [tagEntry]) .tagPort) second true true 999985 }
    fault := { docked.fault with deferred := deferred } }

/-- Eight frames queued: four CLMs, then four LKPs. -/
def eightFrames : List TxEntry :=
  (List.range 4).map (fun k => { entry .clm [] with ref := k }) ++
    (List.range 4).map (fun k => { entry .lkp [] with ref := k + 4 })

def withQueue (s : State) (q : List TxEntry) : State := { s with line := { s.line with queue := q, nextRef := 8 } }

/-- The state a command leaves. -/
def after (i : Instr) (s : State) : State :=
  match exec i s with
  | .next t => t
  | .fault _ => s
  | .refused _ => s

/-! ### Which operands are well formed -/

/-- No bit of a frame lies beyond the last of its 54 characters. -/
theorem test_wf_echo_bit_beyond_frame : (Instr.echoCheckFail 594).wf = false := by decide
/-- A start bit cannot differ from its echo. -/
theorem test_wf_echo_bit_of_start : (Instr.echoCheckFail 11).wf = false := by decide
theorem test_wf_last_character_marked :
    (Instr.frameReceived { data := 1, mark := true, stopGood := true }).wf = false := by decide
theorem test_wf_ordinary_character_abandons_nothing :
    (Instr.frameAbandoned { data := 48, mark := false, stopGood := true }).wf = false := by decide
theorem test_wf_section_of_nine_bytes : (Instr.sectionReadComplete (List.replicate 9 0)).wf = false := by decide
theorem test_wf_request_body_of_49_bytes : (Instr.memberPush (List.replicate 49 0)).wf = false := by decide
theorem test_wf_empty_transaction : (Instr.unknownRequest []).wf = false := by decide
theorem test_wf_read_code_is_no_request : (Instr.unknownRequest [0x80]).wf = false := by decide
theorem test_wf_unknown_kind : (Instr.unknownRequest [0x0C, 0]).wf = true := by decide

/-! ### The manual's worked values -/

/-- The CRC-16 of the digits 1 to 9 is 29B1H (12.1). -/
theorem test_crc16_of_digits : crc16 [0x31, 0x32, 0x33, 0x34, 0x35, 0x36, 0x37, 0x38, 0x39] = 0x29B1 := by
  decide +kernel
/-- The CRC-8 of the digits 1 to 9 is F4H (12.1). -/
theorem test_crc8_of_digits : crc8 [0x31, 0x32, 0x33, 0x34, 0x35, 0x36, 0x37, 0x38, 0x39] = 0xF4 := by
  decide +kernel

/-- Table 1-5: class, own number and last sender give 4, 112 and 352 bit-times. -/
theorem test_access_waits_first_quiet : (accessWait 0 9 7, accessWait 0 4 7, accessWait 2 0 7) = (4, 112, 352) := by
  decide
/-- Table 1-6: posts 22 and 20, holding different last senders, wait alike. -/
theorem test_access_waits_second_quiet :
    (accessWait 0 22 9, accessWait 0 20 7, accessWait 0 4 9, accessWait 2 0 9) = (48, 48, 104, 344) := by decide

/-- The first character of an HIR's frame, kind 20H (Table 1-1), as its eleven levels, recessive being true: start bit,
20H least significant bit first, mark, stop bit. -/
theorem test_first_character_on_the_line :
    (frameLevels [0x20, 0x01]).take 11 =
      [false, false, false, false, false, false, true, false, false, true, true] := by decide
/-- At the local port 05H is shifted out most significant bit first (R190). -/
theorem test_byte_at_the_local_port :
    portBits [0x05] = [false, false, false, false, false, true, false, true] := by decide

/-- R167: an OFR that makes its sender LIVE is applied to the accepted list before the peer change is evaluated, so that of
two places one is left and a post of rank 2 makes no offer. -/
theorem test_offer_applied_before_the_peer_change :
    let s := hears { rivalled with van := { docked.van with window := some (placesWindow 2) } }
      (frame .ofr 30 (be1 7 ++ be4 78 ++ be1 1))
    (after (.frameReceived (lastChar (frame .ofr 30 (be1 7 ++ be4 78 ++ be1 1)))) s).van.offer = .none_ := by
  decide +kernel

/-- The terminal's queue of Table 1-4, all class 1 frames before class 2. -/
def fullQueue : State :=
  { term with
    line := { term.line with
      nextRef := 9
      queue := [Kind.mbr, .mbr, .fcl, .mbr, .mbr, .tim, .trf, .bcn].zipIdx.map (fun k =>
        { kind := k.1, body := [], ref := k.2, queuedAt := 999000, deadline := 1004000 }) } }

/-- The sequence after Table 1-4: a MEMBER_PUSH displaces the newest class 2 entry and stands last of class 1. -/
theorem test_full_queue_displaces_the_beacon :
    exec (.memberPush (mbrBody entry55)) fullQueue = .next (after (.memberPush (mbrBody entry55)) fullQueue) ∧
    (after (.memberPush (mbrBody entry55)) fullQueue).line.queue.map (fun e => (e.kind, e.ref)) =
      [(.mbr, 0), (.mbr, 1), (.fcl, 2), (.mbr, 3), (.mbr, 4), (.mbr, 9), (.tim, 5), (.trf, 6)] := by
  refine ⟨rfl, by decide +kernel⟩

/-- Table 3-4: the capture at 412,350 back-dated by the adoption at 498,120. -/
theorem test_back_dating :
    schemeFrom { localMs := 498120, schemeMs := 8671000250 } 412350 = 8670914480 := by decide
/-- Table 3-5: the carry and the present at 90,000,000. -/
theorem test_carry :
    (after .stalenessExpiry { docked with
        clock := { ms := 86898120, us := 0 }
        time := { docked.time with
          base := some { localMs := 498120, schemeMs := 8671000250 }, staleAt := some 86898120 } }).time.base =
      some { localMs := 86898120, schemeMs := 8757400250 } ∧
    schemeFrom { localMs := 86898120, schemeMs := 8757400250 } 90000000 = 8760502130 := by decide +kernel

/-- Table 4-6, CH0 and CH2: mA and mV at the window edges. -/
theorem test_coil_and_supply_edges :
    ([246, 982].map coilMilliamps, [681, 682, 716, 717, 647, 648].map supplyMillivolts) =
      ([601, 2399], [19970, 20000, 20997, 21026, 18973, 19002]) := by decide
/-- Table 4-6, CH1 and CH3: percent and mA at the window edges. -/
theorem test_battery_and_lamp_edges :
    ([650, 626, 663, 860].map chargePercent, [40, 41].map lampMilliamps) = ([14, 4, 20, 100], [19, 20]) := by decide

/-- A view entry of member 40,117 after one notice is taken at the post. -/
def viewAfter (e : ViewEntry) (f : Frame) : List ViewEntry :=
  (after (.frameReceived (lastChar f)) (hears { docked with view := { docked.view with entries := [e] } } f)).view.entries

/-- The entry of Table 6-5 after the HIR. -/
def entry40117 : ViewEntry :=
  { member := 40117, status := .good, plan := 2, allowance := 3, bikesOut := 2, day := 100, spend := 450,
    minSequence := 4, updatedAt := 8663940 }

def stl40117 (fare : Fare) (reason : Reason) (spend day : Nat) : Frame :=
  frame .stl 5 (stlBody
    { member := 40117, bikeId := 77, hireStation := 412, start := 8660000, end_ := 8661000, fare := fare,
      reason := reason, version := 5, newSpend := spend, day := day, ebike := false })

/-- Table 6-5: the HIR and the STLs as the post hears them. -/
theorem test_entry_after_hire :
    viewAfter { entry40117 with bikesOut := 1 } (frame .hir 5 (hirBody 4 40117 77 8660000 2 false false none)) =
      [entry40117] := by decide +kernel
theorem test_entry_after_fare :
    viewAfter entry40117 (stl40117 (.charge 200) .rated 650 100) =
      [{ entry40117 with bikesOut := 1, spend := 650 }] := by decide +kernel
theorem test_entry_keeps_greater_spend :
    viewAfter { entry40117 with bikesOut := 1, spend := 650 } (stl40117 (.charge 150) .rated 600 100) =
      [{ entry40117 with bikesOut := 0, spend := 650 }] := by decide +kernel
theorem test_entry_after_unrated :
    viewAfter { entry40117 with bikesOut := 0, spend := 650 } (stl40117 .unrated .tag 0 0) =
      [{ entry40117 with bikesOut := 0, spend := 650 }] := by decide +kernel

/-- The band tables of Tables 8-7 and 8-9. -/
def morningBands : List Band :=
  [{ start := 0, cls := .c }, { start := 420, cls := .a }, { start := 570, cls := .b }, { start := 1020, cls := .a },
   { start := 1260, cls := .c }]
def midnightBands : List Band :=
  [{ start := 0, cls := .d }, { start := 360, cls := .a }, { start := 570, cls := .b }, { start := 960, cls := .a },
   { start := 1320, cls := .c }]

/-- Plan 2 of Table 8-6. -/
def morningPlan : PlanRecord :=
  { freeMinutes := 30, blockMinutes := 15, rateA := 150, rateB := 100, rateC := 60, rateD := 40, surcharge := 50,
    rideCap := 600, dayCap := 1200, overdueFee := 5000, grace := 120 }

def morningRide : RatingInputs :=
  { start := 8671930, end_ := 8674895, plan := morningPlan, bands := morningBands, version := 7, startSpend := 1000,
    ebike := true, atStartPost := false }

/-- The worked case of the morning ride. -/
theorem test_morning_ride :
    rate morningRide =
      { fare := .charge 200, reason := .rated, version := 7, newSpend := 1200, day := 100, endAt := 8674895 } ∧
    (List.range (blockCount morningRide)).map (blockRate morningRide) = [200, 150] := by decide +kernel
/-- The worked case across midnight. -/
theorem test_midnight_ride :
    rate { start := 8725200, end_ := 8728520
           plan := { freeMinutes := 10, blockMinutes := 20, rateA := 150, rateB := 100, rateC := 80, rateD := 40,
                     surcharge := 0, rideCap := 0, dayCap := 500, overdueFee := 5000, grace := 120 }
           bands := midnightBands, version := 7, startSpend := 420, ebike := false, atStartPost := false } =
      { fare := .charge 80, reason := .rated, version := 7, newSpend := 500, day := 100, endAt := 8728520 } := by
  decide +kernel
/-- The worked case of a clock stepped back, at the start post and at another. -/
theorem test_clock_stepped_back :
    [true, false].map (fun atStart =>
        let r := rate { morningRide with start := 8756400, end_ := 8756350, ebike := false, atStartPost := atStart }
        (r.fare, r.reason)) = [(.charge 0, .grace), (.charge 0, .rated)] := by decide +kernel

/-- Tables 9-3 and 9-4: the entries by class and reporter. -/
def tyre (reporter : Nat) : FaultEntry := fault2 reporter
def otherFault (cls reporter : Nat) : FaultEntry := { cls := cls, level := 1, source := .member, reporter := reporter }
def brakes506 : FaultEntry := { cls := 1, level := 2, source := .crew, reporter := 506 }

theorem test_fifth_report_replaces_the_oldest :
    placeEntry [tyre 501, otherFault 3 503, tyre 501, otherFault 5 504] (tyre 505) =
      some [otherFault 3 503, tyre 501, otherFault 5 504, tyre 505] := by decide
theorem test_two_reporters_escalate :
    [[tyre 501, otherFault 3 503, tyre 501, otherFault 5 504],
      [otherFault 3 503, tyre 501, otherFault 5 504, tyre 505]].map listLevel = [1, 2] := by decide
theorem test_crew_report_replaces_level_one :
    placeEntry [otherFault 3 503, tyre 501, otherFault 5 504, tyre 505] brakes506 =
      some [tyre 501, otherFault 5 504, tyre 505, brakes506] := by decide
/-- The FCL of class 2 leaves e4 and e6. -/
theorem test_fault_clear_leaves_the_others :
    let s := { docked with
      tag := { docked.tag with
        copy := { copy77 with faults := .good [tyre 501, otherFault 5 504, tyre 505, brakes506] } } }
    let f := frame .fcl 0 (be4 77 ++ be1 2)
    (after (.frameReceived (lastChar f)) (hears s f)).workingList = [otherFault 5 504, brakes506] := by decide +kernel

/-! ### The machine -/

theorem test_table_word_spells_no_command : decodeTableWord 0 0 = none := by decide
theorem test_idle_step_is_a_tick : step State.reset = .next State.reset.tick := by rfl
/-- A post released with its bolt reading open starts in CLOSING with a close check (R72). -/
theorem test_reset_with_an_open_bolt :
    (after (.fullReset { role := .post, number := 4, rateHigh := true } true false false) docked).dock.closeCheckAt =
      some 300 := by decide
/-- A post strapped 0 is barred: CLASH is raised from the release (R20). -/
theorem test_reset_of_a_barred_post :
    (after (.fullReset { role := .post, number := 0, rateHigh := false } false false false) docked).fault.raised =
      [.clash] := by decide +kernel

/-! ### Witnesses: states and operands that meet the hypotheses of each statement

`test_witness_<name>` belongs to `Obligations.<name>` or `Claims.<name>`. -/

theorem test_witness_StepRunsFrontCommand :
    ∃ (c : Instr) (rest : List Instr) (s : State), s.pending = c :: rest :=
  ⟨.startBit, [.quiet], { State.reset with pending := [.startBit, .quiet] }, by decide +kernel⟩

theorem test_witness_IdleStepIsOneMicrosecond :
    (∃ (s : State), s.pending = [] ∧ s.clock.us + 1 < 1000) ∧
    (∃ (s : State), s.pending = [] ∧ 1000 ≤ s.clock.us + 1) :=
  ⟨⟨{ docked with clock := { ms := 5, us := 998 } }, by decide +kernel⟩,
   ⟨{ docked with clock := { ms := 5, us := 999 } }, by decide +kernel⟩⟩

theorem test_witness_ConclusionSettlesAndFrames :
    ∃ (s : State), s.settled :=
  ⟨conclude docked, ⟨by decide +kernel, by decide +kernel⟩⟩

theorem test_witness_EvaluationOffersTheCandidate :
    (∃ (s : State) (w : VanWindow), s.van.window = some w ∧ s.van.offer = .none_ ∧ s.isPost = true ∧ s.ownCandidate w
    = true ∧ w.accepted.length < w.places ∧ s.ownRank w + w.accepted.length ≤ w.places ∧ s.refusesOffer .ofr = false ∧
    s.line.queue.length < 8) ∧
    (∃ (s : State) (w : VanWindow), s.van.window = some w ∧ s.van.offer = .none_ ∧ s.isPost = true ∧ s.ownCandidate w
    = true ∧ w.accepted.length < w.places ∧ s.ownRank w + w.accepted.length ≤ w.places ∧ s.refusesOffer .ofr = true) ∧
    (∃ (s : State), (s.van.window = none ∨ s.van.offer ≠ .none_ ∨ s.isPost = false ∨ s.hire.state ≠ .idle ∨
    s.dock.selfTest ≠ none ∨ 1 < s.postLevel ∨ (∃ w, s.van.window = some w ∧ (s.ownCandidate w = false ∨ w.places <
    s.ownRank w + w.accepted.length)))) :=
  ⟨⟨inWindow docked .collect, window7 .collect, by decide +kernel⟩,
   ⟨inWindow { docked with line := { docked.line with clash := true } } .collect, window7 .collect, by decide +kernel⟩,
   ⟨docked, .inl (by decide +kernel)⟩⟩

theorem test_witness_EveryStepSettles :
    ∃ (s t : State), s.settled ∧ step s = .next t :=
  ⟨State.reset, State.reset.tick, ⟨by decide +kernel, by decide +kernel⟩, rfl⟩

theorem test_witness_EveryStepKeepsTheQueue :
    ∃ (s t : State), s.queueSound ∧ step s = .next t :=
  ⟨sending docked (entry .bcn []), (sending docked (entry .bcn [])).tick,
  (by unfold State.queueSound; decide +kernel), rfl⟩

theorem test_witness_EveryStepKeepsTheReferences :
    ∃ (s t : State), s.refsSound ∧ step s = .next t :=
  ⟨sending docked (entry .bcn []), (sending docked (entry .bcn [])).tick, (by unfold State.refsSound; decide +kernel),
  rfl⟩

theorem test_witness_EveryStepKeepsTheView :
    ∃ (s t : State), s.viewSound ∧ step s = .next t :=
  ⟨knowing docked, (knowing docked).tick, (by unfold State.viewSound; decide +kernel), rfl⟩

theorem test_witness_EveryStepKeepsTheClaims :
    ∃ (s t : State), s.claimsSound ∧ step s = .next t :=
  ⟨docked, docked.tick, (by unfold State.claimsSound; decide +kernel), rfl⟩

theorem test_witness_EveryStepKeepsTheBounds :
    ∃ (s t : State), s.storesBounded ∧ step s = .next t :=
  ⟨inWindow docked .collect, (inWindow docked .collect).tick, (by unfold State.storesBounded; decide +kernel), rfl⟩

theorem test_witness_EveryStepKeepsTheCoilSafe :
    ∃ (s t : State), s.coilSafe ∧ step s = .next t :=
  ⟨{ docked with dock := { docked.dock with bolt := .held, coil := .hold } }, State.tick
  { docked with dock := { docked.dock with bolt := .held, coil := .hold } },
  (by unfold State.coilSafe; decide +kernel), rfl⟩

theorem test_witness_EveryStepKeepsTheHold :
    ∃ (s t : State), s.holdSafe ∧ step s = .next t :=
  ⟨{ docked with van := { docked.van with window := some (window7 .collect), offer := .accepted, hold := true } },
  State.tick
  { docked with van := { docked.van with window := some (window7 .collect), offer := .accepted, hold := true } },
  (by unfold State.holdSafe; decide +kernel), rfl⟩

theorem test_witness_EveryStepKeepsSilence :
    ∃ (s t : State), s.silentSafe ∧ step s = .next t :=
  ⟨monitor, monitor.tick, (by unfold State.silentSafe; decide +kernel), rfl⟩

theorem test_witness_EveryStepKeepsTheAttempt :
    ∃ (s t : State), s.attemptSound ∧ step s = .next t :=
  ⟨sending docked (entry .bcn []), (sending docked (entry .bcn [])).tick,
  (by unfold State.attemptSound; decide +kernel), rfl⟩

theorem test_witness_EveryStepKeepsTheTimebase :
    ∃ (s t : State), s.timeSound ∧ step s = .next t :=
  ⟨docked, docked.tick, (by unfold State.timeSound; decide +kernel), rfl⟩

theorem test_witness_EveryStepKeepsTheHireRecord :
    ∃ (s t : State), s.hireSound ∧ step s = .next t :=
  ⟨hiring docked .claiming hire55, (hiring docked .claiming hire55).tick, (by unfold State.hireSound; decide +kernel),
  rfl⟩

theorem test_witness_EveryStepKeepsTheRole :
    ∃ (s t : State), s.roleSound ∧ step s = .next t :=
  ⟨term, term.tick, (by unfold State.roleSound; decide +kernel), rfl⟩

theorem test_witness_QuietStartsTheAccessWait :
    ∃ (s : State), s.line.tx = none ∧ s.line.charEndsAt = none ∧ s.line.quiet = none :=
  ⟨queueing docked (entry .hir []), by decide +kernel⟩

theorem test_witness_AccessWaitExpirySendsTheHead :
    ∃ (s : State) (q : QuietSpan) (bits : Nat) (e : TxEntry) (rest : List TxEntry), s.line.quiet = some q ∧
    s.line.wait = some bits ∧ s.line.queue = e :: rest :=
  ⟨{ queueing docked (entry .hir []) with line := { (queueing docked (entry .hir [])).line with quiet := some { start := docked.clock, lastSender := 4 }, wait := some 132 } },
  { start := docked.clock, lastSender := 4 }, 132, entry .hir [], [], by decide +kernel⟩

theorem test_witness_SentIntactCountsTheFrame :
    ∃ (s : State) (x : Transmission) (e : TxEntry), s.line.tx = some x ∧ s.line.txEntry = some e ∧
    s.peers.entries.length = 32 :=
  ⟨sending docked (entry .hir []), attempt docked (entry .hir []), entry .hir [], by decide +kernel⟩

theorem test_witness_SentIntactOfAnUnheardFrame :
    (∃ (s : State) (x : Transmission) (e : TxEntry), s.line.tx = some x ∧ s.line.txEntry = some e ∧ s.line.rx = none ∧
    (s.straps.role = .post ∧ e.kind ∈ [.flt, .lkp, .vtk, .bcn] ∨ s.straps.role = .terminal ∧ e.kind ∈ [.fcl, .mbr,
    .tim, .trf, .bcn] ∨ s.straps.role = .van ∧ e.kind = .bcn) ∧ (e.kind ≠ .bcn ∨ s.line.heldBeacon = none)) ∧
    (∃ (s : State) (x : Transmission) (e : TxEntry) (body : List Byte), s.line.tx = some x ∧ s.line.txEntry = some e ∧
    s.line.rx = none ∧ (s.straps.role = .post ∧ e.kind ∈ [.flt, .lkp, .vtk, .bcn] ∨ s.straps.role = .terminal ∧ e.kind
    ∈ [.fcl, .mbr, .tim, .trf, .bcn] ∨ s.straps.role = .van ∧ e.kind = .bcn) ∧ e.kind = .bcn ∧ s.line.heldBeacon =
    some body) :=
  ⟨⟨sending docked (entry .flt []), attempt docked (entry .flt []), entry .flt [], by decide +kernel⟩,
   ⟨{ sending van (entry .bcn []) with line := { (sending van (entry .bcn [])).line with heldBeacon := some [1] } },
   attempt van (entry .bcn []), entry .bcn [], [1], by decide +kernel⟩⟩

theorem test_witness_SentClaimOpensItsWindow :
    ∃ (s : State) (x : Transmission) (e : TxEntry) (h : HireRecord) (allowance : Nat), s.straps.role = .post ∧
    s.line.tx = some x ∧ s.line.txEntry = some e ∧ e.kind = .clm ∧ s.line.rx = none ∧ s.hire.state = .claiming ∧
    s.hire.record = some h ∧ h.clmRef = some e.ref ∧ h.claim = none ∧ e.body = be4 h.card.member ++ be1 allowance ∧ 1
    ≤ allowance ∧ allowance ≤ 4 ∧ 0 < h.card.member ∧ h.card.member < 2 ^ 32 ∧ s.hire.claims.length < 16 ∧ (∀ c ∈
    s.hire.claims, ¬ (c.claimant = s.number ∧ c.serial = s.line.serial)) :=
  ⟨hiring (sending docked (entry .clm (be4 55 ++ be1 4))) .claiming { hire55 with clmRef := some 3 }, attempt docked
  (entry .clm (be4 55 ++ be1 4)), entry .clm (be4 55 ++ be1 4), { hire55 with clmRef := some 3 }, 4, by
  decide +kernel⟩

theorem test_witness_EchoCheckFailContends :
    (∃ (bit : Nat) (s : State) (x : Transmission) (e : TxEntry), s.line.tx = some x ∧ s.line.txEntry = some e ∧
    s.line.rx = none ∧ bit < x.bytes.length * 11 ∧ (msReached e.deadline (s.reachInstant (x.start.plusUs ((bit + 1) *
    s.bitUs))).clock.ms || (s.line.clash && decide (e.kind.cls = 0)) : Bool) = false ∧ (e.kind ≠ .bcn ∨
    s.line.heldBeacon = none)) ∧
    (∃ (bit : Nat) (s : State) (x : Transmission) (e : TxEntry) (body : List Byte), s.line.tx = some x ∧
    s.line.txEntry = some e ∧ s.line.rx = none ∧ bit < x.bytes.length * 11 ∧ (msReached e.deadline (s.reachInstant
    (x.start.plusUs ((bit + 1) * s.bitUs))).clock.ms || (s.line.clash && decide (e.kind.cls = 0)) : Bool) = false ∧
    e.kind = .bcn ∧ s.line.heldBeacon = some body) ∧
    (∃ (bit : Nat) (s : State) (x : Transmission) (e : TxEntry), s.line.tx = some x ∧ s.line.txEntry = some e ∧
    s.line.rx = none ∧ bit < x.bytes.length * 11 ∧ (msReached e.deadline (s.reachInstant (x.start.plusUs ((bit + 1) *
    s.bitUs))).clock.ms || (s.line.clash && decide (e.kind.cls = 0)) : Bool) = true ∧ e.kind ∉ [.clm, .ofr, .bcn]) :=
  ⟨⟨87, sending docked (entry .clm [1, 2]), attempt docked (entry .clm [1, 2]), entry .clm [1, 2], by decide +kernel⟩,
   ⟨1,
   { sending docked (entry .bcn []) with line := { (sending docked (entry .bcn [])).line with heldBeacon := some [1] } },
   attempt docked (entry .bcn []), entry .bcn [], [1], by decide +kernel⟩,
   ⟨1, { sending docked (entry .hir []) with clock := { ms := 1004000, us := 0 } }, attempt docked (entry .hir []),
   entry .hir [], by decide +kernel⟩⟩

theorem test_witness_DeadlineExpiryRemovesTheEntry :
    (∃ (s : State) (e : TxEntry), earliestDeadline s.deadlinesRunning = some e ∧ s.line.inTransmission e = true) ∧
    (∃ (s : State) (e : TxEntry), earliestDeadline s.deadlinesRunning = some e ∧ s.line.inTransmission e = false ∧
    e.kind ∉ [.clm, .ofr]) ∧
    (∃ (s : State) (e : TxEntry), earliestDeadline s.deadlinesRunning = some e ∧ s.line.inTransmission e = false ∧
    e.kind = .clm ∧ s.awaitsClm e.ref = true) ∧
    (∃ (s : State) (e : TxEntry), earliestDeadline s.deadlinesRunning = some e ∧ s.line.inTransmission e = false ∧
    e.kind = .ofr ∧ s.van.offer = .queued ∧ s.van.offerRef = e.ref) :=
  ⟨⟨sending docked (entry .hir []), entry .hir [], by decide +kernel⟩,
   ⟨queueing docked (entry .hir []), entry .hir [], by decide +kernel⟩,
   ⟨hiring (queueing docked (entry .clm [])) .claiming { hire55 with clmRef := some 3 }, entry .clm [], by
   decide +kernel⟩,
   ⟨{ queueing docked (entry .ofr []) with van := { docked.van with offer := .queued, offerRef := 3 } }, entry .ofr
   [], by decide +kernel⟩⟩

theorem test_witness_FullQueueDisplaces :
    (∃ (kind : Kind) (s : State) (before : List TxEntry) (e : TxEntry) (after : List TxEntry), s.refusesOffer kind =
    false ∧ kind ≠ .bcn ∧ s.line.queue.length = 8 ∧ s.line.queue.Pairwise (fun a b => a.kind.cls ≤ b.kind.cls) ∧
    s.line.queue = before ++ e :: after ∧ s.line.inTransmission e = false ∧ kind.cls < e.kind.cls ∧ (∀ x ∈ after,
    s.line.inTransmission x = true)) ∧
    (∃ (kind : Kind) (s : State), s.refusesOffer kind = false ∧ kind ≠ .bcn ∧ s.line.queue.length = 8 ∧
    s.line.queue.Pairwise (fun a b => a.kind.cls ≤ b.kind.cls) ∧ (∀ e ∈ s.line.queue, s.line.inTransmission e = true ∨
    e.kind.cls ≤ kind.cls)) :=
  ⟨⟨.clm, withQueue docked eightFrames, eightFrames.take 7, { entry .lkp [] with ref := 7 }, [], by decide +kernel⟩,
   ⟨.lkp, withQueue docked eightFrames, by decide +kernel⟩⟩

theorem test_witness_StuckLineStopsSending :
    (∃ (s : State), s.line.stuck = false ∧ s.line.charEndsAt = none ∧ s.sends = true) ∧
    (∃ (s : State), s.settled ∧ s.line.stuck = false ∧ s.line.charEndsAt = none ∧ s.sends = false) :=
  ⟨⟨sending docked (entry .hir []), by decide +kernel⟩,
   ⟨monitor, ⟨by decide +kernel, by decide +kernel⟩, by decide +kernel⟩⟩

theorem test_witness_LineClearClearsTheFault :
    ∃ (s : State) (due : Ms), s.line.lineRaised = true ∧ s.line.stuck = false ∧ s.line.lineClearAt = some due :=
  ⟨{ docked with line := { docked.line with lineRaised := true, lineClearAt := some 1000001 } }, 1000001, by
  decide +kernel⟩

theorem test_witness_StartBitEndsQuiet :
    ∃ (s : State), s.line.tx = none ∧ s.line.charEndsAt = none :=
  ⟨docked, by decide +kernel⟩

theorem test_witness_LineCharacterIsCollected :
    (∃ (c : LineChar) (s : State), s.line.tx = none ∧ c.stopGood = true ∧ c.mark = true ∧ s.line.rx = none) ∧
    (∃ (c : LineChar) (s : State), s.line.tx = none ∧ (c.mark = false ∨ c.stopGood = false) ∧ s.line.rx = none) ∧
    (∃ (c : LineChar) (s : State) (bytes : List Byte), s.line.tx = none ∧ c.stopGood = true ∧ c.mark = false ∧
    s.line.rx = some bytes ∧ (bytes.length < 3 ∨ bytes.length = 3 ∧ c.data.toNat ≤ 48 ∨ 4 ≤ bytes.length ∧ fieldAt
    bytes 3 1 ≤ 48 ∧ bytes.length + 1 < 6 + fieldAt bytes 3 1)) :=
  ⟨⟨{ data := 1, mark := true, stopGood := true }, docked, by decide +kernel⟩,
   ⟨{ data := 1, mark := false, stopGood := true }, docked, by decide +kernel⟩,
   ⟨{ data := 48, mark := false, stopGood := true },
   { docked with line := { docked.line with rx := some [1, 2, 3] } }, [1, 2, 3], by decide +kernel⟩⟩

theorem test_witness_BadFramesAreRecorded :
    (∃ (c : LineChar) (bytes : List Byte) (s : State), s.line.tx = none ∧ s.line.rx = some bytes ∧ s.sends = true ∧
    endsFrame bytes c = true ∧ frameOf (bytes ++ [c.data]) = none) ∧
    (∃ (c : LineChar) (bytes : List Byte) (s : State), s.line.tx = none ∧ s.line.rx = some bytes ∧ s.sends = true ∧
    abandonsFrame bytes c = true) ∧
    (∃ (bytes : List Byte) (s : State) (i : Instant), s.line.tx = none ∧ s.line.rx = some bytes ∧ s.sends = true ∧
    s.line.rxCharEnd = some i ∧ s.line.charEndsAt = none) :=
  ⟨⟨{ data := 1, mark := false, stopGood := true }, [1, 2, 3, 0, 0],
   { docked with line := { docked.line with rx := some [1, 2, 3, 0, 0] } }, by decide +kernel⟩,
   ⟨{ data := 49, mark := false, stopGood := true }, [1, 2, 3],
   { docked with line := { docked.line with rx := some [1, 2, 3] } }, by decide +kernel⟩,
   ⟨[1], { docked with line := { docked.line with rx := some [1], rxCharEnd := some docked.clock } }, docked.clock, by
   decide +kernel⟩⟩

theorem test_witness_OwnFirstCharacterAbandons :
    (∃ (c : LineChar) (bytes : List Byte) (s : State) (x : Transmission), s.line.tx = some x ∧ s.line.rx = some bytes
    ∧ s.sends = true ∧ c.stopGood = true ∧ c.mark = true ∧ x.bytes.head? = some c.data) ∧
    (∃ (bytes : List Byte) (s : State) (x : Transmission) (e : TxEntry), s.attemptSound ∧ s.line.tx = some x ∧
    s.line.rx = some bytes ∧ s.sends = true ∧ s.line.txEntry = some e ∧ s.straps.role = .terminal ∧ e.kind = .fcl) :=
  ⟨⟨{ data := (attempt docked (entry .clm [])).bytes.headD 0, mark := true, stopGood := true }, [1, 2],
   { sending docked (entry .clm []) with line := { (sending docked (entry .clm [])).line with rx := some [1, 2] } },
   attempt docked (entry .clm []), by decide +kernel⟩,
   ⟨[1, 2],
   { sending term (entry .fcl []) with line := { (sending term (entry .fcl [])).line with rx := some [1, 2] } },
   attempt term (entry .fcl []), entry .fcl [], (by unfold State.attemptSound; decide +kernel), by decide +kernel⟩⟩

theorem test_witness_FrameFromAPeerIsHeard :
    ∃ (c : LineChar) (f : Frame) (s : State), s.takes c f ∧ s.peers.entries.length = 32 :=
  ⟨lastChar (frame .hir 3 (hirBody 4 55 77 5 2 false false none)), frame .hir 3 (hirBody 4 55 77 5 2 false false
  none), hears (docked) (frame .hir 3 (hirBody 4 55 77 5 2 false false none)), ⟨_, ⟨rfl, rfl, by decide +kernel⟩, by
  decide +kernel, by decide +kernel⟩, by decide +kernel⟩

theorem test_witness_OwnNumberHeardIsAClash :
    ∃ (c : LineChar) (f : Frame) (bytes : List Byte) (s : State), s.ending bytes c ∧ frameOf (bytes ++ [c.data]) =
    some f ∧ s.sends = true ∧ f.sender = s.number :=
  ⟨lastChar (frame .clm 1 (be4 55 ++ be1 2)), frame .clm 1 (be4 55 ++ be1 2), (bytesOf (frame .clm 1 (be4 55 ++ be1
  2))).dropLast, hears docked (frame .clm 1 (be4 55 ++ be1 2)), ⟨rfl, rfl, by decide +kernel⟩, by decide +kernel⟩

theorem test_witness_TerminalBeaconGivesTheStationId :
    (∃ (c : LineChar) (f : Frame) (s : State), s.takes c f ∧ f.kind = .bcn ∧ f.sender = 0 ∧ s.straps.role ≠ .terminal
    ∧ fieldAt f.body 0 1 = 1 ∧ fieldAt f.body 17 2 ≠ 0 ∧ s.peers.adoptedId = 0) ∧
    (∃ (c : LineChar) (f : Frame) (s : State), s.takes c f ∧ f.kind = .bcn ∧ f.sender = 0 ∧ s.straps.role ≠ .terminal
    ∧ fieldAt f.body 0 1 = 1 ∧ fieldAt f.body 17 2 ≠ 0 ∧ s.peers.adoptedId ≠ 0 ∧ s.peers.adoptedId ≠ fieldAt f.body 17
    2) :=
  ⟨⟨lastChar (frame .bcn 0 (bcnBody { term.ownBeacon with stationId := 412 })), frame .bcn 0 (bcnBody
   { term.ownBeacon with stationId := 412 }), hears ({ docked with peers := { docked.peers with adoptedId := 0 } })
   (frame .bcn 0 (bcnBody { term.ownBeacon with stationId := 412 })), ⟨_, ⟨rfl, rfl, by decide +kernel⟩, by
   decide +kernel, by decide +kernel⟩, by decide +kernel⟩,
   ⟨lastChar (frame .bcn 0 (bcnBody { term.ownBeacon with stationId := 413 })), frame .bcn 0 (bcnBody
   { term.ownBeacon with stationId := 413 }), hears (docked) (frame .bcn 0 (bcnBody
   { term.ownBeacon with stationId := 413 })), ⟨_, ⟨rfl, rfl, by decide +kernel⟩, by decide +kernel, by
   decide +kernel⟩, by decide +kernel⟩⟩

theorem test_witness_ClaimHeardEntersTheList :
    (∃ (c : LineChar) (f : Frame) (s : State), s.takes c f ∧ s.straps.role = .post ∧ f.kind = .clm ∧ ((fieldAt f.body
    0 4) = 0 ∨ (fieldAt f.body 4 1) = 0 ∨ 4 < (fieldAt f.body 4 1))) ∧
    (∃ (c : LineChar) (f : Frame) (s : State), s.takes c f ∧ s.straps.role = .post ∧ f.kind = .clm ∧ (fieldAt f.body 0
    4) ≠ 0 ∧ 1 ≤ (fieldAt f.body 4 1) ∧ (fieldAt f.body 4 1) ≤ 4 ∧ s.hire.claims.length ≤ 16) :=
  ⟨⟨lastChar (frame .clm 3 (be4 55 ++ be1 5)), frame .clm 3 (be4 55 ++ be1 5), hears (docked) (frame .clm 3 (be4 55 ++
   be1 5)), ⟨_, ⟨rfl, rfl, by decide +kernel⟩, by decide +kernel, by decide +kernel⟩, by decide +kernel⟩,
   ⟨lastChar (frame .clm 3 (be4 55 ++ be1 4)), frame .clm 3 (be4 55 ++ be1 4), hears (docked) (frame .clm 3 (be4 55 ++
   be1 4)), ⟨_, ⟨rfl, rfl, by decide +kernel⟩, by decide +kernel, by decide +kernel⟩, by decide +kernel⟩⟩

theorem test_witness_WithdrawalOrHireRemovesTheClaim :
    (∃ (c : LineChar) (f : Frame) (s : State), s.takes c f ∧ s.straps.role = .post ∧ f.kind = .wdr) ∧
    (∃ (c : LineChar) (f : Frame) (s : State), s.takes c f ∧ s.straps.role = .post ∧ f.kind = .hir) :=
  ⟨⟨lastChar (frame .wdr 3 (be1 4 ++ be4 55)), frame .wdr 3 (be1 4 ++ be4 55), hears (docked) (frame .wdr 3 (be1 4 ++
   be4 55)), ⟨_, ⟨rfl, rfl, by decide +kernel⟩, by decide +kernel, by decide +kernel⟩, by decide +kernel⟩,
   ⟨lastChar (frame .hir 3 (hirBody 4 55 77 5 2 false false none)), frame .hir 3 (hirBody 4 55 77 5 2 false false
   none), hears (knowing docked) (frame .hir 3 (hirBody 4 55 77 5 2 false false none)), ⟨_, ⟨rfl, rfl, by
   decide +kernel⟩, by decide +kernel, by decide +kernel⟩, by decide +kernel⟩⟩

theorem test_witness_SettlementHeardUpdatesTheView :
    ∃ (c : LineChar) (f : Frame) (s : State), s.takes c f ∧ (s.straps.role = .post ∨ s.straps.role = .terminal) ∧
    f.kind = .stl :=
  ⟨lastChar (frame .stl 3 (stlBody (stlValues ride55 (rate rating55)))), frame .stl 3 (stlBody (stlValues ride55 (rate
  rating55))), hears (knowing docked) (frame .stl 3 (stlBody (stlValues ride55 (rate rating55)))), ⟨_, ⟨rfl, rfl, by
  decide +kernel⟩, by decide +kernel, by decide +kernel⟩, by decide +kernel⟩

theorem test_witness_MemberNoticeReplacesTheEntry :
    (∃ (c : LineChar) (f : Frame) (s : State) (e : ViewEntry), s.takes c f ∧ (∀ l, s.view.lookup = some l →
    l.card.member ≠ e.member) ∧ s.straps.role = .post ∧ f.kind = .mbr ∧ f.sender = 0 ∧ mbrOf f.body = some e ∧
    s.view.entries.length ≤ 256) ∧
    (∃ (c : LineChar) (f : Frame) (s : State), s.takes c f ∧ s.straps.role = .post ∧ f.kind = .mbr ∧ (f.sender ≠ 0 ∨
    mbrOf f.body = none)) :=
  ⟨⟨lastChar (frame .mbr 0 (mbrBody entry55)), frame .mbr 0 (mbrBody entry55), hears (docked) (frame .mbr 0 (mbrBody
   entry55)), entry55, ⟨_, ⟨rfl, rfl, by decide +kernel⟩, by decide +kernel, by decide +kernel⟩, (by
   intro _ h; cases h), by decide +kernel⟩,
   ⟨lastChar (frame .mbr 3 (mbrBody entry55)), frame .mbr 3 (mbrBody entry55), hears (docked) (frame .mbr 3 (mbrBody
   entry55)), ⟨_, ⟨rfl, rfl, by decide +kernel⟩, by decide +kernel, by decide +kernel⟩, by decide +kernel⟩⟩

theorem test_witness_MemberNoticeAnswersTheLookup :
    ∃ (c : LineChar) (f : Frame) (e : ViewEntry) (l : Lookup) (h : HireRecord) (s : State), s.takes c f ∧
    s.straps.role = .post ∧ f.kind = .mbr ∧ f.sender = 0 ∧ mbrOf f.body = some e ∧ s.view.lookup = some l ∧
    l.card.member = e.member ∧ s.hire.state = .lookup ∧ s.hire.record = some h ∧ h.card = l.card ∧ (s.storedPeer
    0).state = .live ∧ s.line.queue = [] ∧ s.barred = false ∧ s.line.clash = false ∧ s.timeUnset = false ∧
    s.peers.adoptedId ≠ 0 ∧ s.dock.docked = true ∧ s.tagCondition = true ∧ s.bikeLevel < 2 ∧ s.van.hold = false ∧
    s.postLevel < 2 ∧ ((s.characterEnds c).today) ≤ l.card.expiryDay ∧ e.minSequence ≤ l.card.sequence ∧ e.status =
    .good ∧ e.bikesOut < e.allowance :=
  ⟨lastChar (frame .mbr 0 (mbrBody entry55)), frame .mbr 0 (mbrBody entry55), entry55,
  { card := card55, expiresAt := 1001000, lkpRef := none }, HireRecord.ofCard .member card55, hears
  ({ hiring docked .lookup (HireRecord.ofCard .member card55) with view := { docked.view with lookup := some { card := card55, expiresAt := 1001000, lkpRef := none } } })
  (frame .mbr 0 (mbrBody entry55)), ⟨_, ⟨rfl, rfl, by decide +kernel⟩, by decide +kernel, by decide +kernel⟩, by
  decide +kernel⟩

theorem test_witness_WindowNoticeOpensTheWindow :
    (∃ (c : LineChar) (f : Frame) (s : State) (v : VopValues), s.takes c f ∧ (∀ w, s.van.window = some w → w.serial ≠
    v.serial) ∧ s.straps.role = .post ∧ f.kind = .vop ∧ f.sender = 31 ∧ vopOf f.body = some v ∧ (s.van.window = none →
    s.van.hold = false ∧ s.van.target = false)) ∧
    (∃ (c : LineChar) (f : Frame) (s : State), s.takes c f ∧ (f.sender ≠ 31 ∨ vopOf f.body = none ∨ (∃ v w, vopOf
    f.body = some v ∧ s.van.window = some w ∧ w.serial = v.serial)) ∧ s.straps.role = .post ∧ f.kind = .vop) :=
  ⟨⟨lastChar (frame .vop 31 (vopBody { vop7 with serial := 8 })), frame .vop 31 (vopBody { vop7 with serial := 8 }),
   hears (inWindow docked .deliver) (frame .vop 31 (vopBody { vop7 with serial := 8 })), { vop7 with serial := 8 },
   ⟨_, ⟨rfl, rfl, by decide +kernel⟩, by decide +kernel, by decide +kernel⟩, (by intro _ h; cases h; decide +kernel),
   by decide +kernel⟩,
   ⟨lastChar (frame .vop 3 (vopBody vop7)), frame .vop 3 (vopBody vop7), hears (docked) (frame .vop 3 (vopBody vop7)),
   ⟨_, ⟨rfl, rfl, by decide +kernel⟩, by decide +kernel, by decide +kernel⟩, .inl (by decide +kernel), by
   decide +kernel⟩⟩

theorem test_witness_WindowCloses :
    (∃ (s : State) (w : VanWindow) (c : LineChar) (f : Frame), s.takes c f ∧ s.straps.role = .post ∧ s.van.window =
    some w ∧ f.kind = .vcl ∧ f.sender = 31 ∧ fieldAt f.body 0 1 = w.serial) ∧
    (∃ (s : State) (w : VanWindow) (c : LineChar) (f : Frame), s.takes c f ∧ s.straps.role = .post ∧ s.van.window =
    some w ∧ f.kind = .vcl ∧ (f.sender ≠ 31 ∨ fieldAt f.body 0 1 ≠ w.serial)) ∧
    (∃ (s : State) (w : VanWindow), s.straps.role = .post ∧ s.van.window = some w) ∧
    (∃ (s : State) (w : VanWindow) (due : Ms), s.straps.role = .post ∧ s.van.window = some w ∧ (s.storedPeer 31).state
    = .live ∧ (s.storedPeer 31).silenceAt = some due ∧ s.number ≠ 31 ∧ s.peers.entries.length = 32) :=
  ⟨⟨hears (inWindow docked .collect) (frame .vcl 31 (be1 7)), window7 .collect, lastChar (frame .vcl 31 (be1 7)),
   frame .vcl 31 (be1 7), ⟨_, ⟨rfl, rfl, by decide +kernel⟩, by decide +kernel, by decide +kernel⟩, by decide +kernel⟩,
   ⟨hears (inWindow docked .collect) (frame .vcl 31 (be1 8)), window7 .collect, lastChar (frame .vcl 31 (be1 8)),
   frame .vcl 31 (be1 8), ⟨_, ⟨rfl, rfl, by decide +kernel⟩, by decide +kernel, by decide +kernel⟩, by decide +kernel⟩,
   ⟨inWindow docked .collect, window7 .collect, by decide +kernel⟩,
   ⟨inWindow docked .collect, window7 .collect, 1005000, by decide +kernel⟩⟩

theorem test_witness_VanKeepsItsWindow :
    (∃ (s : State) (x : Transmission) (e : TxEntry) (v : VopValues), (∀ w, s.van.window = some w → w.serial ≠
    v.serial) ∧ s.straps.role = .van ∧ s.port.events.length < 64 ∧ s.line.tx = some x ∧ s.line.txEntry = some e ∧
    s.line.rx = none ∧ e.kind = .vop ∧ vopOf e.body = some v) ∧
    (∃ (s : State) (x : Transmission) (e : TxEntry) (v : VopValues) (w : VanWindow), s.straps.role = .van ∧
    s.port.events.length < 64 ∧ s.line.tx = some x ∧ s.line.txEntry = some e ∧ s.line.rx = none ∧ e.kind = .vop ∧
    vopOf e.body = some v ∧ s.van.window = some w ∧ w.serial = v.serial) ∧
    (∃ (s : State) (x : Transmission) (e : TxEntry) (w : VanWindow), s.straps.role = .van ∧ s.port.events.length < 64
    ∧ s.line.tx = some x ∧ s.line.txEntry = some e ∧ s.line.rx = none ∧ e.kind = .vcl ∧ s.van.window = some w ∧
    fieldAt e.body 0 1 = w.serial) ∧
    (∃ (s : State) (x : Transmission) (e : TxEntry), (∀ w, s.van.window = some w → fieldAt e.body 0 1 ≠ w.serial) ∧
    s.straps.role = .van ∧ s.port.events.length < 64 ∧ s.line.tx = some x ∧ s.line.txEntry = some e ∧ s.line.rx = none
    ∧ e.kind = .vcl) ∧
    (∃ (s : State) (w : VanWindow), s.straps.role = .van ∧ s.port.events.length < 64 ∧ s.van.window = some w) :=
  ⟨⟨sending (inWindow van .collect) (entry .vop (vopBody { vop7 with serial := 8 })), attempt van (entry .vop (vopBody
   { vop7 with serial := 8 })), entry .vop (vopBody { vop7 with serial := 8 }), { vop7 with serial := 8 }, (by
   intro _ h; cases h; decide +kernel), by decide +kernel⟩,
   ⟨sending (inWindow van .collect) (entry .vop (vopBody vop7)), attempt van (entry .vop (vopBody vop7)), entry .vop
   (vopBody vop7), vop7, window7 .collect, by decide +kernel⟩,
   ⟨sending (inWindow van .collect) (entry .vcl (be1 7)), attempt van (entry .vcl (be1 7)), entry .vcl (be1 7),
   window7 .collect, by decide +kernel⟩,
   ⟨sending (inWindow van .collect) (entry .vcl (be1 8)), attempt van (entry .vcl (be1 8)), entry .vcl (be1 8), (by
   intro _ h; cases h; decide +kernel), by decide +kernel⟩,
   ⟨inWindow van .collect, window7 .collect, by decide +kernel⟩⟩

theorem test_witness_OfferHeardJoinsTheList :
    (∃ (c : LineChar) (f : Frame) (s : State) (w : VanWindow), s.takes c f ∧ f.kind = .ofr ∧ (s.straps.role = .post ∨
    s.straps.role = .van) ∧ s.van.window = some w ∧ fieldAt f.body 0 1 = w.serial ∧ 1 ≤ f.sender ∧ f.sender ≤ 30 ∧
    (w.mode = .deliver → fieldAt f.body 1 4 = 0) ∧ w.accepts f.sender = false ∧ w.accepted.length < w.places) ∧
    (∃ (c : LineChar) (f : Frame) (s : State) (w : VanWindow), s.takes c f ∧ f.kind = .ofr ∧ (s.straps.role = .post ∨
    s.straps.role = .van) ∧ s.van.window = some w ∧ (fieldAt f.body 0 1 ≠ w.serial ∨ f.sender = 0 ∨ f.sender = 31 ∨
    (w.mode = .deliver ∧ fieldAt f.body 1 4 ≠ 0) ∨ w.accepts f.sender = true ∨ w.places ≤ w.accepted.length)) :=
  ⟨⟨lastChar (frame .ofr 30 (be1 7 ++ be4 78 ++ be1 1)), frame .ofr 30 (be1 7 ++ be4 78 ++ be1 1), hears (inWindow
   docked .collect) (frame .ofr 30 (be1 7 ++ be4 78 ++ be1 1)), window7 .collect, ⟨_, ⟨rfl, rfl, by decide +kernel⟩,
   by decide +kernel, by decide +kernel⟩, by decide +kernel⟩,
   ⟨lastChar (frame .ofr 3 (be1 7 ++ be4 78 ++ be1 1)), frame .ofr 3 (be1 7 ++ be4 78 ++ be1 1), hears
   ({ docked with van := { docked.van with window := some (fullWindow .collect) } }) (frame .ofr 3 (be1 7 ++ be4 78 ++
   be1 1)), fullWindow .collect, ⟨_, ⟨rfl, rfl, by decide +kernel⟩, by decide +kernel, by decide +kernel⟩, by
   decide +kernel⟩⟩

theorem test_witness_OfferIsAppliedBeforeThePeerChange :
    (∃ (c : LineChar) (f : Frame) (s : State) (w : VanWindow), s.takes c f ∧ f.kind = .ofr ∧ s.straps.role = .post ∧
    s.van.window = some w ∧ s.van.offer = .none_ ∧ fieldAt f.body 0 1 = w.serial ∧ 1 ≤ f.sender ∧ f.sender ≤ 30 ∧
    (w.mode = .deliver → fieldAt f.body 1 4 = 0) ∧ w.accepts f.sender = false ∧ w.accepted.length < w.places ∧
    w.accepted.length + 1 = w.places) ∧
    (∃ (c : LineChar) (f : Frame) (s : State) (w : VanWindow), s.takes c f ∧ f.kind = .ofr ∧ s.straps.role = .post ∧
    s.van.window = some w ∧ s.van.offer = .none_ ∧ fieldAt f.body 0 1 = w.serial ∧ 1 ≤ f.sender ∧ f.sender ≤ 30 ∧
    (w.mode = .deliver → fieldAt f.body 1 4 = 0) ∧ w.accepts f.sender = false ∧ w.accepted.length < w.places ∧
    w.accepted.length + 1 < w.places ∧ ((s.setPeer f.sender
    { state := .live, beacon := (s.storedPeer f.sender).beacon, heard := some (s.heardAt c), silenceAt := some (s.heardAt c + 6000) }
    : State).ownCandidate
    ({ w with accepted := w.accepted ++ [{ station := f.sender, bikeId := fieldAt f.body 1 4, rank := fieldAt f.body 5 1, heard := s.heardAt c }] }
    : VanWindow) = true ∧ (s.setPeer f.sender
    { state := .live, beacon := (s.storedPeer f.sender).beacon, heard := some (s.heardAt c), silenceAt := some (s.heardAt c + 6000) }
    : State).ownRank
    ({ w with accepted := w.accepted ++ [{ station := f.sender, bikeId := fieldAt f.body 1 4, rank := fieldAt f.body 5 1, heard := s.heardAt c }] }
    : VanWindow) +
    ({ w with accepted := w.accepted ++ [{ station := f.sender, bikeId := fieldAt f.body 1 4, rank := fieldAt f.body 5 1, heard := s.heardAt c }] }
    : VanWindow).accepted.length ≤ w.places : Prop) ∧ s.refusesOffer .ofr = false ∧ s.line.queue.length < 8 ∧ (∀ e ∈
    s.line.queue, e.ref < s.line.nextRef)) ∧
    (∃ (c : LineChar) (f : Frame) (s : State) (w : VanWindow), s.takes c f ∧ f.kind = .ofr ∧ s.straps.role = .post ∧
    s.van.window = some w ∧ s.van.offer = .none_ ∧ fieldAt f.body 0 1 = w.serial ∧ 1 ≤ f.sender ∧ f.sender ≤ 30 ∧
    (w.mode = .deliver → fieldAt f.body 1 4 = 0) ∧ w.accepts f.sender = false ∧ w.accepted.length < w.places ∧
    w.accepted.length + 1 < w.places ∧ (¬ ((s.setPeer f.sender
    { state := .live, beacon := (s.storedPeer f.sender).beacon, heard := some (s.heardAt c), silenceAt := some (s.heardAt c + 6000) }
    : State).ownCandidate
    ({ w with accepted := w.accepted ++ [{ station := f.sender, bikeId := fieldAt f.body 1 4, rank := fieldAt f.body 5 1, heard := s.heardAt c }] }
    : VanWindow) = true ∧ (s.setPeer f.sender
    { state := .live, beacon := (s.storedPeer f.sender).beacon, heard := some (s.heardAt c), silenceAt := some (s.heardAt c + 6000) }
    : State).ownRank
    ({ w with accepted := w.accepted ++ [{ station := f.sender, bikeId := fieldAt f.body 1 4, rank := fieldAt f.body 5 1, heard := s.heardAt c }] }
    : VanWindow) +
    ({ w with accepted := w.accepted ++ [{ station := f.sender, bikeId := fieldAt f.body 1 4, rank := fieldAt f.body 5 1, heard := s.heardAt c }] }
    : VanWindow).accepted.length ≤ w.places : Prop)) ∧ ((s.setPeer f.sender
    { state := .live, beacon := (s.storedPeer f.sender).beacon, heard := some (s.heardAt c), silenceAt := some (s.heardAt c + 6000) }
    : State).duplicateCondition = s.peers.duplicate)) :=
  ⟨⟨lastChar (frame .ofr 30 (be1 7 ++ be4 78 ++ be1 1)), frame .ofr 30 (be1 7 ++ be4 78 ++ be1 1), hears (inWindow
   docked .collect) (frame .ofr 30 (be1 7 ++ be4 78 ++ be1 1)), window7 .collect, ⟨_, ⟨rfl, rfl, by decide +kernel⟩,
   by decide +kernel, by decide +kernel⟩, by decide +kernel⟩,
   ⟨lastChar (frame .ofr 30 (be1 7 ++ be4 78 ++ be1 1)), frame .ofr 30 (be1 7 ++ be4 78 ++ be1 1), hears
   ({ rivalled with van := { docked.van with window := some (placesWindow 3) } }) (frame .ofr 30 (be1 7 ++ be4 78 ++
   be1 1)), placesWindow 3, ⟨_, ⟨rfl, rfl, by decide +kernel⟩, by decide +kernel, by decide +kernel⟩, by
   decide +kernel⟩,
   ⟨lastChar (frame .ofr 30 (be1 7 ++ be4 78 ++ be1 1)), frame .ofr 30 (be1 7 ++ be4 78 ++ be1 1), hears
   ({ rivalled with van := { docked.van with window := some (placesWindow 2) } }) (frame .ofr 30 (be1 7 ++ be4 78 ++
   be1 1)), placesWindow 2, ⟨_, ⟨rfl, rfl, by decide +kernel⟩, by decide +kernel, by decide +kernel⟩, by
   decide +kernel⟩⟩

theorem test_witness_OwnOfferSentIsHeld :
    (∃ (s : State) (x : Transmission) (e : TxEntry) (w : VanWindow), s.straps.role = .post ∧ s.line.tx = some x ∧
    s.line.txEntry = some e ∧ s.line.rx = none ∧ e.kind = .ofr ∧ s.van.window = some w ∧ s.van.offer = .queued ∧
    s.van.offerRef = e.ref ∧ fieldAt e.body 0 1 = w.serial ∧ 1 ≤ s.number ∧ s.number ≤ 30 ∧ w.accepts s.number = false
    ∧ (w.mode = .deliver → fieldAt e.body 1 4 = 0) ∧ w.accepted.length < w.places) ∧
    (∃ (s : State) (x : Transmission) (e : TxEntry) (w : VanWindow), s.straps.role = .post ∧ s.line.tx = some x ∧
    s.line.txEntry = some e ∧ s.line.rx = none ∧ e.kind = .ofr ∧ s.van.window = some w ∧ s.van.offer = .queued ∧
    s.van.offerRef = e.ref ∧ fieldAt e.body 0 1 = w.serial ∧ 1 ≤ s.number ∧ s.number ≤ 30 ∧ w.accepts s.number = false
    ∧ (w.mode = .deliver → fieldAt e.body 1 4 = 0) ∧ w.places ≤ w.accepted.length) :=
  ⟨⟨{ sending docked (entry .ofr (be1 7 ++ be4 77 ++ be1 1)) with van := { docked.van with window := some (window7 .collect), offer := .queued, offerRef := 3 } },
   attempt docked (entry .ofr (be1 7 ++ be4 77 ++ be1 1)), entry .ofr (be1 7 ++ be4 77 ++ be1 1), window7 .collect, by
   decide +kernel⟩,
   ⟨{ sending docked (entry .ofr (be1 7 ++ be4 77 ++ be1 1)) with van := { docked.van with window := some (fullWindow .collect), offer := .queued, offerRef := 3 } },
   attempt docked (entry .ofr (be1 7 ++ be4 77 ++ be1 1)), entry .ofr (be1 7 ++ be4 77 ++ be1 1), fullWindow .collect,
   by decide +kernel⟩⟩

theorem test_witness_TimeNoticeIsAdopted :
    (∃ (c : LineChar) (f : Frame) (s : State), s.takes c f ∧ f.kind = .tim ∧ s.straps.role ≠ .terminal ∧ f.sender = 0
    ∧ (fieldAt f.body 4 2) ≤ 999) ∧
    (∃ (c : LineChar) (f : Frame) (s : State), s.takes c f ∧ f.kind = .tim ∧ s.straps.role ≠ .terminal ∧ (f.sender ≠ 0
    ∨ 999 < (fieldAt f.body 4 2))) :=
  ⟨⟨lastChar (frame .tim 0 (be4 8671000 ++ be2 999)), frame .tim 0 (be4 8671000 ++ be2 999), hears (untimed docked)
   (frame .tim 0 (be4 8671000 ++ be2 999)), ⟨_, ⟨rfl, rfl, by decide +kernel⟩, by decide +kernel, by decide +kernel⟩,
   by decide +kernel⟩,
   ⟨lastChar (frame .tim 0 (be4 8671000 ++ be2 1000)), frame .tim 0 (be4 8671000 ++ be2 1000), hears (docked) (frame
   .tim 0 (be4 8671000 ++ be2 1000)), ⟨_, ⟨rfl, rfl, by decide +kernel⟩, by decide +kernel, by decide +kernel⟩, by
   decide +kernel⟩⟩

theorem test_witness_FirstTimeStartsTheRating :
    ∃ (c : LineChar) (f : Frame) (s : State) (r : ReturnRecord) (at_ : Ms) (plan : PlanRecord), s.takes c f ∧
    s.straps.role = .post ∧ f.kind = .tim ∧ f.sender = 0 ∧ fieldAt f.body 4 2 ≤ 999 ∧ s.timeUnset = true ∧
    (s.settle.slotA = some { record := r, phase := .gathering true false false at_ }) ∧ s.settle.slotB = none ∧ r.end_
    = .pending ∧ s.settle.active.planRecord r.plan = some plan :=
  ⟨lastChar (frame .tim 0 (be4 8671000 ++ be2 500)), frame .tim 0 (be4 8671000 ++ be2 500), hears (inSlotA (untimed
  docked) ride55 (.gathering true false false 1590000)) (frame .tim 0 (be4 8671000 ++ be2 500)), ride55, 1590000,
  plan2, ⟨_, ⟨rfl, rfl, by decide +kernel⟩, by decide +kernel, by decide +kernel⟩, by decide +kernel⟩

theorem test_witness_TariffIsStaged :
    (∃ (c : LineChar) (f : Frame) (s : State) (v : TrfValues), s.takes c f ∧ s.straps.role = .post ∧ f.kind = .trf ∧
    f.sender = 0 ∧ trfOf f.body = some v ∧ (v.version ≤ s.settle.active.version ∨ v.version <
    s.settle.staging.version)) ∧
    (∃ (c : LineChar) (f : Frame) (s : State) (v : TrfValues), s.takes c f ∧ s.straps.role = .post ∧ f.kind = .trf ∧
    f.sender = 0 ∧ trfOf f.body = some v ∧ s.settle.active.version < v.version ∧ s.settle.staging.version ≤ v.version
    ∧
    (({ version := v.version, pieces := (if s.settle.staging.version < v.version then List.replicate 9 none else s.settle.staging.pieces).set v.index (some v.piece) }
    : Tariff).complete = false)) ∧
    (∃ (c : LineChar) (f : Frame) (s : State) (v : TrfValues), s.takes c f ∧ s.straps.role = .post ∧ f.kind = .trf ∧
    f.sender = 0 ∧ trfOf f.body = some v ∧ s.settle.active.version < v.version ∧ s.settle.staging.version ≤ v.version
    ∧
    (({ version := v.version, pieces := (if s.settle.staging.version < v.version then List.replicate 9 none else s.settle.staging.pieces).set v.index (some v.piece) }
    : Tariff).complete = true) ∧ slotRating s.settle.slotA = false ∧ slotRating s.settle.slotB = false) ∧
    (∃ (c : LineChar) (f : Frame) (s : State) (v : TrfValues), s.takes c f ∧ s.straps.role = .post ∧ f.kind = .trf ∧
    f.sender = 0 ∧ trfOf f.body = some v ∧ s.settle.active.version < v.version ∧ s.settle.staging.version ≤ v.version
    ∧ (slotRating s.settle.slotA = true ∨ slotRating s.settle.slotB = true)) ∧
    (∃ (c : LineChar) (f : Frame) (s : State), s.takes c f ∧ s.straps.role = .post ∧ f.kind = .trf ∧ (f.sender ≠ 0 ∨
    trfOf f.body = none)) :=
  ⟨⟨lastChar (frame .trf 0 (trfBody 5 0 (.plan (some plan2)))), frame .trf 0 (trfBody 5 0 (.plan (some plan2))), hears
   (docked) (frame .trf 0 (trfBody 5 0 (.plan (some plan2)))),
   { version := 5, index := 0, piece := .plan (some plan2) }, ⟨_, ⟨rfl, rfl, by decide +kernel⟩, by decide +kernel, by
   decide +kernel⟩, by decide +kernel⟩,
   ⟨lastChar (frame .trf 0 (trfBody 6 0 (.plan (some plan2)))), frame .trf 0 (trfBody 6 0 (.plan (some plan2))), hears
   (docked) (frame .trf 0 (trfBody 6 0 (.plan (some plan2)))),
   { version := 6, index := 0, piece := .plan (some plan2) }, ⟨_, ⟨rfl, rfl, by decide +kernel⟩, by decide +kernel, by
   decide +kernel⟩, by decide +kernel⟩,
   ⟨lastChar (frame .trf 0 (trfBody 6 0 (.plan (some plan2)))), frame .trf 0 (trfBody 6 0 (.plan (some plan2))), hears
   ({ docked with settle := { docked.settle with staging := { version := 6, pieces := none :: tariff5.pieces.drop 1 } } })
   (frame .trf 0 (trfBody 6 0 (.plan (some plan2)))), { version := 6, index := 0, piece := .plan (some plan2) }, ⟨_,
   ⟨rfl, rfl, by decide +kernel⟩, by decide +kernel, by decide +kernel⟩, by decide +kernel⟩,
   ⟨lastChar (frame .trf 0 (trfBody 6 0 (.plan (some plan2)))), frame .trf 0 (trfBody 6 0 (.plan (some plan2))), hears
   (inSlotA docked ride55 (.rating rating55 1000002)) (frame .trf 0 (trfBody 6 0 (.plan (some plan2)))),
   { version := 6, index := 0, piece := .plan (some plan2) }, ⟨_, ⟨rfl, rfl, by decide +kernel⟩, by decide +kernel, by
   decide +kernel⟩, by decide +kernel⟩,
   ⟨lastChar (frame .trf 3 (trfBody 6 0 (.plan (some plan2)))), frame .trf 3 (trfBody 6 0 (.plan (some plan2))), hears
   (docked) (frame .trf 3 (trfBody 6 0 (.plan (some plan2)))), ⟨_, ⟨rfl, rfl, by decide +kernel⟩, by decide +kernel,
   by decide +kernel⟩, by decide +kernel⟩⟩

theorem test_witness_FaultsAreCleared :
    (∃ (c : LineChar) (f : Frame) (s : State) (i : IdSection), s.takes c f ∧ s.straps.role = .post ∧ f.kind = .fcl ∧
    f.sender = 0 ∧ s.dock.docked = true ∧ s.copyId = some i ∧ i.bikeId = fieldAt f.body 0 4 ∧ (fieldAt f.body 4 1) ∈
    [0, 1, 2, 3, 4, 5, 8, 9, 10, 11] ∧ s.faultsDamaged = false ∧ (s.workingList.filter (fun e => !(decide ((fieldAt
    f.body 4 1) = 0) || decide (e.cls = (fieldAt f.body 4 1))))) = s.workingList) ∧
    (∃ (c : LineChar) (f : Frame) (s : State) (i : IdSection), s.takes c f ∧ s.straps.role = .post ∧ f.kind = .fcl ∧
    f.sender = 0 ∧ s.dock.docked = true ∧ s.copyId = some i ∧ i.bikeId = fieldAt f.body 0 4 ∧ (fieldAt f.body 4 1) ∈
    [0, 1, 2, 3, 4, 5, 8, 9, 10, 11] ∧ s.faultsDamaged = false ∧ (s.workingList.filter (fun e => !(decide ((fieldAt
    f.body 4 1) = 0) || decide (e.cls = (fieldAt f.body 4 1))))) ≠ s.workingList ∧ s.tag.operation = .idle ∧
    s.tag.requests = []) ∧
    (∃ (c : LineChar) (f : Frame) (s : State) (i : IdSection), s.takes c f ∧ s.straps.role = .post ∧ f.kind = .fcl ∧
    f.sender = 0 ∧ s.dock.docked = true ∧ s.copyId = some i ∧ i.bikeId = fieldAt f.body 0 4 ∧ (fieldAt f.body 4 1) ∈
    [0, 1, 2, 3, 4, 5, 8, 9, 10, 11] ∧ s.faultsDamaged = true) ∧
    (∃ (c : LineChar) (f : Frame) (s : State), s.takes c f ∧ (f.sender ≠ 0 ∨ s.dock.docked = false ∨ s.copyId = none ∨
    (∃ i, s.copyId = some i ∧ i.bikeId ≠ fieldAt f.body 0 4) ∨ (fieldAt f.body 4 1) ∉ [0, 1, 2, 3, 4, 5, 8, 9, 10,
    11]) ∧ s.straps.role = .post ∧ f.kind = .fcl) :=
  ⟨⟨lastChar (frame .fcl 0 (be4 77 ++ be1 2)), frame .fcl 0 (be4 77 ++ be1 2), hears (docked) (frame .fcl 0 (be4 77 ++
   be1 2)), bike77, ⟨_, ⟨rfl, rfl, by decide +kernel⟩, by decide +kernel, by decide +kernel⟩, by decide +kernel⟩,
   ⟨lastChar (frame .fcl 0 (be4 77 ++ be1 2)), frame .fcl 0 (be4 77 ++ be1 2), hears
   ({ docked with tag := { docked.tag with copy := { copy77 with faults := .good [fault2 8] } } }) (frame .fcl 0 (be4
   77 ++ be1 2)), bike77, ⟨_, ⟨rfl, rfl, by decide +kernel⟩, by decide +kernel, by decide +kernel⟩, by decide +kernel⟩,
   ⟨lastChar (frame .fcl 0 (be4 77 ++ be1 11)), frame .fcl 0 (be4 77 ++ be1 11), hears
   ({ docked with tag := { docked.tag with copy := { copy77 with faults := .damaged } } }) (frame .fcl 0 (be4 77 ++
   be1 11)), bike77, ⟨_, ⟨rfl, rfl, by decide +kernel⟩, by decide +kernel, by decide +kernel⟩, by decide +kernel⟩,
   ⟨lastChar (frame .fcl 0 (be4 77 ++ be1 12)), frame .fcl 0 (be4 77 ++ be1 12), hears (docked) (frame .fcl 0 (be4 77
   ++ be1 12)), ⟨_, ⟨rfl, rfl, by decide +kernel⟩, by decide +kernel, by decide +kernel⟩, .inr (.inr (.inr (.inr (by
   decide +kernel)))), by decide +kernel⟩⟩

theorem test_witness_FramesMakeEvents :
    (∃ (c : LineChar) (f : Frame) (s : State), s.takes c f ∧ s.port.events.length < 64 ∧ (s.storedPeer f.sender).state
    = .live ∧ s.straps.role = .terminal ∧ f.kind = .hir) ∧
    (∃ (c : LineChar) (f : Frame) (s : State), s.takes c f ∧ s.port.events.length < 64 ∧ (s.storedPeer f.sender).state
    = .live ∧ s.straps.role = .terminal ∧ f.kind = .stl) ∧
    (∃ (c : LineChar) (f : Frame) (s : State), s.takes c f ∧ s.port.events.length < 64 ∧ (s.storedPeer f.sender).state
    = .live ∧ s.straps.role = .terminal ∧ f.kind = .flt) ∧
    (∃ (c : LineChar) (f : Frame) (s : State), s.takes c f ∧ s.port.events.length < 64 ∧ (s.storedPeer f.sender).state
    = .live ∧ s.straps.role = .terminal ∧ f.kind = .vtk) ∧
    (∃ (c : LineChar) (f : Frame) (s : State) (e : ViewEntry), s.takes c f ∧ s.port.events.length < 64 ∧ (s.storedPeer
    f.sender).state = .live ∧ s.straps.role = .terminal ∧ f.kind = .lkp ∧ s.view.find (fieldAt f.body 0 4) = some e) ∧
    (∃ (c : LineChar) (f : Frame) (s : State), s.takes c f ∧ s.port.events.length < 64 ∧ (s.storedPeer f.sender).state
    = .live ∧ s.straps.role = .terminal ∧ f.kind = .lkp ∧ s.view.find (fieldAt f.body 0 4) = none) ∧
    (∃ (c : LineChar) (f : Frame) (s : State), s.takes c f ∧ s.port.events.length < 64 ∧ (s.storedPeer f.sender).state
    = .live ∧ s.straps.role = .van ∧ f.kind = .vtk) ∧
    (∃ (c : LineChar) (f : Frame) (s : State) (w : VanWindow), s.takes c f ∧ s.port.events.length < 64 ∧ (s.storedPeer
    f.sender).state = .live ∧ s.straps.role = .van ∧ f.kind = .ofr ∧ s.van.window = some w ∧ fieldAt f.body 0 1 =
    w.serial ∧ 1 ≤ f.sender ∧ f.sender ≤ 30 ∧ (w.mode = .deliver → fieldAt f.body 1 4 = 0) ∧ w.accepts f.sender =
    false ∧ w.accepted.length < w.places) ∧
    (∃ (c : LineChar) (f : Frame) (s : State), s.takes c f ∧ s.port.events.length < 64 ∧ s.straps.role = .monitor) :=
  ⟨⟨lastChar (frame .hir 31 (hirBody 4 55 77 5 2 false false none)), frame .hir 31 (hirBody 4 55 77 5 2 false false
   none), hears (term.setPeer 31 liveEntry) (frame .hir 31 (hirBody 4 55 77 5 2 false false none)), ⟨_, ⟨rfl, rfl, by
   decide +kernel⟩, by decide +kernel, by decide +kernel⟩, by decide +kernel⟩,
   ⟨lastChar (frame .stl 31 (stlBody (stlValues ride55 (rate rating55)))), frame .stl 31 (stlBody (stlValues ride55
   (rate rating55))), hears (term.setPeer 31 liveEntry) (frame .stl 31 (stlBody (stlValues ride55 (rate rating55)))),
   ⟨_, ⟨rfl, rfl, by decide +kernel⟩, by decide +kernel, by decide +kernel⟩, by decide +kernel⟩,
   ⟨lastChar (frame .flt 31 (be4 77 ++ be1 2 ++ be1 1 ++ be1 0 ++ be1 3)), frame .flt 31 (be4 77 ++ be1 2 ++ be1 1 ++
   be1 0 ++ be1 3), hears (term.setPeer 31 liveEntry) (frame .flt 31 (be4 77 ++ be1 2 ++ be1 1 ++ be1 0 ++ be1 3)),
   ⟨_, ⟨rfl, rfl, by decide +kernel⟩, by decide +kernel, by decide +kernel⟩, by decide +kernel⟩,
   ⟨lastChar (frame .vtk 31 (be1 7 ++ be4 77 ++ be4 9)), frame .vtk 31 (be1 7 ++ be4 77 ++ be4 9), hears (term.setPeer
   31 liveEntry) (frame .vtk 31 (be1 7 ++ be4 77 ++ be4 9)), ⟨_, ⟨rfl, rfl, by decide +kernel⟩, by decide +kernel, by
   decide +kernel⟩, by decide +kernel⟩,
   ⟨lastChar (frame .lkp 31 (be4 55 ++ be1 1)), frame .lkp 31 (be4 55 ++ be1 1), hears (knowing (term.setPeer 31
   liveEntry)) (frame .lkp 31 (be4 55 ++ be1 1)), entry55, ⟨_, ⟨rfl, rfl, by decide +kernel⟩, by decide +kernel, by
   decide +kernel⟩, by decide +kernel⟩,
   ⟨lastChar (frame .lkp 31 (be4 55 ++ be1 1)), frame .lkp 31 (be4 55 ++ be1 1), hears (term.setPeer 31 liveEntry)
   (frame .lkp 31 (be4 55 ++ be1 1)), ⟨_, ⟨rfl, rfl, by decide +kernel⟩, by decide +kernel, by decide +kernel⟩, by
   decide +kernel⟩,
   ⟨lastChar (frame .vtk 3 (be1 7 ++ be4 77 ++ be4 9)), frame .vtk 3 (be1 7 ++ be4 77 ++ be4 9), hears (van.setPeer 3
   liveEntry) (frame .vtk 3 (be1 7 ++ be4 77 ++ be4 9)), ⟨_, ⟨rfl, rfl, by decide +kernel⟩, by decide +kernel, by
   decide +kernel⟩, by decide +kernel⟩,
   ⟨lastChar (frame .ofr 30 (be1 7 ++ be4 77 ++ be1 1)), frame .ofr 30 (be1 7 ++ be4 77 ++ be1 1), hears ((inWindow
   van .collect).setPeer 30 liveEntry) (frame .ofr 30 (be1 7 ++ be4 77 ++ be1 1)), window7 .collect, ⟨_, ⟨rfl, rfl, by
   decide +kernel⟩, by decide +kernel, by decide +kernel⟩, by decide +kernel⟩,
   ⟨lastChar (frame .bcn 3 (bcnBody (post.ownBeacon))), frame .bcn 3 (bcnBody (post.ownBeacon)), hears (monitor)
   (frame .bcn 3 (bcnBody (post.ownBeacon))), ⟨_, ⟨rfl, rfl, by decide +kernel⟩, by decide +kernel, by
   decide +kernel⟩, by decide +kernel⟩⟩

theorem test_witness_BeaconChangesMakePeerEvents :
    ∃ (c : LineChar) (f : Frame) (s : State), s.takes c f ∧ f.kind = .bcn ∧ (s.straps.role = .terminal ∨ s.straps.role
    = .van) ∧ s.port.events.length < 64 ∧ s.peers.entries.length = 32 :=
  ⟨lastChar (frame .bcn 3 (bcnBody docked.ownBeacon)), frame .bcn 3 (bcnBody docked.ownBeacon), hears (term) (frame
  .bcn 3 (bcnBody docked.ownBeacon)), ⟨_, ⟨rfl, rfl, by decide +kernel⟩, by decide +kernel, by decide +kernel⟩, by
  decide +kernel⟩

theorem test_witness_HireableFlag :
    ∃ (s : State), s.isPost = true :=
  ⟨docked, by decide +kernel⟩

theorem test_witness_HostStationsBeacon :
    ∃ (s : State), (s.straps.role = .terminal ∨ s.straps.role = .van) :=
  ⟨van, by decide +kernel⟩

theorem test_witness_BeaconTimerOffersABeacon :
    (∃ (s : State) (due : Ms) (e : TxEntry), s.peers.beaconAt = some due ∧ s.sends = true ∧ s.barred = false ∧
    s.line.queuedBeacon = some e ∧ s.line.inTransmission e = false) ∧
    (∃ (s : State) (due : Ms) (e : TxEntry), s.peers.beaconAt = some due ∧ s.sends = true ∧ s.barred = false ∧
    s.line.queuedBeacon = some e ∧ s.line.inTransmission e = true) ∧
    (∃ (s : State) (due : Ms), s.peers.beaconAt = some due ∧ s.sends = true ∧ s.barred = false ∧ s.line.queuedBeacon =
    none ∧ s.line.queue.length < 8) :=
  ⟨⟨queueing { docked with peers := { docked.peers with beaconAt := some 1000002 } } (entry .bcn []), 1000002, entry
   .bcn [], by decide +kernel⟩,
   ⟨sending { docked with peers := { docked.peers with beaconAt := some 1000002 } } (entry .bcn []), 1000002, entry
   .bcn [], by decide +kernel⟩,
   ⟨State.reset, 0, by decide +kernel⟩⟩

theorem test_witness_SilenceMakesAPeerSilent :
    (∃ (n : BitVec 5) (s : State) (due : Ms), s.peers.entries.length = 32 ∧ (s.storedPeer n.toNat).state = .live ∧
    (s.storedPeer n.toNat).silenceAt = some due ∧ s.isOwnEntry n.toNat = false) ∧
    (∃ (n : BitVec 5) (s : State) (due : Ms), s.settled ∧ s.peers.entries.length = 32 ∧ (s.storedPeer n.toNat).state =
    .live ∧ (s.storedPeer n.toNat).silenceAt = some due ∧ s.isOwnEntry n.toNat = true) :=
  ⟨⟨31, docked, 1005000, by decide +kernel⟩,
   ⟨1, conclude (docked.setPeer 1 liveEntry), 1005000, ⟨by decide +kernel, by decide +kernel⟩, by decide +kernel⟩⟩

theorem test_witness_DuplicateHoldEnds :
    ∃ (s : State) (due : Ms), s.peers.duplicateHoldAt = some due :=
  ⟨{ docked with peers := { docked.peers with duplicateHoldAt := some 1000001 } }, 1000001, by decide +kernel⟩

theorem test_witness_DuplicateBikeIsHeld :
    (∃ (s : State), s.peers.duplicate = false ∧ s.duplicateCondition = true ∧ s.fault.duplicate = true) ∧
    (∃ (s : State) (i : IdSection), s.peers.duplicate = false ∧ s.duplicateCondition = true ∧ s.fault.duplicate =
    false ∧ s.refusesOffer .flt = false ∧ s.line.queue = [] ∧ s.van.window = none ∧ s.copyId = some i) ∧
    (∃ (s : State), s.peers.duplicate = true ∧ s.duplicateCondition = false) ∧
    (∃ (s : State), s.peers.duplicate = s.duplicateCondition) :=
  ⟨⟨{ docked.setPeer 4 { liveEntry with beacon := some docked.ownBeacon } with fault := { docked.fault with duplicate := true } },
   by decide +kernel⟩,
   ⟨docked.setPeer 4 { liveEntry with beacon := some docked.ownBeacon }, bike77, by decide +kernel⟩,
   ⟨{ docked with peers := { docked.peers with duplicate := true } }, by decide +kernel⟩,
   ⟨docked, by decide +kernel⟩⟩

theorem test_witness_StaleTimeIsCarried :
    (∃ (s : State) (due : Ms), s.time.staleAt = some due) ∧
    (∃ (s : State) (due : Ms), s.time.carryAt = some due) :=
  ⟨⟨docked, 87400000, by decide +kernel⟩,
   ⟨{ docked with time := { docked.time with carryAt := some 1000000 } }, 1000000, by decide +kernel⟩⟩

theorem test_witness_CarryKeepsConversions :
    ∃ (b : BasePair) (i : Ms), b.schemeMs + 86400000 ≤ 4294967295999 ∧ (((i - b.localMs).toNat) < 2 ^ 31 ∨ 2 ^ 32 +
    86400000 ≤ 2 ^ 31 + ((i - b.localMs).toNat)) :=
  ⟨{ localMs := 1000000, schemeMs := 4294880895999 }, 2234883648, by decide +kernel⟩

theorem test_witness_CapturesLapse :
    (∃ (s : State) (c : Capture) (source : CaptureSource), s.time.slot source = some c ∧ c.scheme = .pending ∧
    s.time.quality = .unset) ∧
    (∃ (s : State) (c : Capture), s.tag.docking = some c ∧ c.scheme = .pending ∧ s.time.quality = .unset) ∧
    (∃ (s : State) (c : Capture), s.dock.dockedSince = some c ∧ c.scheme = .pending ∧ s.time.quality = .unset) ∧
    (∃ (s : State), s.settled ∧ s.time.quality ≠ .unset) :=
  ⟨⟨{ untimed docked with time := { (untimed docked).time with card := some { ms := 5, scheme := .pending, startUp := false } } },
   { ms := 5, scheme := .pending, startUp := false }, .card, by decide +kernel⟩,
   ⟨{ untimed docked with tag := { docked.tag with docking := some { ms := 5, scheme := .pending, startUp := false } } },
   { ms := 5, scheme := .pending, startUp := false }, by decide +kernel⟩,
   ⟨{ untimed docked with dock := { docked.dock with dockedSince := some { ms := 5, scheme := .pending, startUp := false } } },
   { ms := 5, scheme := .pending, startUp := false }, by decide +kernel⟩,
   ⟨(conclude docked), ⟨by decide +kernel, by decide +kernel⟩, by decide +kernel⟩⟩

theorem test_witness_TimersAreTakenAtTheirInstant :
    (∃ (due : Ms) (s : State), msReached due s.clock.ms = true) ∧
    (∃ (due : Ms) (s : State), msReached due s.clock.ms = false) :=
  ⟨⟨1000000, docked, by decide +kernel⟩,
   ⟨1000001, docked, by decide +kernel⟩⟩

theorem test_witness_StoppedTimersChangeNothing :
    ∃ (s : State) (n : BitVec 5) (source : CaptureSource) (name : SlotName), s.settled ∧ s.line.wait = none ∧
    s.line.tx = none ∧ s.line.rx = none ∧ s.line.lineRaised = false ∧ s.line.queue = [] ∧ s.peers.beaconAt = none ∧
    (s.storedPeer n.toNat).silenceAt = none ∧ s.peers.duplicateHoldAt = none ∧ s.time.staleAt = none ∧ s.time.carryAt
    = none ∧ s.time.slot source = none ∧ s.dock.pullInEndAt = none ∧ s.dock.openCheckAt = none ∧ s.dock.takeWindowAt =
    none ∧ s.dock.closeCheckAt = none ∧ s.dock.pushAsideAt = none ∧ s.dock.holdEndAt = none ∧ s.dock.burst = none ∧
    s.dock.lamp.phaseAt = none ∧ s.dock.refusal = none ∧ s.dock.crewAckAt = none ∧ s.dock.periodicAt = none ∧
    s.dock.ch0At = none ∧ s.dock.converter = .idle ∧ s.tag.operation = .idle ∧ s.card.gapAt = none ∧ s.view.lookup =
    none ∧ s.hire.claims = [] ∧ s.hire.state ≠ .claiming ∧ s.hire.state ≠ .releasing ∧ s.settle.slot name = none ∧
    s.fault.window = none ∧ s.van.window = none ∧ s.van.retryAt = none ∧ s.terminal.timAt = none ∧ s.terminal.trfAt =
    none :=
  ⟨untimed monitor, 3, .card, .a, ⟨by decide +kernel, by decide +kernel⟩, by decide +kernel⟩

theorem test_witness_OtherRolesHaveNoDock :
    ∃ (s : State), s.settled ∧ s.isPost = false :=
  ⟨monitor, ⟨by decide +kernel, by decide +kernel⟩, by decide +kernel⟩

theorem test_witness_OpenEdgeByBoltState :
    (∃ (s : State), s.isPost = true ∧ s.dock.sensorOpen = false ∧ s.dock.bolt = .closed) ∧
    (∃ (s : State), s.isPost = true ∧ s.dock.sensorOpen = false ∧ s.dock.bolt = .opening ∧ s.dock.pullInEndAt.isSome =
    true) ∧
    (∃ (s : State), s.isPost = true ∧ s.dock.sensorOpen = false ∧ s.dock.bolt = .opening ∧ s.dock.pullInEndAt = none ∧
    s.dock.selfTest = none ∧ s.dock.count ≠ 0) ∧
    (∃ (s : State), s.isPost = true ∧ s.dock.sensorOpen = false ∧ (s.dock.bolt = .held ∨ s.dock.bolt = .closing)) ∧
    (∃ (s : State), s.isPost = true ∧ s.dock.sensorOpen = false ∧ s.dock.bolt = .jammed) :=
  ⟨⟨docked, by decide +kernel⟩,
   ⟨{ docked with dock := { docked.dock with bolt := .opening, coil := .pullIn, pullInEndAt := some 1000080 } }, by
   decide +kernel⟩,
   ⟨{ docked with dock := { docked.dock with bolt := .opening, coil := .hold, count := 1 } }, by decide +kernel⟩,
   ⟨{ docked with dock := { docked.dock with bolt := .closing } }, by decide +kernel⟩,
   ⟨{ docked with dock := { docked.dock with bolt := .jammed } }, by decide +kernel⟩⟩

theorem test_witness_ClosedEdgeDocksABike :
    (∃ (s : State), s.isPost = true ∧ s.dock.sensorOpen = true ∧ s.dock.bolt = .closed ∧ s.dock.docked = false ∧ 6 ≤
    s.dock.count ∧ s.time.mouthIn.isSome = true) ∧
    (∃ (s : State), s.isPost = true ∧ s.dock.sensorOpen = true ∧ s.dock.bolt = .closed ∧ (s.dock.docked = true ∨
    s.dock.count < 6 ∨ s.time.mouthIn = none)) :=
  ⟨⟨{ post with dock := { post.dock with sensorOpen := true, count := 6 }, time := { post.time with mouthIn := some { ms := 999000, scheme := .pending, startUp := false } } },
   by decide +kernel⟩,
   ⟨{ post with dock := { post.dock with sensorOpen := true, count := 5 }, time := { post.time with mouthIn := some { ms := 999000, scheme := .pending, startUp := false } } },
   by decide +kernel⟩⟩

theorem test_witness_ClosedEdgeSeatsOrStaysJammed :
    (∃ (s : State), s.isPost = true ∧ s.dock.sensorOpen = true ∧ s.dock.bolt = .closing ∧ (s.settling = false ∨
    s.dock.release = false ∨ s.dock.count < 6)) ∧
    (∃ (s : State) (h : HireRecord) (prior : HireSection), s.isPost = true ∧ s.dock.sensorOpen = true ∧ s.dock.bolt =
    .closing ∧ s.dock.release = true ∧ s.hire.state = .releasing ∧ s.hire.record = some h ∧ h.settleAt.isSome = true ∧
    h.prior = some prior ∧ 6 ≤ s.dock.count ∧ s.dock.docked = true ∧ s.copyHeld = true ∧ s.tag.requests = [] ∧
    s.tag.operation = .idle) ∧
    (∃ (s : State), s.isPost = true ∧ s.dock.sensorOpen = true ∧ s.dock.bolt = .jammed) :=
  ⟨⟨{ docked with dock := { docked.dock with sensorOpen := true, bolt := .closing } }, by decide +kernel⟩,
   ⟨hiring
   { docked with dock := { docked.dock with sensorOpen := true, bolt := .closing, release := true, count := 6 } }
   .releasing { released55 with settleAt := some 1002000 }, { released55 with settleAt := some 1002000 }, hireClosed,
   by decide +kernel⟩,
   ⟨{ docked with dock := { docked.dock with sensorOpen := true, bolt := .jammed } }, by decide +kernel⟩⟩

theorem test_witness_ClosedEdgeDropsADrawnBolt :
    (∃ (s : State), s.isPost = true ∧ s.dock.sensorOpen = true ∧ (s.dock.bolt = .held ∨ (s.dock.bolt = .opening ∧
    s.dock.seenOpen = true)) ∧ (s.dock.selfTest.isSome = true ∨ s.dock.release = false)) ∧
    (∃ (s : State) (h : HireRecord), s.isPost = true ∧ s.dock.sensorOpen = true ∧ (s.dock.bolt = .held ∨ (s.dock.bolt
    = .opening ∧ s.dock.seenOpen = true)) ∧ s.dock.selfTest = none ∧ s.dock.release = true ∧ s.hire.state = .releasing
    ∧ s.hire.record = some h ∧ 0 < s.dock.count ∧ s.dock.count < 6) :=
  ⟨⟨{ docked with dock := { docked.dock with sensorOpen := true, seenOpen := true, bolt := .opening, release := false } },
   by decide +kernel⟩,
   ⟨hiring { docked with dock := { docked.dock with sensorOpen := true, bolt := .held, release := true, count := 5 } }
   .releasing released55, released55, by decide +kernel⟩⟩

theorem test_witness_PullInEndHoldsTheBolt :
    (∃ (s : State) (due : Ms), s.dock.pullInEndAt = some due ∧ s.dock.seenOpen = false) ∧
    (∃ (s : State) (due : Ms), s.dock.pullInEndAt = some due ∧ s.dock.seenOpen = true ∧ s.dock.count ≠ 0 ∧
    s.dock.selfTest = none) ∧
    (∃ (s : State) (due : Ms) (test : SelfTest), s.dock.pullInEndAt = some due ∧ s.dock.seenOpen = true ∧ s.dock.count
    ≠ 0 ∧ s.dock.selfTest = some test) :=
  ⟨⟨{ docked with dock := { docked.dock with bolt := .opening, coil := .pullIn, pullInEndAt := some 1000080 } },
   1000080, by decide +kernel⟩,
   ⟨{ docked with dock := { docked.dock with bolt := .opening, coil := .pullIn, pullInEndAt := some 1000080, seenOpen := true, count := 1 } },
   1000080, by decide +kernel⟩,
   ⟨{ docked with dock := { docked.dock with bolt := .opening, coil := .pullIn, pullInEndAt := some 1000080, seenOpen := true, selfTest := some { phase := .pullIn, crew := 9 } } },
   1000080, { phase := .pullIn, crew := 9 }, by decide +kernel⟩⟩

theorem test_witness_FailedChecksJamTheBolt :
    (∃ (s : State) (due : Ms), s.isPost = true ∧ s.dock.openCheckAt = some due ∧ s.dock.bolt = .opening ∧
    s.dock.seenOpen = false ∧ 0 < s.dock.count) ∧
    (∃ (s : State) (due : Ms), s.isPost = true ∧ s.dock.openCheckAt = some due ∧ (s.dock.bolt ≠ .opening ∨
    s.dock.seenOpen = true)) ∧
    (∃ (s : State) (due : Ms), s.isPost = true ∧ s.dock.closeCheckAt = some due ∧ s.dock.bolt = .closing) ∧
    (∃ (s : State) (due : Ms), s.isPost = true ∧ s.dock.pushAsideAt = some due ∧ s.dock.bolt = .closed ∧
    s.dock.sensorOpen = true) ∧
    (∃ (s : State) (due : Ms), s.isPost = true ∧ s.dock.pushAsideAt = some due ∧ s.dock.sensorOpen = false) :=
  ⟨⟨{ docked with dock := { docked.dock with bolt := .opening, coil := .hold, openCheckAt := some 1000150, count := 1 } },
   1000150, by decide +kernel⟩,
   ⟨{ docked with dock := { docked.dock with bolt := .held, coil := .hold, openCheckAt := some 1000150, seenOpen := true } },
   1000150, by decide +kernel⟩,
   ⟨{ docked with dock := { docked.dock with bolt := .closing, closeCheckAt := some 1000300 } }, 1000300, by
   decide +kernel⟩,
   ⟨{ docked with dock := { docked.dock with sensorOpen := true, pushAsideAt := some 1002000 } }, 1002000, by
   decide +kernel⟩,
   ⟨{ docked with dock := { docked.dock with pushAsideAt := some 1002000 } }, 1002000, by decide +kernel⟩⟩

theorem test_witness_TakeWindowExpiryClosesTheBolt :
    ∃ (s : State) (due : Ms) (h : HireRecord), s.dock.takeWindowAt = some due ∧ s.dock.bolt = .held ∧ s.dock.count ≠ 0
    ∧ s.dock.sensorOpen = true ∧ s.hire.state = .releasing ∧ s.hire.record = some h :=
  ⟨hiring
  { docked with dock := { docked.dock with sensorOpen := true, bolt := .held, takeWindowAt := some 1020000, count := 1 } }
  .releasing released55, 1020000, released55, by decide +kernel⟩

theorem test_witness_HoldPhaseEndClosesTheBolt :
    ∃ (s : State) (due : Ms) (test : SelfTest), s.dock.holdEndAt = some due ∧ s.dock.selfTest = some test ∧
    s.dock.sensorOpen = true :=
  ⟨{ docked with dock := { docked.dock with sensorOpen := true, bolt := .held, holdEndAt := some 1002000, selfTest := some { phase := .hold, crew := 9 } } },
  1002000, { phase := .hold, crew := 9 }, by decide +kernel⟩

theorem test_witness_BeamEdgesCount :
    (∃ (a b : Bool) (s : State), s.isPost = true ∧ (beamPhase a b) = ((beamPhase s.dock.beamA s.dock.beamB) + 1) % 4 ∧
    s.dock.count ≠ 5) ∧
    (∃ (a b : Bool) (s : State), s.isPost = true ∧ (beamPhase a b) = ((beamPhase s.dock.beamA s.dock.beamB) + 1) % 4 ∧
    s.dock.count = 5) ∧
    (∃ (a b : Bool) (s : State), s.isPost = true ∧ (beamPhase s.dock.beamA s.dock.beamB) = ((beamPhase a b) + 1) % 4 ∧
    s.dock.count ≠ 1) ∧
    (∃ (a b : Bool) (s : State), s.isPost = true ∧ (beamPhase a b) = ((beamPhase s.dock.beamA s.dock.beamB) + 2) % 4 ∧
    .sensor ∉ s.fault.raised ∧ s.dock.noise < 15) ∧
    (∃ (a b : Bool) (s : State), s.isPost = true ∧ (beamPhase a b) = ((beamPhase s.dock.beamA s.dock.beamB) + 2) % 4 ∧
    .sensor ∉ s.fault.raised ∧ s.dock.noise = 15) ∧
    (∃ (a b : Bool) (s : State), s.isPost = true ∧ (beamPhase a b) = ((beamPhase s.dock.beamA s.dock.beamB) + 2) % 4 ∧
    .sensor ∈ s.fault.raised) :=
  ⟨⟨true, false, { post with dock := { post.dock with count := 15 } }, by decide +kernel⟩,
   ⟨true, false, { post with dock := { post.dock with count := 5 } }, by decide +kernel⟩,
   ⟨false, true, { post with dock := { post.dock with count := 15 } }, by decide +kernel⟩,
   ⟨true, true, { post with dock := { post.dock with noise := 14 } }, by decide +kernel⟩,
   ⟨true, true, { post with dock := { post.dock with noise := 15 } }, by decide +kernel⟩,
   ⟨true, true,
   { post with dock := { post.dock with noise := 16 }, fault := { post.fault with raised := [.sensor] } }, by
   decide +kernel⟩⟩

theorem test_witness_EmptyMouthByTheSensor :
    (∃ (a b : Bool) (s : State), s.isPost = true ∧ s.dock.count = 1 ∧ beamPhase s.dock.beamA s.dock.beamB = (beamPhase
    a b + 1) % 4 ∧ s.dock.bolt ≠ .held ∧ s.dock.docked = false) ∧
    (∃ (a b : Bool) (s : State), s.isPost = true ∧ s.dock.count = 1 ∧ beamPhase s.dock.beamA s.dock.beamB = (beamPhase
    a b + 1) % 4 ∧ s.dock.bolt ≠ .held ∧ s.dock.docked = true ∧ s.dock.sensorOpen = false) ∧
    (∃ (a b : Bool) (s : State), s.isPost = true ∧ s.dock.count = 1 ∧ beamPhase s.dock.beamA s.dock.beamB = (beamPhase
    a b + 1) % 4 ∧ s.dock.bolt ≠ .held ∧ s.dock.docked = true ∧ s.dock.sensorOpen = true ∧ s.hire.state = .idle) :=
  ⟨⟨false, false, { post with dock := { post.dock with count := 1, beamA := true } }, by decide +kernel⟩,
   ⟨false, false, { docked with dock := { docked.dock with count := 1, beamA := true } }, by decide +kernel⟩,
   ⟨false, false,
   { docked with dock := { docked.dock with count := 1, beamA := true, sensorOpen := true, bolt := .closing } }, by
   decide +kernel⟩⟩

theorem test_witness_EmptyMouthTakesTheBike :
    ∃ (a b : Bool) (s : State) (h : HireRecord) (claim : SentClaim) (w : HireSection) (bike : IdSection),
    s.straps.role = .post ∧ s.dock.count = 1 ∧ beamPhase s.dock.beamA s.dock.beamB = (beamPhase a b + 1) % 4 ∧
    s.dock.bolt = .held ∧ s.dock.selfTest = none ∧ s.dock.release = true ∧ s.dock.docked = true ∧ s.dock.sensorOpen =
    true ∧ s.hire.state = .releasing ∧ s.hire.record = some h ∧ h.kind = .member ∧ h.claim = some claim ∧ h.written =
    some w ∧ h.bike = some bike ∧ h.settleAt = none ∧ s.refusesOffer .hir = false ∧ s.line.queue.length < 8 ∧ (∀ e ∈
    s.line.queue, e.ref < s.line.nextRef) ∧ s.van.window = none :=
  ⟨false, false, hiring
  { docked with dock := { docked.dock with count := 1, beamA := true, sensorOpen := true, bolt := .held, release := true } }
  .releasing released55, released55, claim4, hireOpen, bike77, by decide +kernel⟩

theorem test_witness_ButtonPressesMakeABurst :
    (∃ (s : State), s.isPost = true ∧ s.dock.pressed = false ∧ s.dock.burst = none) ∧
    (∃ (s : State) (burst : PressBurst), s.isPost = true ∧ s.dock.pressed = false ∧ s.dock.burst = some burst) :=
  ⟨⟨docked, by decide +kernel⟩,
   ⟨{ docked with dock := { docked.dock with burst := some { count := 255, discarded := false, endAt := 1003000 } } },
   { count := 255, discarded := false, endAt := 1003000 }, by decide +kernel⟩⟩

theorem test_witness_PressBurstMakesAReport :
    (∃ (s : State) (burst : PressBurst), (burst.discarded = true ∨ s.fault.window = none ∨ (∃ w, s.fault.window = some
    w ∧ w.used = true)) ∧ s.dock.burst = some burst) ∧
    (∃ (s : State) (burst : PressBurst) (w : ReportWindow), s.dock.burst = some burst ∧ burst.discarded = false ∧
    s.fault.window = some w ∧ w.used = false) :=
  ⟨⟨{ docked with dock := { docked.dock with burst := some { count := 1, discarded := true, endAt := 1003000 } } },
   { count := 1, discarded := true, endAt := 1003000 }, .inl (by decide +kernel), by decide +kernel⟩,
   ⟨{ docked with dock := { docked.dock with burst := some { count := 6, discarded := false, endAt := 1003000 } }, fault := { docked.fault with window := some { crew := false, reporter := 55, expiresAt := 1050000, used := false } } },
   { count := 6, discarded := false, endAt := 1003000 },
   { crew := false, reporter := 55, expiresAt := 1050000, used := false }, by decide +kernel⟩⟩

theorem test_witness_LampTimersExpire :
    (∃ (s : State) (due : Ms), s.dock.lamp.phaseAt = some due ∧ s.dock.lamp.row ≠ .refusalRedFlash) ∧
    (∃ (s : State) (due : Ms) (d : RefusalDisplay), s.dock.lamp.phaseAt = some due ∧ s.dock.lamp.row =
    .refusalRedFlash ∧ s.dock.refusal = some d ∧ s.dock.crewAckAt = some due) :=
  ⟨⟨{ docked with dock := { docked.dock with lamp := { row := .workAmberFlash, phase := 0, phaseAt := some 1000200 } } },
   1000200, by decide +kernel⟩,
   ⟨{ docked with dock := { docked.dock with lamp := { row := .refusalRedFlash, phase := 2, phaseAt := some 1000200 }, refusal := some { flashes := 2, endAt := 1002000 }, crewAckAt := some 1000200 } },
   1000200, { flashes := 2, endAt := 1002000 }, by decide +kernel⟩⟩

theorem test_witness_ConverterTakesBursts :
    (∃ (s : State) (due : Ms), s.dock.periodicAt = some due ∧ s.dock.converter = .idle ∧ s.dock.ch0At = some due) ∧
    (∃ (s : State) (due : Ms) (burst : Burst) (i : Instant), s.dock.periodicAt = some due ∧ s.dock.converter ≠ .idle ∧
    s.dock.ch0At = some due ∧ s.dock.converter = .pend burst i) :=
  ⟨⟨{ docked with dock := { docked.dock with ch0At := some 1000040, periodicAt := some 1000040 } }, 1000040, by
   decide +kernel⟩,
   ⟨{ docked with dock := { docked.dock with ch0At := some 1000040, periodicAt := some 1000040, converter := .pend (.event 3) docked.clock } },
   1000040, .event 3, docked.clock, by decide +kernel⟩⟩

theorem test_witness_PeriodicBurstIsJudged :
    ∃ (s : State) (i : Instant), s.isPost = true ∧ s.dock.converter = .busy (.periodic false) i :=
  ⟨{ docked with dock := { docked.dock with converter := .busy (.periodic false) docked.clock, lamp := { row := .redSteady, phase := 0, phaseAt := none } } },
  docked.clock, by decide +kernel⟩

theorem test_witness_BatteryIsJudged :
    ∃ (s : State) (i : Instant), s.dock.converter = .busy (.periodic true) i ∧ s.dock.docked = true :=
  ⟨{ docked with dock := { docked.dock with converter := .busy (.periodic true) docked.clock } }, docked.clock, by
  decide +kernel⟩

theorem test_witness_CoilCurrentIsJudged :
    (∃ (s : State) (n : Nat) (i : Instant) (code0 : BitVec 10), s.isPost = true ∧ s.dock.converter = .busy (.event n)
    i ∧ s.dock.pendingEvent = none ∧ s.dock.pendingPeriodic = false ∧ (s.dock.coil = .off ∨ s.dock.pullIns ≠ n ∨ (600
    ≤ (code0.toNat * 2500 / 1023) ∧ (code0.toNat * 2500 / 1023) ≤ 2400))) ∧
    (∃ (s : State) (n : Nat) (i : Instant) (code0 : BitVec 10), s.isPost = true ∧ s.dock.converter = .busy (.event n)
    i ∧ s.dock.pendingEvent = none ∧ s.dock.pendingPeriodic = false ∧ s.dock.coil ≠ .off ∧ s.dock.pullIns = n ∧
    ((code0.toNat * 2500 / 1023) < 600 ∨ 2400 < (code0.toNat * 2500 / 1023)) ∧ s.dock.sensorOpen = true ∧
    s.dock.selfTest = none ∧ 0 < s.dock.count) :=
  ⟨⟨{ docked with dock := { docked.dock with converter := .busy (.event 3) docked.clock, pullIns := 3, bolt := .opening, coil := .pullIn } },
   3, docked.clock, 246, by decide +kernel⟩,
   ⟨{ docked with dock := { docked.dock with converter := .busy (.event 3) docked.clock, pullIns := 3, bolt := .opening, coil := .pullIn, sensorOpen := true } },
   3, docked.clock, 245, by decide +kernel⟩⟩

theorem test_witness_CrewTakesSendVtk :
    (∃ (a b : Bool) (s : State) (h : HireRecord) (bike : IdSection) (w : HireSection), s.straps.role = .post ∧
    s.dock.count = 1 ∧ beamPhase s.dock.beamA s.dock.beamB = (beamPhase a b + 1) % 4 ∧ s.dock.bolt = .held ∧
    s.dock.docked = true ∧ s.dock.sensorOpen = true ∧ s.refusesOffer .vtk = false ∧ s.line.queue.length < 7 ∧ (∀ e ∈
    s.line.queue, e.ref < s.line.nextRef) ∧ s.tag.operation = .idle ∧ s.tag.requests = [] ∧ s.dock.selfTest = none ∧
    s.dock.release = true ∧ s.hire.state = .releasing ∧ s.hire.record = some h ∧ h.kind = .crew ∧ h.bike = some bike ∧
    h.written = some w ∧ h.settleAt = none) ∧
    (∃ (a b : Bool) (s : State) (test : SelfTest), s.straps.role = .post ∧ s.dock.count = 1 ∧ beamPhase s.dock.beamA
    s.dock.beamB = (beamPhase a b + 1) % 4 ∧ s.dock.bolt = .held ∧ s.dock.docked = true ∧ s.dock.sensorOpen = true ∧
    s.refusesOffer .vtk = false ∧ s.line.queue.length < 7 ∧ (∀ e ∈ s.line.queue, e.ref < s.line.nextRef) ∧
    s.tag.operation = .idle ∧ s.tag.requests = [] ∧ s.dock.selfTest = some test ∧ s.hire.state = .idle) :=
  ⟨⟨false, false, hiring
   { docked with dock := { docked.dock with count := 1, beamA := true, sensorOpen := true, bolt := .held, release := true } }
   .releasing crewRelease, crewRelease, bike77, { hireClosed with mark := .van, member := 9 }, by decide +kernel⟩,
   ⟨false, false,
   { docked with dock := { docked.dock with count := 1, beamA := true, sensorOpen := true, bolt := .held, selfTest := some { phase := .hold, crew := 9 } } },
   { phase := .hold, crew := 9 }, by decide +kernel⟩⟩

theorem test_witness_EachCauseIsEvaluated :
    (∃ (s : State) (w : VanWindow) (due : Ms) (h : HireRecord), s.straps.role = .post ∧ s.van.window = some w ∧ w.mode
    = .collect ∧ s.van.offer = .none_ ∧ w.accepted.length < w.places ∧ s.barred = false ∧ s.line.clash = false ∧
    s.line.queue.length < 5 ∧ (∀ e ∈ s.line.queue, e.ref < s.line.nextRef) ∧ s.hire.state = .releasing ∧ s.hire.record
    = some h ∧ h.settleAt = some due ∧ s.dock.count < 6 ∧ s.dock.docked = true ∧
    (({ s.reachMs due with hire := { s.hire with state := .idle, record := none } } : State).ownCandidate w = true) ∧
    (({ s.reachMs due with hire := { s.hire with state := .idle, record := none } } : State).ownRank w +
    w.accepted.length ≤ w.places)) ∧
    (∃ (s : State) (w : VanWindow) (i : Instant) (code1 : BitVec 10), s.straps.role = .post ∧ s.van.window = some w ∧
    w.mode = .collect ∧ s.van.offer = .none_ ∧ w.accepted.length < w.places ∧ s.barred = false ∧ s.line.clash = false
    ∧ s.line.queue.length < 5 ∧ (∀ e ∈ s.line.queue, e.ref < s.line.nextRef) ∧ s.dock.converter = .busy (.periodic
    true) i ∧ s.dock.docked = true ∧ s.copyHeld = true ∧ s.bikeLevel = 0 ∧ chargePercent code1 < 5 ∧
    (({ s.reachInstant i with dock := { s.dock with ch1 := { last := some code1, fresh := false } }, fault := { s.fault with lowCharge := true } }
    : State).ownCandidate w = true) ∧
    (({ s.reachInstant i with dock := { s.dock with ch1 := { last := some code1, fresh := false } }, fault := { s.fault with lowCharge := true } }
    : State).ownRank w + w.accepted.length ≤ w.places)) :=
  ⟨⟨hiring { inWindow docked .collect with dock := { docked.dock with count := 5 } } .releasing
   { released55 with settleAt := some 1002000 }, window7 .collect, 1002000,
   { released55 with settleAt := some 1002000 }, by decide +kernel⟩,
   ⟨{ inWindow docked .collect with dock := { docked.dock with converter := .busy (.periodic true) docked.clock } },
   window7 .collect, docked.clock, 610, by decide +kernel⟩⟩

theorem test_witness_TagAnswerIsNoted :
    (∃ (s : State) (issued : Ms) (got : List (List Byte)) (startUp : Bool), s.tag.operation = .readSet startUp got
    false issued ∧ (startUp = false ∨ got ≠ [])) ∧
    (∃ (s : State) (issued : Ms) (w : WriteRequest) (second back : Bool), s.tag.operation = .write w second back false
    issued) ∧
    (∃ (s : State) (issued : Ms), s.tag.operation = .readSet true [] false issued) :=
  ⟨⟨operating docked (.readSet false [] false 999995), 999995, [], false, by decide +kernel⟩,
   ⟨operating docked (.write (write4 (.last none) .settlement) false true false 999995), 999995, write4 (.last none)
   .settlement, false, true, by decide +kernel⟩,
   ⟨State.reset, 0, by decide +kernel⟩⟩

theorem test_witness_SectionReadGoesOn :
    ∃ (s : State) (startUp : Bool) (got : List (List Byte)) (issued : Ms), s.tag.operation = .readSet startUp got true
    issued ∧ got.length < 3 :=
  ⟨operating docked (.readSet false [[], []] true 999985), false, [[], []], 999985, by decide +kernel⟩

theorem test_witness_ReadSetHoldsTheCopy :
    ∃ (bytes id hire last : List Byte) (s : State) (startUp : Bool) (issued : Ms) (i : IdSection) (h : HireSection)
    (entries : List FaultEntry), s.straps.role = .post ∧ s.tag.operation = .readSet startUp [id, hire, last] true
    issued ∧ judgeId id = .good i ∧ judgeHire hire = .good h ∧ (h.mark = .closed ∨ h.mark = .returned) ∧ judgeFaults
    bytes = .good entries ∧ s.tag.requests = [] :=
  ⟨sectionBytes (.faults [fault2 8]), idBytes, sectionBytes (.hire hireClosed), sectionBytes (.last none), operating
  docked (.readSet false [idBytes, sectionBytes (.hire hireClosed), sectionBytes (.last none)] true 999985), false,
  999985, bike77, hireClosed, [fault2 8], by decide +kernel⟩

theorem test_witness_OpenHireIsReturned :
    ∃ (bytes id hire last : List Byte) (s : State) (startUp : Bool) (issued : Ms) (i : IdSection) (h : HireSection)
    (entries : List FaultEntry) (c : Capture) (ms : Nat) (plan : PlanRecord), s.straps.role = .post ∧ s.tag.operation
    = .readSet startUp [id, hire, last] true issued ∧ judgeId id = .good i ∧ judgeHire hire = .good h ∧ h.mark =
    .opened ∧ judgeFaults bytes = .good entries ∧ s.tag.requests = [] ∧ s.tag.docking = some c ∧ c.scheme = .known ms
    ∧ s.peers.adoptedId ≠ 0 ∧ s.settle.slotA = none ∧ s.settle.active.planRecord h.plan = some plan :=
  ⟨sectionBytes (.faults []), idBytes, sectionBytes (.hire hireOpen), sectionBytes (.last none),
  { docked with tag := { docked.tag with operation := .readSet false [idBytes, sectionBytes (.hire hireOpen), sectionBytes (.last none)] true 999985, docking := some { ms := 999000, scheme := .known 8670999000, startUp := false } } },
  false, 999985, bike77, hireOpen, [], { ms := 999000, scheme := .known 8670999000, startUp := false }, 8670999000,
  plan2, by decide +kernel⟩

theorem test_witness_VanTakenBikeIsClosed :
    ∃ (bytes id hire last : List Byte) (s : State) (startUp : Bool) (issued : Ms) (i : IdSection) (h : HireSection)
    (entries : List FaultEntry), s.straps.role = .post ∧ s.tag.operation = .readSet startUp [id, hire, last] true
    issued ∧ judgeId id = .good i ∧ judgeHire hire = .good h ∧ h.mark = .van ∧ judgeFaults bytes = .good entries ∧
    s.tag.requests = [] :=
  ⟨sectionBytes (.faults []), idBytes, sectionBytes (.hire { hireOpen with mark := .van }), sectionBytes (.last none),
  readingWhole docked idBytes (sectionBytes (.hire { hireOpen with mark := .van })) (sectionBytes (.last none)),
  false, 999985, bike77, { hireOpen with mark := .van }, [], by decide +kernel⟩

theorem test_witness_DamagedTagIsSettledAtOnce :
    (∃ (bytes id hire last : List Byte) (s : State) (startUp : Bool) (issued : Ms) (c : Capture) (entries : List
    FaultEntry) (i : IdSection), s.straps.role = .post ∧ s.barred = false ∧ s.tag.operation = .readSet startUp [id,
    hire, last] true issued ∧ judgeFaults bytes = .good entries ∧ s.tag.requests = [] ∧ s.tag.docking = some c ∧
    s.line.queue.length ≤ 3 ∧ (∀ e ∈ s.line.queue, e.ref < s.line.nextRef) ∧ judgeId id = .good i ∧ judgeHire hire =
    .damaged) ∧
    (∃ (bytes id hire last : List Byte) (s : State) (startUp : Bool) (issued : Ms) (c : Capture) (entries : List
    FaultEntry), s.straps.role = .post ∧ s.barred = false ∧ s.tag.operation = .readSet startUp [id, hire, last] true
    issued ∧ judgeFaults bytes = .good entries ∧ s.tag.requests = [] ∧ s.tag.docking = some c ∧ s.line.queue.length ≤
    3 ∧ (∀ e ∈ s.line.queue, e.ref < s.line.nextRef) ∧ judgeId id = .damaged ∧ judgeHire hire = .damaged) ∧
    (∃ (bytes id hire last : List Byte) (s : State) (startUp : Bool) (issued : Ms) (c : Capture) (entries : List
    FaultEntry) (h : HireSection), s.straps.role = .post ∧ s.barred = false ∧ s.tag.operation = .readSet startUp [id,
    hire, last] true issued ∧ judgeFaults bytes = .good entries ∧ s.tag.requests = [] ∧ s.tag.docking = some c ∧
    s.line.queue.length ≤ 3 ∧ (∀ e ∈ s.line.queue, e.ref < s.line.nextRef) ∧ judgeId id = .damaged ∧ judgeHire hire =
    .good h ∧ h.mark = .opened) :=
  ⟨⟨sectionBytes (.faults []), idBytes, [], [], readingWhole docked idBytes [] [], false, 999985, capture999, [],
   bike77, by decide +kernel⟩,
   ⟨sectionBytes (.faults []), [], [], [], readingWhole docked [] [] [], false, 999985, capture999, [], by
   decide +kernel⟩,
   ⟨sectionBytes (.faults []), [], sectionBytes (.hire hireOpen), [], readingWhole docked [] (sectionBytes (.hire
   hireOpen)) [], false, 999985, capture999, [], hireOpen, by decide +kernel⟩⟩

theorem test_witness_ReturnWithoutASlotIsUnrated :
    ∃ (bytes id hire last : List Byte) (s : State) (startUp : Bool) (issued : Ms) (i : IdSection) (h : HireSection)
    (entries : List FaultEntry) (c : Capture) (ms : Nat) (a b : Slot), s.straps.role = .post ∧ s.barred = false ∧
    s.tag.operation = .readSet startUp [id, hire, last] true issued ∧ judgeId id = .good i ∧ judgeHire hire = .good h
    ∧ h.mark = .opened ∧ judgeFaults bytes = .good entries ∧ s.tag.requests = [] ∧ s.tag.docking = some c ∧ c.scheme =
    .known ms ∧ s.settle.slotA = some a ∧ s.settle.slotB = some b ∧ s.hire.state = .idle ∧ s.line.queue.length ≤ 3 ∧
    (∀ e ∈ s.line.queue, e.ref < s.line.nextRef) :=
  ⟨sectionBytes (.faults []), idBytes, sectionBytes (.hire hireOpen), sectionBytes (.last none), readingWhole
  { docked with settle := { docked.settle with slotA := some { record := ride55, phase := .rating rating55 1000009 }, slotB := some { record := ride55, phase := .rating rating55 1000009 } } }
  idBytes (sectionBytes (.hire hireOpen)) (sectionBytes (.last none)), false, 999985, bike77, hireOpen, [],
  capture999, 8670999000, { record := ride55, phase := .rating rating55 1000009 },
  { record := ride55, phase := .rating rating55 1000009 }, by decide +kernel⟩

theorem test_witness_DamagedFaultsAreRewritten :
    (∃ (bytes : List Byte) (s : State) (issued : Ms) (id hire last : List Byte) (startUp : Bool) (i : IdSection) (h :
    HireSection), s.straps.role = .post ∧ s.tag.operation = .readSet startUp [id, hire, last] true issued ∧ judgeId id
    = .good i ∧ judgeHire hire = .good h ∧ (h.mark = .closed ∨ h.mark = .returned) ∧ judgeFaults bytes = .damaged ∧
    s.tag.requests = [] ∧ s.dock.docked = true) ∧
    (∃ (s : State), s.straps.role = .post ∧ s.faultsDamaged = true ∧ s.rewritePending = true) ∧
    (∃ (bytes : List Byte) (s : State) (issued : Ms) (ref : Nat) (second : Bool) (e : FaultEntry), s.straps.role =
    .post ∧ s.faultsDamaged = true ∧ s.tag.requests = [] ∧ s.fault.writes = [] ∧ (s.tag.operation = .write
    { contents := .faults [({ cls := 8, level := 2, source := .auto, reporter := 0 } : FaultEntry)], requester := .tagPort, ref := ref }
    second true true issued) ∧ (bytes = sectionBytes (.faults
    [({ cls := 8, level := 2, source := .auto, reporter := 0 } : FaultEntry)])) ∧ s.fault.deferred = [.add e]) ∧
    (∃ (bytes : List Byte) (s : State) (issued : Ms) (ref : Nat) (second : Bool), s.straps.role = .post ∧
    s.faultsDamaged = true ∧ s.tag.requests = [] ∧ s.fault.writes = [] ∧ (s.tag.operation = .write
    { contents := .faults [({ cls := 8, level := 2, source := .auto, reporter := 0 } : FaultEntry)], requester := .tagPort, ref := ref }
    second true true issued) ∧ (bytes = sectionBytes (.faults
    [({ cls := 8, level := 2, source := .auto, reporter := 0 } : FaultEntry)])) ∧ s.fault.deferred = []) ∧
    (∃ (bytes : List Byte) (s : State) (issued : Ms) (ref : Nat) (second : Bool), s.straps.role = .post ∧
    s.faultsDamaged = true ∧ s.tag.requests = [] ∧ s.fault.writes = [] ∧ (s.tag.operation = .write
    { contents := .faults [({ cls := 8, level := 2, source := .auto, reporter := 0 } : FaultEntry)], requester := .tagPort, ref := ref }
    second true true issued) ∧ (bytes ≠ sectionBytes (.faults
    [({ cls := 8, level := 2, source := .auto, reporter := 0 } : FaultEntry)])) ∧ second = true) :=
  ⟨⟨[], readingWhole docked idBytes (sectionBytes (.hire hireClosed)) [], 999985, idBytes, sectionBytes (.hire
   hireClosed), [], false, bike77, hireClosed, by decide +kernel⟩,
   ⟨rewriting false [], by decide +kernel⟩,
   ⟨sectionBytes (.faults [tagEntry]), rewriting false [.add (fault2 8)], 999985, 4, false, fault2 8, by
   decide +kernel⟩,
   ⟨sectionBytes (.faults [tagEntry]), rewriting true [], 999985, 4, true, by decide +kernel⟩,
   ⟨[], rewriting true [.add (fault2 8)], 999985, 4, true, by decide +kernel⟩⟩

theorem test_witness_SectionWriteIsReadBack :
    ∃ (s : State) (w : WriteRequest) (second answered : Bool) (issued : Ms), s.tag.operation = .write w second false
    answered issued :=
  ⟨operating docked (.write (write4 (.last none) .settlement) false false true 999970), write4 (.last none)
  .settlement, false, true, 999970, by decide +kernel⟩

theorem test_witness_ReadBackEndsTheWrite :
    (∃ (bytes : List Byte) (s : State) (w : WriteRequest) (second : Bool) (issued : Ms), s.tag.operation = .write w
    second true true issued ∧ s.tag.requests = [] ∧ bytes ≠ sectionBytes w.contents ∧ second = false) ∧
    (∃ (bytes : List Byte) (s : State) (w : WriteRequest) (second : Bool) (issued : Ms), s.tag.operation = .write w
    second true true issued ∧ s.tag.requests = [] ∧ bytes = sectionBytes w.contents ∧ w.requester = .settlement ∧
    s.settle.returned = []) ∧
    (∃ (bytes : List Byte) (s : State) (w : WriteRequest) (second : Bool) (issued : Ms), s.tag.operation = .write w
    second true true issued ∧ s.tag.requests = [] ∧ bytes ≠ sectionBytes w.contents ∧ second = true ∧ w.requester =
    .settlement) :=
  ⟨⟨[], answeredWrite (.last none) .settlement false, write4 (.last none) .settlement, false, 999985, by
   decide +kernel⟩,
   ⟨sectionBytes (.last none), answeredWrite (.last none) .settlement true, write4 (.last none) .settlement, true,
   999985, by decide +kernel⟩,
   ⟨[], answeredWrite (.last none) .settlement true, write4 (.last none) .settlement, true, 999985, by decide +kernel⟩⟩

theorem test_witness_WrittenReturnOpensAWindow :
    ∃ (bytes : List Byte) (s : State) (w : WriteRequest) (second : Bool) (issued : Ms) (ride : ReturnedWrite),
    s.tag.operation = .write w second true true issued ∧ bytes = sectionBytes w.contents ∧ s.tag.requests = [] ∧
    w.requester = .settlement ∧ s.settle.returned = [ride] ∧ ride.ref = w.ref ∧ ride.startUp = false ∧ ride.member ≠ 0
    ∧ s.dock.docked = true ∧ ((s.reachMs (issued + 15)).clock.ms - ride.capture).toNat < 60000 :=
  ⟨sectionBytes (.hire hireOpen),
  { answeredWrite (.hire hireOpen) .settlement false with settle := { docked.settle with returned := [{ ref := 4, member := 55, capture := 940001, startUp := false }] } },
  write4 (.hire hireOpen) .settlement, false, 999985, { ref := 4, member := 55, capture := 940001, startUp := false },
  by decide +kernel⟩

theorem test_witness_SilentTagEndsTheOperation :
    (∃ (s : State) (issued : Ms), s.tag.operation = .readSet true [] false issued) ∧
    (∃ (s : State) (issued : Ms) (got : List (List Byte)), s.tag.operation = .readSet false got false issued ∧
    s.tag.requests = []) ∧
    (∃ (s : State) (issued : Ms) (w : WriteRequest) (second back : Bool), s.tag.operation = .write w second back false
    issued ∧ w.requester = .settlement ∧ s.tag.requests = []) :=
  ⟨⟨State.reset, 0, by decide +kernel⟩,
   ⟨operating docked (.readSet false [] false 999995), 999995, [], by decide +kernel⟩,
   ⟨operating docked (.write (write4 (.last none) .settlement) false false false 999995), 999995, write4 (.last none)
   .settlement, false, false, by decide +kernel⟩⟩

theorem test_witness_SilentReadSetIsSettledAtOnce :
    ∃ (got : List (List Byte)) (s : State) (startUp : Bool) (issued : Ms) (c : Capture), s.straps.role = .post ∧
    s.barred = false ∧ s.tag.operation = .readSet startUp got false issued ∧ (startUp = true → got ≠ []) ∧
    s.tag.requests = [] ∧ s.tag.docking = some c ∧ s.line.queue.length ≤ 3 ∧ (∀ e ∈ s.line.queue, e.ref <
    s.line.nextRef) :=
  ⟨[idBytes, sectionBytes (.hire hireOpen)],
  { docked with tag := { docked.tag with operation := .readSet false [idBytes, sectionBytes (.hire hireOpen)] false 999995, docking := some capture999 } },
  false, 999995, capture999, by decide +kernel⟩

theorem test_witness_CardCharactersAreAssembled :
    (∃ (c : CardChar) (s : State), s.isPost = true ∧ c.stopIdle = true ∧ parityError c = false ∧ (s.card.assembler =
    .idle ∨ s.card.assembler = .collecting) ∧ s.card.chars.length ≠ 15) ∧
    (∃ (c : CardChar) (s : State), s.isPost = true ∧ c.stopIdle = true ∧ parityError c = false ∧ (s.card.assembler =
    .idle ∨ s.card.assembler = .collecting) ∧ s.card.chars.length = 15) ∧
    (∃ (c : CardChar) (s : State), s.isPost = true ∧ (c.stopIdle = false ∨ parityError c = true) ∧ (s.card.assembler =
    .idle ∨ s.card.assembler = .collecting)) ∧
    (∃ (s : State), s.isPost = true ∧ s.card.assembler = .complete) ∧
    (∃ (s : State), s.isPost = true ∧ s.card.assembler = .void) :=
  ⟨⟨{ data := 1, parity := true, stopIdle := true },
   { docked with card := { docked.card with assembler := .collecting, chars := List.replicate 14 0 } }, by
   decide +kernel⟩,
   ⟨{ data := 1, parity := true, stopIdle := true },
   { docked with card := { docked.card with assembler := .collecting, chars := List.replicate 15 0 } }, by
   decide +kernel⟩,
   ⟨{ data := 1, parity := false, stopIdle := true }, docked, by decide +kernel⟩,
   ⟨withCard docked 100, by decide +kernel⟩,
   ⟨{ docked with card := { docked.card with assembler := .void } }, by decide +kernel⟩⟩

theorem test_witness_UnreadableCardIsRefused :
    ∃ (s : State) (due : Ms), (s.card.assembler = .collecting ∨ s.card.assembler = .void ∨ (s.card.assembler =
    .complete ∧ ∃ reason, cardRecordOf s.card.chars = .error reason)) ∧ s.isPost = true ∧ s.card.gapAt = some due :=
  ⟨{ docked with card := { docked.card with assembler := .collecting, chars := [1], gapAt := some 1000005, unreadableRun := 7 } },
  1000005, .inl (by decide +kernel), by decide +kernel⟩

theorem test_witness_MemberCardIsRefused :
    (∃ (s : State) (due : Ms) (card : CardRecord), cardRecordOf s.card.chars = .ok card ∧ s.isPost = true ∧
    s.card.gapAt = some due ∧ s.card.assembler = .complete ∧ card.plan ≠ 15 ∧ s.hire.state = .idle ∧ s.dock.selfTest =
    none ∧ (s.timeUnset = true ∨ s.peers.adoptedId = 0 ∨ s.line.clash = true)) ∧
    (∃ (s : State) (due : Ms) (card : CardRecord), cardRecordOf s.card.chars = .ok card ∧ s.isPost = true ∧
    s.card.gapAt = some due ∧ s.card.assembler = .complete ∧ card.plan ≠ 15 ∧ s.hire.state = .idle ∧ s.dock.selfTest =
    none ∧ s.timeUnset = false ∧ s.peers.adoptedId ≠ 0 ∧ s.line.clash = false ∧ (s.dock.docked = false ∨
    s.tagCondition = false ∨ s.bikeLevel = 2 ∨ s.van.hold = true)) ∧
    (∃ (s : State) (due : Ms) (card : CardRecord), cardRecordOf s.card.chars = .ok card ∧ s.isPost = true ∧
    s.card.gapAt = some due ∧ s.card.assembler = .complete ∧ card.plan ≠ 15 ∧ s.hire.state = .idle ∧ s.dock.selfTest =
    none ∧ s.timeUnset = false ∧ s.peers.adoptedId ≠ 0 ∧ s.line.clash = false ∧ s.dock.docked = true ∧ s.tagCondition
    = true ∧ s.bikeLevel < 2 ∧ s.van.hold = false ∧ s.postLevel = 2) ∧
    (∃ (s : State) (due : Ms) (card : CardRecord), cardRecordOf s.card.chars = .ok card ∧ s.isPost = true ∧
    s.card.gapAt = some due ∧ s.card.assembler = .complete ∧ card.plan ≠ 15 ∧ s.hire.state = .idle ∧ s.dock.selfTest =
    none ∧ s.timeUnset = false ∧ s.peers.adoptedId ≠ 0 ∧ s.line.clash = false ∧ s.dock.docked = true ∧ s.tagCondition
    = true ∧ s.bikeLevel < 2 ∧ s.van.hold = false ∧ s.postLevel < 2 ∧ s.view.find card.member = none ∧ card.expiryDay
    < (s.reachMs due).today) :=
  ⟨⟨withCard (untimed docked) 100, 1000000, card55, by decide +kernel, by decide +kernel⟩,
   ⟨withCard { docked with dock := { docked.dock with docked := false } } 100, 1000000, card55, by decide +kernel, by
   decide +kernel⟩,
   ⟨withCard { docked with fault := { docked.fault with raised := [.jam] } } 100, 1000000, card55, by decide +kernel,
   by decide +kernel⟩,
   ⟨withCard docked 99, 1000000, { card55 with expiryDay := 99 }, by decide +kernel, by decide +kernel⟩⟩

theorem test_witness_UnknownMemberIsLookedUp :
    ∃ (s : State) (due : Ms) (card : CardRecord), cardRecordOf s.card.chars = .ok card ∧ s.straps.role = .post ∧
    s.barred = false ∧ s.card.gapAt = some due ∧ s.card.assembler = .complete ∧ card.plan ≠ 15 ∧ s.hire.state = .idle
    ∧ s.dock.selfTest = none ∧ s.postLevel < 2 ∧ s.timeUnset = false ∧ s.peers.adoptedId ≠ 0 ∧ s.line.clash = false ∧
    s.dock.docked = true ∧ s.tagCondition = true ∧ s.bikeLevel < 2 ∧ s.van.hold = false ∧ s.view.find card.member =
    none ∧ s.line.queue = [] ∧ .reader ∉ s.fault.raised ∧ (s.reachMs due).today ≤ card.expiryDay :=
  ⟨withCard docked 100, 1000000, card55, by decide +kernel, by decide +kernel⟩

theorem test_witness_KnownMemberClaims :
    (∃ (s : State) (due : Ms) (card : CardRecord) (e : ViewEntry), cardRecordOf s.card.chars = .ok card ∧
    s.straps.role = .post ∧ s.barred = false ∧ s.card.gapAt = some due ∧ s.card.assembler = .complete ∧ card.plan ≠ 15
    ∧ s.hire.state = .idle ∧ s.dock.selfTest = none ∧ s.postLevel < 2 ∧ s.timeUnset = false ∧ s.peers.adoptedId ≠ 0 ∧
    s.line.clash = false ∧ s.dock.docked = true ∧ s.tagCondition = true ∧ s.bikeLevel < 2 ∧ s.van.hold = false ∧
    s.view.find card.member = some e ∧ .reader ∉ s.fault.raised ∧ (s.reachMs due).presentSecond ≤ e.updatedAt + 86400
    ∧ (card.expiryDay < (s.reachMs due).today ∨ card.sequence < e.minSequence)) ∧
    (∃ (s : State) (due : Ms) (card : CardRecord) (e : ViewEntry), cardRecordOf s.card.chars = .ok card ∧
    s.straps.role = .post ∧ s.barred = false ∧ s.card.gapAt = some due ∧ s.card.assembler = .complete ∧ card.plan ≠ 15
    ∧ s.hire.state = .idle ∧ s.dock.selfTest = none ∧ s.postLevel < 2 ∧ s.timeUnset = false ∧ s.peers.adoptedId ≠ 0 ∧
    s.line.clash = false ∧ s.dock.docked = true ∧ s.tagCondition = true ∧ s.bikeLevel < 2 ∧ s.van.hold = false ∧
    s.view.find card.member = some e ∧ .reader ∉ s.fault.raised ∧ (s.reachMs due).presentSecond ≤ e.updatedAt + 86400
    ∧ (s.reachMs due).today ≤ card.expiryDay ∧ e.minSequence ≤ card.sequence ∧ (e.status ≠ .good ∨ e.allowance ≤
    e.bikesOut)) ∧
    (∃ (s : State) (due : Ms) (card : CardRecord) (e : ViewEntry), cardRecordOf s.card.chars = .ok card ∧
    s.straps.role = .post ∧ s.barred = false ∧ s.card.gapAt = some due ∧ s.card.assembler = .complete ∧ card.plan ≠ 15
    ∧ s.hire.state = .idle ∧ s.dock.selfTest = none ∧ s.postLevel < 2 ∧ s.timeUnset = false ∧ s.peers.adoptedId ≠ 0 ∧
    s.line.clash = false ∧ s.dock.docked = true ∧ s.tagCondition = true ∧ s.bikeLevel < 2 ∧ s.van.hold = false ∧
    s.view.find card.member = some e ∧ .reader ∉ s.fault.raised ∧ (s.reachMs due).presentSecond ≤ e.updatedAt + 86400
    ∧ (s.reachMs due).today ≤ card.expiryDay ∧ e.minSequence ≤ card.sequence ∧ e.status = .good ∧ e.bikesOut <
    e.allowance ∧ s.line.queue.length < 8 ∧ (∀ q ∈ s.line.queue, q.ref < s.line.nextRef)) :=
  ⟨⟨withCard (knowing docked) 99, 1000000, { card55 with expiryDay := 99 }, entry55, by decide +kernel, by
   decide +kernel⟩,
   ⟨withCard { docked with view := { docked.view with entries := [{ entry55 with bikesOut := 2 }] } } 100, 1000000,
   card55, { entry55 with bikesOut := 2 }, by decide +kernel, by decide +kernel⟩,
   ⟨withCard (knowing docked) 100, 1000000, card55, entry55, by decide +kernel, by decide +kernel⟩⟩

theorem test_witness_CrewCardIsAcknowledgedOrReleases :
    (∃ (s : State) (due : Ms) (card : CardRecord), cardRecordOf s.card.chars = .ok card ∧ s.straps.role = .post ∧
    s.card.gapAt = some due ∧ s.card.assembler = .complete ∧ card.plan = 15 ∧ (s.card.captureHeld = false ∨
    s.time.card = none) ∧ s.hire.state = .idle ∧ s.dock.selfTest = none ∧ s.van.hold = false) ∧
    (∃ (s : State) (due : Ms) (card : CardRecord), cardRecordOf s.card.chars = .ok card ∧ s.straps.role = .post ∧
    s.card.gapAt = some due ∧ s.card.assembler = .complete ∧ card.plan = 15 ∧ (s.card.captureHeld = false ∨
    s.time.card = none) ∧ s.hire.state = .idle ∧ s.dock.selfTest = none ∧ s.van.hold = true ∧ (s.timeUnset = true ∨
    s.peers.adoptedId = 0 ∨ s.line.clash = true)) ∧
    (∃ (s : State) (due : Ms) (card : CardRecord), cardRecordOf s.card.chars = .ok card ∧ s.straps.role = .post ∧
    s.card.gapAt = some due ∧ s.card.assembler = .complete ∧ card.plan = 15 ∧ (s.card.captureHeld = false ∨
    s.time.card = none) ∧ s.hire.state = .idle ∧ s.dock.selfTest = none ∧ s.van.hold = true ∧ s.timeUnset = false ∧
    s.peers.adoptedId ≠ 0 ∧ s.line.clash = false ∧ (s.dock.docked = false ∨ s.tagCondition = false)) ∧
    (∃ (s : State) (due : Ms) (card : CardRecord) (i : IdSection) (prior : HireSection), cardRecordOf s.card.chars =
    .ok card ∧ s.straps.role = .post ∧ s.card.gapAt = some due ∧ s.card.assembler = .complete ∧ card.plan = 15 ∧
    (s.card.captureHeld = false ∨ s.time.card = none) ∧ s.hire.state = .idle ∧ s.dock.selfTest = none ∧ s.van.hold =
    true ∧ s.timeUnset = false ∧ s.peers.adoptedId ≠ 0 ∧ s.line.clash = false ∧ s.dock.docked = true ∧ s.copyId = some
    i ∧ s.copyHire = some prior ∧ (prior.mark = .closed ∨ prior.mark = .returned) ∧ s.tag.operation = .idle ∧
    s.tag.requests = []) :=
  ⟨⟨withCrewCard docked false, 1000000, card9, by decide +kernel, by decide +kernel⟩,
   ⟨withCrewCard { docked with van := { docked.van with hold := true }, line := { docked.line with clash := true } }
   false, 1000000, card9, by decide +kernel, by decide +kernel⟩,
   ⟨withCrewCard
   { docked with van := { docked.van with hold := true }, tag := { docked.tag with copy := { copy77 with id := .damaged } } }
   false, 1000000, card9, by decide +kernel, by decide +kernel⟩,
   ⟨withCrewCard { docked with van := { docked.van with hold := true } } false, 1000000, card9, bike77, hireClosed, by
   decide +kernel, by decide +kernel⟩⟩

theorem test_witness_CrewCardStartsASelfTest :
    (∃ (s : State) (due : Ms) (card : CardRecord), cardRecordOf s.card.chars = .ok card ∧ s.straps.role = .post ∧
    s.card.gapAt = some due ∧ s.card.assembler = .complete ∧ card.plan = 15 ∧ s.dock.selfTest = none ∧
    s.card.captureHeld = true ∧ s.time.card.isSome = true ∧ s.line.stuck = false) ∧
    (∃ (s : State) (due : Ms) (card : CardRecord) (test : SelfTest), cardRecordOf s.card.chars = .ok card ∧
    s.straps.role = .post ∧ s.card.gapAt = some due ∧ s.card.assembler = .complete ∧ card.plan = 15 ∧ s.dock.selfTest
    = some test) :=
  ⟨⟨withCrewCard docked true, 1000000, card9, by decide +kernel, by decide +kernel⟩,
   ⟨withCrewCard { docked with dock := { docked.dock with selfTest := some { phase := .hold, crew := 9 } } } true,
   1000000, card9, { phase := .hold, crew := 9 }, by decide +kernel, by decide +kernel⟩⟩

theorem test_witness_SelfTestCutsTheHireShort :
    (∃ (s : State) (due : Ms) (card : CardRecord) (h : HireRecord), cardRecordOf s.card.chars = .ok card ∧
    s.straps.role = .post ∧ s.barred = false ∧ s.line.clash = false ∧ s.card.gapAt = some due ∧ s.card.assembler =
    .complete ∧ card.plan = 15 ∧ s.dock.selfTest = none ∧ s.card.captureHeld = true ∧ s.time.card.isSome = true ∧
    s.line.stuck = false ∧ s.hire.record = some h ∧ h.kind = .member ∧ s.line.queue.length < 7 ∧ (∀ e ∈ s.line.queue,
    e.ref < s.line.nextRef) ∧ s.hire.state = .lookup) ∧
    (∃ (s : State) (due : Ms) (card : CardRecord) (h : HireRecord) (ref : Nat), cardRecordOf s.card.chars = .ok card ∧
    s.straps.role = .post ∧ s.barred = false ∧ s.line.clash = false ∧ s.card.gapAt = some due ∧ s.card.assembler =
    .complete ∧ card.plan = 15 ∧ s.dock.selfTest = none ∧ s.card.captureHeld = true ∧ s.time.card.isSome = true ∧
    s.line.stuck = false ∧ s.hire.record = some h ∧ h.kind = .member ∧ s.line.queue.length < 7 ∧ (∀ e ∈ s.line.queue,
    e.ref < s.line.nextRef) ∧ s.hire.state = .claiming ∧ h.claim = none ∧ h.clmRef = some ref) ∧
    (∃ (s : State) (due : Ms) (card : CardRecord) (h : HireRecord) (c : SentClaim), cardRecordOf s.card.chars = .ok
    card ∧ s.straps.role = .post ∧ s.barred = false ∧ s.line.clash = false ∧ s.card.gapAt = some due ∧
    s.card.assembler = .complete ∧ card.plan = 15 ∧ s.dock.selfTest = none ∧ s.card.captureHeld = true ∧
    s.time.card.isSome = true ∧ s.line.stuck = false ∧ s.hire.record = some h ∧ h.kind = .member ∧ s.line.queue.length
    < 7 ∧ (∀ e ∈ s.line.queue, e.ref < s.line.nextRef) ∧ s.hire.state = .claiming ∧ h.claim = some c) ∧
    (∃ (s : State) (due : Ms) (card : CardRecord) (h : HireRecord) (c : SentClaim) (ref : Nat), cardRecordOf
    s.card.chars = .ok card ∧ s.straps.role = .post ∧ s.barred = false ∧ s.line.clash = false ∧ s.card.gapAt = some
    due ∧ s.card.assembler = .complete ∧ card.plan = 15 ∧ s.dock.selfTest = none ∧ s.card.captureHeld = true ∧
    s.time.card.isSome = true ∧ s.line.stuck = false ∧ s.hire.record = some h ∧ h.kind = .member ∧ s.line.queue.length
    < 7 ∧ (∀ e ∈ s.line.queue, e.ref < s.line.nextRef) ∧ s.hire.state = .tagging ∧ h.claim = some c ∧ h.writeRef =
    some ref ∧ (∃ r ∈ s.tag.requests, r.ref = ref)) ∧
    (∃ (s : State) (due : Ms) (card : CardRecord) (h : HireRecord) (c : SentClaim) (ref : Nat) (prior : HireSection)
    (running : WriteRequest) (second back answered : Bool) (issued : Ms), cardRecordOf s.card.chars = .ok card ∧
    s.straps.role = .post ∧ s.barred = false ∧ s.line.clash = false ∧ s.card.gapAt = some due ∧ s.card.assembler =
    .complete ∧ card.plan = 15 ∧ s.dock.selfTest = none ∧ s.card.captureHeld = true ∧ s.time.card.isSome = true ∧
    s.line.stuck = false ∧ s.hire.record = some h ∧ h.kind = .member ∧ s.line.queue.length < 7 ∧ (∀ e ∈ s.line.queue,
    e.ref < s.line.nextRef) ∧ s.hire.state = .tagging ∧ h.claim = some c ∧ h.writeRef = some ref ∧ h.prior = some
    prior ∧ s.copyHeld = true ∧ s.tag.requests = [] ∧ s.tag.operation = .write running second back answered issued) ∧
    (∃ (s : State) (due : Ms) (card : CardRecord) (h : HireRecord) (c : SentClaim) (prior : HireSection), cardRecordOf
    s.card.chars = .ok card ∧ s.straps.role = .post ∧ s.barred = false ∧ s.line.clash = false ∧ s.card.gapAt = some
    due ∧ s.card.assembler = .complete ∧ card.plan = 15 ∧ s.dock.selfTest = none ∧ s.card.captureHeld = true ∧
    s.time.card.isSome = true ∧ s.line.stuck = false ∧ s.hire.record = some h ∧ h.kind = .member ∧ s.line.queue.length
    < 7 ∧ (∀ e ∈ s.line.queue, e.ref < s.line.nextRef) ∧ s.hire.state = .releasing ∧ h.claim = some c ∧ h.prior = some
    prior ∧ s.copyHeld = true ∧ s.tag.requests = [] ∧ s.tag.operation = .idle) :=
  ⟨⟨hiring (withCrewCard docked true) .lookup hire55, 1000000, card9, hire55, by decide +kernel, by decide +kernel⟩,
   ⟨hiring (withCrewCard docked true) .claiming { hire55 with clmRef := some 3 }, 1000000, card9,
   { hire55 with clmRef := some 3 }, 3, by decide +kernel, by decide +kernel⟩,
   ⟨hiring (withCrewCard docked true) .claiming released55, 1000000, card9, released55, claim4, by decide +kernel, by
   decide +kernel⟩,
   ⟨hiring (withCrewCard
   { docked with tag := { docked.tag with operation := .readSet false [] false 999990, requests := [write4 (.hire hireOpen) .hire] } }
   true) .tagging { released55 with writeRef := some 4 }, 1000000, card9, { released55 with writeRef := some 4 },
   claim4, 4, by decide +kernel, by decide +kernel⟩,
   ⟨hiring (withCrewCard (answeredWrite (.hire hireOpen) .hire false) true) .tagging
   { released55 with writeRef := some 4 }, 1000000, card9, { released55 with writeRef := some 4 }, claim4, 4,
   hireClosed, write4 (.hire hireOpen) .hire, false, true, true, 999985, by decide +kernel, by decide +kernel⟩,
   ⟨hiring (withCrewCard docked true) .releasing released55, 1000000, card9, released55, claim4, hireClosed, by
   decide +kernel, by decide +kernel⟩⟩

theorem test_witness_LookupFails :
    ∃ (s : State) (l : Lookup), s.view.lookup = some l ∧ s.hire.state = .lookup ∧ (l.card.offline = false ∨
    s.timeUnset = true ∨ l.card.expiryDay < (s.reachMs l.expiresAt).today) :=
  ⟨{ hiring docked .lookup (HireRecord.ofCard .member card55) with view := { docked.view with lookup := some { card := card55, expiresAt := 1001500, lkpRef := none } } },
  { card := card55, expiresAt := 1001500, lkpRef := none }, by decide +kernel⟩

theorem test_witness_LookupAdmitsOffline :
    ∃ (s : State) (l : Lookup) (h : HireRecord), s.view.lookup = some l ∧ s.hire.state = .lookup ∧ s.hire.record =
    some h ∧ h.card = l.card ∧ s.straps.role = .post ∧ s.barred = false ∧ l.card.offline = true ∧ s.timeUnset = false
    ∧ (s.reachMs l.expiresAt).today ≤ l.card.expiryDay ∧ s.peers.adoptedId ≠ 0 ∧ s.line.clash = false ∧ s.dock.docked
    = true ∧ s.tagCondition = true ∧ s.bikeLevel < 2 ∧ s.van.hold = false ∧ s.postLevel < 2 ∧ s.line.queue = [] :=
  ⟨{ hiring docked .lookup (HireRecord.ofCard .member { card55 with offline := true }) with view := { docked.view with lookup := some { card := { card55 with offline := true }, expiresAt := 1001500, lkpRef := none } } },
  { card := { card55 with offline := true }, expiresAt := 1001500, lkpRef := none }, HireRecord.ofCard .member
  { card55 with offline := true }, by decide +kernel⟩

theorem test_witness_OldestClaimAges :
    ∃ (s : State) (c : Claim) (rest : List Claim), s.hire.claims = c :: rest :=
  ⟨{ docked with hire := { docked.hire with claims := [{ member := 55, claimant := 1, serial := 4, heard := 970000 }] } },
  { member := 55, claimant := 1, serial := 4, heard := 970000 }, [], by decide +kernel⟩

theorem test_witness_GrantTestDecidesTheClaim :
    (∃ (s : State) (due : Ms) (h : HireRecord) (a : Answer) (claim : SentClaim) (before after : List Claim) (own :
    Claim) (prior : HireSection) (i : IdSection), s.straps.role = .post ∧ s.hire.state = .claiming ∧ s.hire.record =
    some h ∧ h.kind = .member ∧ h.windowAt = some due ∧ h.answer = some a ∧ h.claim = some claim ∧ a.unverified =
    false ∧ s.hire.claims = before ++ own :: after ∧ own.claimant = s.number ∧ own.serial = claim.serial ∧ (∀ x ∈
    before, ¬ (x.claimant = s.number ∧ x.serial = claim.serial)) ∧ s.view.find h.card.member = none ∧ s.line.clash =
    false ∧ s.copyId = some i ∧ s.copyHire = some prior ∧ (prior.mark = .closed ∨ prior.mark = .returned) ∧
    s.bikeLevel < 2 ∧ s.postLevel < 2 ∧ s.tag.requests = [] ∧ s.tag.operation = .idle ∧ a.bikesOut + ((before.filter
    (fun x => decide (x.member = h.card.member))).length) < a.allowance) ∧
    (∃ (s : State) (due : Ms) (h : HireRecord) (a : Answer) (claim : SentClaim) (before after : List Claim) (own :
    Claim) (prior : HireSection) (i : IdSection), s.straps.role = .post ∧ s.hire.state = .claiming ∧ s.hire.record =
    some h ∧ h.kind = .member ∧ h.windowAt = some due ∧ h.answer = some a ∧ h.claim = some claim ∧ a.unverified =
    false ∧ s.hire.claims = before ++ own :: after ∧ own.claimant = s.number ∧ own.serial = claim.serial ∧ (∀ x ∈
    before, ¬ (x.claimant = s.number ∧ x.serial = claim.serial)) ∧ s.view.find h.card.member = none ∧ s.line.clash =
    false ∧ s.copyId = some i ∧ s.copyHire = some prior ∧ (prior.mark = .closed ∨ prior.mark = .returned) ∧
    s.bikeLevel < 2 ∧ s.postLevel < 2 ∧ s.tag.requests = [] ∧ s.tag.operation = .idle ∧ a.allowance ≤ a.bikesOut +
    ((before.filter (fun x => decide (x.member = h.card.member))).length) ∧ s.line.queue.length < 8 ∧ s.barred = false
    ∧ s.van.window = none ∧ (∀ e ∈ s.line.queue, e.ref < s.line.nextRef)) :=
  ⟨⟨{ docked with hire := { docked.hire with state := .claiming, claims := [{ member := 55, claimant := 1, serial := 4, heard := 999000 }], record := some { hire55 with claim := some claim4, windowAt := some 999250 } } },
   999250, { hire55 with claim := some claim4, windowAt := some 999250 }, hire55.answer.get rfl, claim4, [], [],
   { member := 55, claimant := 1, serial := 4, heard := 999000 }, hireClosed, bike77, by decide +kernel⟩,
   ⟨{ docked with hire := { docked.hire with state := .claiming, claims := [{ member := 55, claimant := 3, serial := 4, heard := 999000 }, { member := 55, claimant := 1, serial := 4, heard := 999000 }], record := some { hire55 with claim := some claim4, windowAt := some 999250 } } },
   999250, { hire55 with claim := some claim4, windowAt := some 999250 }, hire55.answer.get rfl, claim4,
   [{ member := 55, claimant := 3, serial := 4, heard := 999000 }], [],
   { member := 55, claimant := 1, serial := 4, heard := 999000 }, hireClosed, bike77, by decide +kernel⟩⟩

theorem test_witness_WrittenHireReleasesTheBolt :
    ∃ (bytes : List Byte) (s : State) (w : WriteRequest) (second : Bool) (issued : Ms) (h : HireRecord) (section_ :
    HireSection) (code : BitVec 10), s.tag.operation = .write w second true true issued ∧ w.contents = .hire section_
    ∧ w.requester = .hire ∧ bytes = sectionBytes w.contents ∧ s.tag.requests = [] ∧ s.hire.state = .tagging ∧
    s.hire.record = some h ∧ h.writeRef = some w.ref ∧ h.kind = .member ∧ s.bikeLevel < 2 ∧ s.postLevel < 2 ∧
    s.dock.selfTest = none ∧ s.dock.bolt = .closed ∧ s.dock.sensorOpen = false ∧ s.dock.coil = .off ∧ s.dock.ch2.last
    = some code ∧ 648 ≤ code.toNat :=
  ⟨sectionBytes (.hire hireOpen), hiring
  { answeredWrite (.hire hireOpen) .hire false with dock := { docked.dock with ch2 := { last := some 648, fresh := false } } }
  .tagging { hire55 with writeRef := some 4 }, write4 (.hire hireOpen) .hire, false, 999985,
  { hire55 with writeRef := some 4 }, hireOpen, 648, by decide +kernel⟩

theorem test_witness_SettleTimerDecidesByTheCount :
    (∃ (s : State) (due : Ms) (h : HireRecord) (claim : SentClaim) (prior w : HireSection) (bike : IdSection),
    s.straps.role = .post ∧ s.hire.state = .releasing ∧ s.hire.record = some h ∧ h.kind = .member ∧ h.settleAt = some
    due ∧ h.claim = some claim ∧ h.prior = some prior ∧ h.written = some w ∧ h.bike = some bike ∧ s.dock.docked = true
    ∧ s.copyHeld = true ∧ s.tag.requests = [] ∧ s.tag.operation = .idle ∧ 6 ≤ s.dock.count) ∧
    (∃ (s : State) (due : Ms) (h : HireRecord) (claim : SentClaim) (prior w : HireSection) (bike : IdSection),
    s.straps.role = .post ∧ s.hire.state = .releasing ∧ s.hire.record = some h ∧ h.kind = .member ∧ h.settleAt = some
    due ∧ h.claim = some claim ∧ h.prior = some prior ∧ h.written = some w ∧ h.bike = some bike ∧ s.dock.docked = true
    ∧ s.copyHeld = true ∧ s.tag.requests = [] ∧ s.tag.operation = .idle ∧ s.dock.count < 6 ∧ s.refusesOffer .hir =
    false ∧ s.line.queue.length < 8 ∧ s.van.window = none ∧ (∀ e ∈ s.line.queue, e.ref < s.line.nextRef)) :=
  ⟨⟨hiring { docked with dock := { docked.dock with count := 6 } } .releasing
   { released55 with settleAt := some 1002000 }, 1002000, { released55 with settleAt := some 1002000 }, claim4,
   hireClosed, hireOpen, bike77, by decide +kernel⟩,
   ⟨hiring { docked with dock := { docked.dock with count := 5 } } .releasing
   { released55 with settleAt := some 1002000 }, 1002000, { released55 with settleAt := some 1002000 }, claim4,
   hireClosed, hireOpen, bike77, by decide +kernel⟩⟩

theorem test_witness_GrantTestReadsTheView :
    (∃ (s : State) (due : Ms) (h : HireRecord) (a : Answer) (claim : SentClaim) (e : ViewEntry) (prior : HireSection)
    (i : IdSection), s.straps.role = .post ∧ s.hire.state = .claiming ∧ s.hire.record = some h ∧ h.kind = .member ∧
    h.windowAt = some due ∧ h.answer = some a ∧ h.claim = some claim ∧ a.unverified = false ∧ s.hire.claims.head?.map
    (fun c => (c.claimant, c.serial)) = some (s.number, claim.serial) ∧ s.view.find h.card.member = some e ∧
    s.line.clash = false ∧ s.copyId = some i ∧ s.copyHire = some prior ∧ (prior.mark = .closed ∨ prior.mark =
    .returned) ∧ s.bikeLevel < 2 ∧ s.postLevel < 2 ∧ s.tag.requests = [] ∧ s.tag.operation = .idle ∧ s.timeUnset =
    false ∧ (e.status ≠ .good ∨ a.allowance ≤ e.bikesOut)) ∧
    (∃ (s : State) (due : Ms) (h : HireRecord) (a : Answer) (claim : SentClaim) (e : ViewEntry) (prior : HireSection)
    (i : IdSection), s.straps.role = .post ∧ s.hire.state = .claiming ∧ s.hire.record = some h ∧ h.kind = .member ∧
    h.windowAt = some due ∧ h.answer = some a ∧ h.claim = some claim ∧ a.unverified = false ∧ s.hire.claims.head?.map
    (fun c => (c.claimant, c.serial)) = some (s.number, claim.serial) ∧ s.view.find h.card.member = some e ∧
    s.line.clash = false ∧ s.copyId = some i ∧ s.copyHire = some prior ∧ (prior.mark = .closed ∨ prior.mark =
    .returned) ∧ s.bikeLevel < 2 ∧ s.postLevel < 2 ∧ s.tag.requests = [] ∧ s.tag.operation = .idle ∧ s.timeUnset =
    false ∧ e.status = .good ∧ e.bikesOut < a.allowance) :=
  ⟨⟨{ docked with view := { docked.view with entries := [{ entry55 with status := .blocked }] }, hire := { docked.hire with state := .claiming, claims := [{ member := 55, claimant := 1, serial := 4, heard := 999000 }], record := some { hire55 with claim := some claim4, windowAt := some 999250 } } },
   999250, { hire55 with claim := some claim4, windowAt := some 999250 }, hire55.answer.get rfl, claim4,
   { entry55 with status := .blocked }, hireClosed, bike77, by decide +kernel⟩,
   ⟨{ docked with view := { docked.view with entries := [entry55] }, hire := { docked.hire with state := .claiming, claims := [{ member := 55, claimant := 1, serial := 4, heard := 999000 }], record := some { hire55 with claim := some claim4, windowAt := some 999250 } } },
   999250, { hire55 with claim := some claim4, windowAt := some 999250 }, hire55.answer.get rfl, claim4, entry55,
   hireClosed, bike77, by decide +kernel⟩⟩

theorem test_witness_HireWritesEnd :
    (∃ (bytes : List Byte) (s : State) (w : WriteRequest) (issued : Ms) (h : HireRecord) (section_ : HireSection) (c :
    SentClaim), w.contents = .hire section_ ∧ w.requester = .hire ∧ s.tag.requests = [] ∧ s.hire.record = some h ∧
    h.writeRef = some w.ref ∧ h.kind = .member ∧ h.claim = some c ∧ s.straps.role = .post ∧ s.barred = false ∧
    s.line.clash = false ∧ s.line.queue.length ≤ 3 ∧ (∀ e ∈ s.line.queue, e.ref < s.line.nextRef) ∧ s.tag.operation =
    .write w true true true issued ∧ bytes ≠ sectionBytes w.contents ∧ s.hire.state = .tagging) ∧
    (∃ (bytes : List Byte) (s : State) (w : WriteRequest) (issued : Ms) (h : HireRecord) (section_ : HireSection) (c :
    SentClaim), w.contents = .hire section_ ∧ w.requester = .hire ∧ s.tag.requests = [] ∧ s.hire.record = some h ∧
    h.writeRef = some w.ref ∧ h.kind = .member ∧ h.claim = some c ∧ s.straps.role = .post ∧ s.barred = false ∧
    s.line.clash = false ∧ s.line.queue.length ≤ 3 ∧ (∀ e ∈ s.line.queue, e.ref < s.line.nextRef) ∧ s.tag.operation =
    .write w true true true issued ∧ bytes ≠ sectionBytes w.contents ∧ s.hire.state = .cancelling) ∧
    (∃ (s : State) (w : WriteRequest) (second : Bool) (issued : Ms) (h : HireRecord) (section_ : HireSection) (c :
    SentClaim) (back : Bool), w.contents = .hire section_ ∧ w.requester = .hire ∧ s.tag.requests = [] ∧ s.hire.record
    = some h ∧ h.writeRef = some w.ref ∧ h.kind = .member ∧ h.claim = some c ∧ s.straps.role = .post ∧ s.barred =
    false ∧ s.line.clash = false ∧ s.line.queue.length ≤ 3 ∧ (∀ e ∈ s.line.queue, e.ref < s.line.nextRef) ∧
    s.tag.operation = .write w second back false issued ∧ s.hire.state = .tagging) ∧
    (∃ (bytes : List Byte) (s : State) (w : WriteRequest) (second : Bool) (issued : Ms) (h : HireRecord) (section_ :
    HireSection) (c : SentClaim), w.contents = .hire section_ ∧ w.requester = .hire ∧ s.tag.requests = [] ∧
    s.hire.record = some h ∧ h.writeRef = some w.ref ∧ h.kind = .member ∧ h.claim = some c ∧ s.straps.role = .post ∧
    s.barred = false ∧ s.line.clash = false ∧ s.line.queue.length ≤ 3 ∧ (∀ e ∈ s.line.queue, e.ref < s.line.nextRef) ∧
    s.tag.operation = .write w second true true issued ∧ bytes = sectionBytes w.contents ∧ s.hire.state = .cancelling) :=
  ⟨⟨[], hiring (answeredWrite (.hire hireOpen) .hire true) .tagging { released55 with writeRef := some 4 }, write4
   (.hire hireOpen) .hire, 999985, { released55 with writeRef := some 4 }, hireOpen, claim4, by decide +kernel⟩,
   ⟨[], hiring (answeredWrite (.hire hireClosed) .hire true) .cancelling { released55 with writeRef := some 4 },
   write4 (.hire hireClosed) .hire, 999985, { released55 with writeRef := some 4 }, hireClosed, claim4, by
   decide +kernel⟩,
   ⟨hiring (operating docked (.write (write4 (.hire hireOpen) .hire) false false false 999995)) .tagging
   { released55 with writeRef := some 4 }, write4 (.hire hireOpen) .hire, false, 999995,
   { released55 with writeRef := some 4 }, hireOpen, claim4, false, by decide +kernel⟩,
   ⟨sectionBytes (.hire hireClosed), hiring (answeredWrite (.hire hireClosed) .hire false) .cancelling
   { released55 with writeRef := some 4 }, write4 (.hire hireClosed) .hire, false, 999985,
   { released55 with writeRef := some 4 }, hireClosed, claim4, by decide +kernel⟩⟩

theorem test_witness_FaresStayWithinTheCaps :
    ∃ (i : RatingInputs), i.plan.overdueFee ≤ 999999 ∧ (rate i).reason = .rated ∧ i.plan.rideCap ≠ 0 ∧ i.plan.dayCap ≠
    0 :=
  ⟨{ rating55 with plan := { plan2 with rideCap := 500 } }, by decide +kernel⟩

theorem test_witness_RidesArePricedByBlocks :
    (∃ (i : RatingInputs), i.atStartPost = true ∧ (i.end_ - i.start) ≤ i.plan.grace) ∧
    (∃ (i : RatingInputs), (i.atStartPost = false ∨ i.plan.grace < (i.end_ - i.start)) ∧ 86400 < (i.end_ - i.start)) ∧
    (∃ (i : RatingInputs), (i.atStartPost = false ∨ i.plan.grace < (i.end_ - i.start)) ∧ (i.end_ - i.start) ≤ 86400) ∧
    (∃ (i : RatingInputs), bandTableGood i.bands = true) :=
  ⟨⟨{ rating55 with end_ := 8660120, atStartPost := true }, by decide +kernel⟩,
   ⟨{ rating55 with end_ := 8746401 }, by decide +kernel⟩,
   ⟨{ rating55 with end_ := 8746400 }, by decide +kernel⟩,
   ⟨rating55, by decide +kernel⟩⟩

/-- The two blocks of the morning ride lie in the bands that start at 420 and 570. -/
theorem test_witness_RidesArePricedByBlocks_bands :
    ∃ (i : RatingInputs) (band : Nat → Band), i.atStartPost = false ∧ i.end_ - i.start ≤ 86400 ∧
      ∀ k, k < ((i.end_ - i.start + 59) / 60 - i.plan.freeMinutes + i.plan.blockMinutes - 1) / i.plan.blockMinutes →
        ∃ earlier later, i.bands = earlier ++ band k :: later ∧
          (band k).start ≤ (i.start + 60 * i.plan.freeMinutes + 60 * i.plan.blockMinutes * k) % 86400 / 60 ∧
          ∀ x ∈ later, (i.start + 60 * i.plan.freeMinutes + 60 * i.plan.blockMinutes * k) % 86400 / 60 < x.start := by
  refine ⟨morningRide, fun k => if k = 0 then { start := 420, cls := .a } else { start := 570, cls := .b }, rfl,
    by decide, fun k hk => ?_⟩
  have h2 : k < 2 := hk
  obtain rfl | rfl : k = 0 ∨ k = 1 := by omega
  · exact ⟨morningBands.take 1, morningBands.drop 2, by decide⟩
  · exact ⟨morningBands.take 2, morningBands.drop 3, by decide⟩

theorem test_witness_GatheringExpirySettlesUnrated :
    ∃ (name : SlotName) (s : State) (r : ReturnRecord) (time tariff station : Bool) (due : Ms), (s.settle.slot name =
    some { record := r, phase := .gathering time tariff station due }) ∧ (time = true ∨ tariff = true) ∧ s.straps.role
    = .post ∧ s.barred = false ∧ s.line.queue.length < 8 ∧ s.copyHeld = false ∧ (∀ e ∈ s.line.queue, e.ref <
    s.line.nextRef) :=
  ⟨.a, inSlotA { docked with tag := { docked.tag with copy := TagCopy.none_ } } ride55 (.gathering false true false
  1590000), ride55, false, true, false, 1590000, by decide +kernel⟩

theorem test_witness_GatheringExpiryWithoutStationRates :
    ∃ (name : SlotName) (s : State) (r : ReturnRecord) (due : Ms) (ms : Nat) (plan : PlanRecord), (s.settle.slot name
    = some { record := r, phase := .gathering false false true due }) ∧ r.end_ = .known ms ∧
    s.settle.active.planRecord r.plan = some plan ∧ s.peers.adoptedId = 0 :=
  ⟨.a, inSlotA { docked with peers := { docked.peers with adoptedId := 0 } } { ride55 with end_ := .known 8661800000 }
  (.gathering false false true 1590000), { ride55 with end_ := .known 8661800000 }, 1590000, 8661800000, plan2, by
  decide +kernel⟩

theorem test_witness_RatingCompleteOffersTheSettlement :
    (∃ (name : SlotName) (s : State) (r : ReturnRecord) (inputs : RatingInputs) (due : Ms), (s.settle.slot name = some
    { record := r, phase := .rating inputs due }) ∧ s.straps.role = .post ∧ s.settle.staging.complete = false ∧
    s.barred = false ∧ s.line.queue.length < 8 ∧ s.copyHeld = false ∧ (∀ e ∈ s.line.queue, e.ref < s.line.nextRef)) ∧
    (∃ (name : SlotName) (s : State) (r : ReturnRecord) (inputs : RatingInputs) (due : Ms), (s.settle.slot name = some
    { record := r, phase := .rating inputs due }) ∧ s.straps.role = .post ∧ s.settle.staging.complete = false ∧
    s.barred = true) :=
  ⟨⟨.a, inSlotA { docked with tag := { docked.tag with copy := TagCopy.none_ } } ride55 (.rating rating55 1000002),
   ride55, rating55, 1000002, by decide +kernel⟩,
   ⟨.a, inSlotA { docked with straps := { docked.straps with number := 31 } } ride55 (.rating rating55 1000002),
   ride55, rating55, 1000002, by decide +kernel⟩⟩

theorem test_witness_DoneSlotsEnd :
    (∃ (name : SlotName) (s : State) (r : ReturnRecord) (v : Settlement) (retry : Option Ms) (abandon : Ms) (i :
    IdSection) (due : Ms), (s.settle.slot name = some { record := r, phase := .done v retry abandon }) ∧ s.straps.role
    = .post ∧ s.copyId = some i ∧ i.bikeId = r.bikeId ∧ s.hire.state = .idle ∧ s.tag.operation = .idle ∧
    s.tag.requests = [] ∧ retry = some due ∧ s.barred = false ∧ s.line.queue.length < 8 ∧ (∀ e ∈ s.line.queue, e.ref <
    s.line.nextRef)) ∧
    (∃ (name : SlotName) (s : State) (r : ReturnRecord) (v : Settlement) (retry : Option Ms) (abandon : Ms) (i :
    IdSection) (due : Ms), (s.settle.slot name = some { record := r, phase := .done v retry abandon }) ∧ s.straps.role
    = .post ∧ s.copyId = some i ∧ i.bikeId = r.bikeId ∧ s.hire.state = .idle ∧ s.tag.operation = .idle ∧
    s.tag.requests = [] ∧ retry = some due ∧ s.barred = true) :=
  ⟨⟨.a, inSlotA docked ride55 (.done (rate rating55) (some 1000250) 1030000), ride55, rate rating55, some 1000250,
   1030000, bike77, 1000250, by decide +kernel⟩,
   ⟨.a, inSlotA { docked with straps := { docked.straps with number := 31 } } ride55 (.done (rate rating55) (some
   1000250) 1030000), ride55, rate rating55, some 1000250, 1030000, bike77, 1000250, by decide +kernel⟩⟩

theorem test_witness_EscalationRaisesTheLevel :
    (∃ (entries : List FaultEntry) (e : FaultEntry), 1 ≤ e.cls ∧ e.cls ≤ 5 ∧ (∃ a ∈ entries, ∃ b ∈ entries, a.cls =
    e.cls ∧ b.cls = e.cls ∧ a.reporter ≠ 0 ∧ b.reporter ≠ 0 ∧ a.reporter ≠ b.reporter)) ∧
    (∃ (entries : List FaultEntry) (e : FaultEntry), ((¬ ∃ a ∈ entries, ∃ b ∈ entries, a.cls = e.cls ∧ b.cls = e.cls ∧
    a.reporter ≠ 0 ∧ b.reporter ≠ 0 ∧ a.reporter ≠ b.reporter) ∨ e.cls = 0 ∨ 5 < e.cls)) ∧
    (∃ (s : State), s.dock.docked = true ∧ (s.tag.copy.state = .held ∨ s.tag.copy.state = .noTag)) ∧
    (∃ (s : State), s.dock.docked = false) :=
  ⟨⟨[fault2 7, fault2 8], fault2 7, by decide +kernel⟩,
   ⟨[fault2 7, fault2 7], fault2 7, by decide +kernel⟩,
   ⟨docked, by decide +kernel⟩,
   ⟨post, by decide +kernel⟩⟩

theorem test_witness_NewEntriesArePlaced :
    (∃ (entries : List FaultEntry), entries.length < 4) ∧
    (∃ (entries : List FaultEntry) (e : FaultEntry) (before : List FaultEntry) (oldest : FaultEntry) (after : List
    FaultEntry), entries.length = 4 ∧ entries = before ++ oldest :: after ∧ (∀ x ∈ entries, oldest.level ≤ x.level) ∧
    (∀ x ∈ before, x.level ≠ oldest.level) ∧ oldest.level ≤ 2 ∧ oldest.level ≤ e.level) ∧
    (∃ (entries : List FaultEntry) (e : FaultEntry) (before : List FaultEntry) (oldest : FaultEntry) (after : List
    FaultEntry), entries.length = 4 ∧ entries = before ++ oldest :: after ∧ (∀ x ∈ entries, oldest.level ≤ x.level) ∧
    (∀ x ∈ before, x.level ≠ oldest.level) ∧ oldest.level ≤ 2 ∧ e.level < oldest.level) ∧
    (∃ (entries : List FaultEntry) (e : FaultEntry) (s : State), s.workingList = entries ∧ s.faultsDamaged = false ∧
    placeEntry entries e = none) :=
  ⟨⟨[fault2 1, fault2 2, fault2 3], by decide +kernel⟩,
   ⟨[fault2 1, fault2 2, fault2 3, fault2 4], fault2 5, [], fault2 1, [fault2 2, fault2 3, fault2 4], by
   decide +kernel⟩,
   ⟨List.replicate 4 { fault2 1 with level := 2 }, fault2 5, [], { fault2 1 with level := 2 }, List.replicate 3
   { fault2 1 with level := 2 }, by decide +kernel⟩,
   ⟨List.replicate 4 { fault2 1 with level := 2 }, fault2 5,
   { docked with tag := { docked.tag with copy := { copy77 with faults := .good (List.replicate 4 { fault2 1 with level := 2 }) } } },
   by decide +kernel⟩⟩

theorem test_witness_ReportingWindowEnds :
    ∃ (s : State) (w : ReportWindow), s.fault.window = some w :=
  ⟨{ docked with fault := { docked.fault with window := some { crew := false, reporter := 55, expiresAt := 1050000, used := true } } },
  { crew := false, reporter := 55, expiresAt := 1050000, used := true }, by decide +kernel⟩

theorem test_witness_CollectRankingIsTheRuleOrder :
    (∃ (a b : RankKeys), a.station ≠ b.station) ∧
    (∃ (a b c : RankKeys), ranksBefore .collect a b = true ∧ ranksBefore .collect b c = true) ∧
    (∃ (s : State), s.isPost = true) ∧
    (∃ (s : State) (n : Nat) (b : Beacon), (s.storedPeer n).beacon = some b) ∧
    (∃ (w : VanWindow), w.mode = .collect) :=
  ⟨⟨{ level := 1, since := 0, station := 3 }, { level := 1, since := 0, station := 4 }, by decide +kernel⟩,
   ⟨{ level := 1, since := 5, station := 4 }, { level := 1, since := 0, station := 3 },
   { level := 0, since := 5, station := 2 }, by decide +kernel⟩,
   ⟨docked, by decide +kernel⟩,
   ⟨docked.setPeer 4 { liveEntry with beacon := some docked.ownBeacon }, 4, docked.ownBeacon, by decide +kernel⟩,
   ⟨window7 .collect, by decide +kernel⟩⟩

theorem test_witness_OfferRetryOffersAgain :
    (∃ (s : State) (due : Ms) (w : VanWindow), s.van.retryAt = some due ∧ s.straps.role = .post ∧ s.van.window = some
    w ∧ s.van.offer = .none_ ∧ w.accepted.length < w.places ∧ s.ownCandidate w = true ∧ s.ownRank w ≤ w.places -
    w.accepted.length ∧ s.barred = false ∧ s.line.clash = false ∧ s.line.queue.length < 8 ∧ (∀ e ∈ s.line.queue, e.ref
    < s.line.nextRef)) ∧
    (∃ (s : State) (due : Ms), s.van.retryAt = some due ∧ s.van.window = none) :=
  ⟨⟨{ inWindow docked .collect with van := { (inWindow docked .collect).van with retryAt := some 1000500 } }, 1000500,
   window7 .collect, by decide +kernel⟩,
   ⟨{ docked with van := { docked.van with retryAt := some 1000500 } }, 1000500, by decide +kernel⟩⟩

theorem test_witness_RequestsAreRefusedByRole :
    (∃ (s : State), (s.straps.role = .van ∨ s.straps.role = .monitor)) ∧
    (∃ (s : State), (s.straps.role = .terminal ∨ s.straps.role = .monitor)) ∧
    (∃ (body : List Byte) (s : State) (i : Instr), s.settled ∧ s.straps.role = .post ∧ i ∈ [Instr.status body,
    .peerRead body, .stationSet body, .timeSet body, .tariffLoad body, .tariffCommit body, .memberPush body,
    .faultClear body, .vanOpen body, .vanClose body, .eventRead body, .unknownRequest body]) :=
  ⟨⟨van, by decide +kernel⟩,
   ⟨term, by decide +kernel⟩,
   ⟨[1], (conclude docked), .status [1], ⟨by decide +kernel, by decide +kernel⟩, by decide +kernel⟩⟩

theorem test_witness_ReadingRequestsAreAnswered :
    (∃ (s : State), s.straps.role ≠ .post) ∧
    (∃ (s : State) (n : Nat), s.straps.role ≠ .post ∧ n ≤ 31) ∧
    (∃ (s : State) (n : Nat), s.straps.role ≠ .post ∧ 31 < n ∧ n < 256) ∧
    (∃ (s : State), s.straps.role ≠ .post ∧ s.port.events = []) ∧
    (∃ (s : State) (e : Event) (behind : List Event), s.straps.role ≠ .post ∧ s.port.events = e :: behind) :=
  ⟨⟨monitor, by decide +kernel⟩,
   ⟨term, 31, by decide +kernel⟩,
   ⟨term, 32, by decide +kernel⟩,
   ⟨van, by decide +kernel⟩,
   ⟨{ term with port := { term.port with events := [{ at_ := 5, body := .peerChange 3 .live true }] } },
   { at_ := 5, body := .peerChange 3 .live true }, [], by decide +kernel⟩⟩

theorem test_witness_ReadTransactionEmptiesTheBuffer :
    (∃ (count : Nat) (s : State) (r : Response), s.straps.role ≠ .post ∧ s.port.response = some r ∧ r.bytes.length ≤
    count) ∧
    (∃ (count : Nat) (s : State) (r : Response), s.straps.role ≠ .post ∧ s.port.response = some r ∧ count <
    r.bytes.length) ∧
    (∃ (s : State), s.straps.role ≠ .post ∧ s.port.response = none) :=
  ⟨⟨3, { term with port := { term.port with response := some { bytes := [1, 2, 3], carried := .nothing } } },
   { bytes := [1, 2, 3], carried := .nothing }, by decide +kernel⟩,
   ⟨2, { term with port := { term.port with response := some { bytes := [1, 2, 3], carried := .nothing } } },
   { bytes := [1, 2, 3], carried := .nothing }, by decide +kernel⟩,
   ⟨term, by decide +kernel⟩⟩

theorem test_witness_UnknownRequestIsRefused :
    (∃ (kind : Byte) (rest : List Byte) (s : State), s.straps.role ≠ .post ∧ kind ≠ 0x80 ∧ requestWellFormed (kind ::
    rest) = false) ∧
    (∃ (kind : Byte) (rest : List Byte) (s : State), s.straps.role ≠ .post ∧ kind ≠ 0x80 ∧ requestWellFormed (kind ::
    rest) = true ∧ (kind.toNat = 0 ∨ 11 < kind.toNat)) :=
  ⟨⟨1, [0], term, by decide +kernel⟩,
   ⟨12, (withCrc16 [12, 0]).drop 1, term, by decide +kernel⟩⟩

theorem test_witness_StationSetOnce :
    (∃ (id : Nat) (s : State), s.straps.role = .terminal ∧ id < 65536 ∧ id ≠ 0 ∧ s.terminal.stationId = 0) ∧
    (∃ (id : Nat) (s : State), s.straps.role = .terminal ∧ id < 65536 ∧ id ≠ 0 ∧ s.terminal.stationId ≠ 0) ∧
    (∃ (id : Nat) (s : State), s.straps.role = .terminal ∧ id < 65536 ∧ id = 0) :=
  ⟨⟨65535, term, by decide +kernel⟩,
   ⟨1, { term with terminal := { term.terminal with stationId := 412 } }, by decide +kernel⟩,
   ⟨0, term, by decide +kernel⟩⟩

theorem test_witness_TimeSetIsAdopted :
    (∃ (seconds millis : Nat) (s : State), s.straps.role = .terminal ∧ seconds < 2 ^ 32 ∧ millis ≤ 999 ∧ s.timQueued =
    true) ∧
    (∃ (seconds millis : Nat) (s : State), s.straps.role = .terminal ∧ seconds < 2 ^ 32 ∧ millis ≤ 999 ∧ s.timQueued =
    false ∧ s.line.queue.length < 8) ∧
    (∃ (seconds millis : Nat) (s : State), s.straps.role = .terminal ∧ seconds < 2 ^ 32 ∧ millis ≤ 999 ∧ s.timQueued =
    false ∧ s.line.queue.length = 8 ∧ (∀ e ∈ s.line.queue, e.kind.cls = 2)) :=
  ⟨⟨4294967295, 999, queueing term (entry .tim []), by decide +kernel⟩,
   ⟨8671000, 0, term, by decide +kernel⟩,
   ⟨8671000, 0, { term with line := { term.line with queue := List.replicate 8 (entry .bcn []) } }, by decide +kernel⟩⟩

theorem test_witness_TerminalTimersSend :
    (∃ (s : State) (due : Ms), s.straps.role = .terminal ∧ s.line.queue.length < 8 ∧ (∀ e ∈ s.line.queue, e.ref <
    s.line.nextRef) ∧ s.terminal.timAt = some due ∧ s.time.quality = .set ∧ s.timQueued = false) ∧
    (∃ (s : State) (due : Ms), s.straps.role = .terminal ∧ s.line.queue.length < 8 ∧ (∀ e ∈ s.line.queue, e.ref <
    s.line.nextRef) ∧ s.terminal.timAt = some due ∧ (s.time.quality ≠ .set ∨ s.timQueued = true)) ∧
    (∃ (s : State) (due : Ms) (piece : Piece), s.straps.role = .terminal ∧ s.line.queue.length < 8 ∧ (∀ e ∈
    s.line.queue, e.ref < s.line.nextRef) ∧ s.terminal.trfAt = some due ∧ s.terminal.active.pieces.getD
    s.terminal.trfIndex none = some piece) :=
  ⟨⟨{ term with terminal := { term.terminal with timAt := some 1010000, trfAt := some 1006000, trfIndex := 8, active := tariff5 } },
   1010000, by decide +kernel⟩,
   ⟨untimed { term with terminal := { term.terminal with timAt := some 1010000 } }, 1010000, by decide +kernel⟩,
   ⟨{ term with terminal := { term.terminal with trfAt := some 1006000, trfIndex := 8, active := tariff5 } }, 1006000,
   .bands [{ start := 0, cls := .a }], by decide +kernel⟩⟩

theorem test_witness_TariffIsLoadedAndCommitted :
    (∃ (body : List Byte) (s : State), s.straps.role = .terminal ∧ trfOf body = none) ∧
    (∃ (body : List Byte) (s : State) (v : TrfValues), s.straps.role = .terminal ∧ trfOf body = some v ∧ (v.version ≤
    s.terminal.active.version ∨ v.version < s.terminal.staging.version)) ∧
    (∃ (body : List Byte) (s : State) (v : TrfValues), s.straps.role = .terminal ∧ trfOf body = some v ∧
    s.terminal.active.version < v.version ∧ s.terminal.staging.version ≤ v.version ∧ s.line.queue.length < 8) ∧
    (∃ (s : State), s.straps.role = .terminal ∧ s.terminal.staging.complete = true) ∧
    (∃ (s : State), s.straps.role = .terminal ∧ s.terminal.staging.complete = false) :=
  ⟨⟨[1], term, by decide +kernel⟩,
   ⟨trfBody 5 0 (.plan (some plan2)), { term with terminal := { term.terminal with active := tariff5 } },
   { version := 5, index := 0, piece := .plan (some plan2) }, by decide +kernel⟩,
   ⟨trfBody 6 0 (.plan (some plan2)), { term with terminal := { term.terminal with active := tariff5 } },
   { version := 6, index := 0, piece := .plan (some plan2) }, by decide +kernel⟩,
   ⟨{ term with terminal := { term.terminal with staging := tariff5 } }, by decide +kernel⟩,
   ⟨term, by decide +kernel⟩⟩

theorem test_witness_RequestsQueueTheirNotice :
    (∃ (body : List Byte) (s : State) (e : ViewEntry), s.line.queue.length < 8 ∧ (∀ e ∈ s.line.queue, e.ref <
    s.line.nextRef) ∧ s.straps.role = .terminal ∧ mbrOf body = some e) ∧
    (∃ (body : List Byte) (s : State) (bike cls : Nat), s.line.queue.length < 8 ∧ (∀ e ∈ s.line.queue, e.ref <
    s.line.nextRef) ∧ s.straps.role = .terminal ∧ body = be4 bike ++ be1 cls ∧ bike ≠ 0 ∧ bike < 2 ^ 32 ∧ cls ∈ [0, 1,
    2, 3, 4, 5, 8, 9, 10, 11]) ∧
    (∃ (body : List Byte) (s : State) (v : VopValues), (∀ w, s.van.window = some w → w.serial ≠ v.serial) ∧
    s.line.queue.length < 8 ∧ (∀ e ∈ s.line.queue, e.ref < s.line.nextRef) ∧ s.straps.role = .van ∧ vopOf body = some
    v) ∧
    (∃ (body : List Byte) (s : State) (w : VanWindow), s.line.queue.length < 8 ∧ (∀ e ∈ s.line.queue, e.ref <
    s.line.nextRef) ∧ s.straps.role = .van ∧ s.van.window = some w ∧ body = be1 w.serial ∧ w.serial < 256) :=
  ⟨⟨mbrBody entry55, term, entry55, by decide +kernel⟩,
   ⟨be4 77 ++ be1 11, term, 77, 11, by decide +kernel⟩,
   ⟨vopBody vop7, van, vop7, (by intro _ h; cases h), by decide +kernel⟩,
   ⟨be1 7, inWindow van .collect, window7 .collect, by decide +kernel⟩⟩

theorem test_witness_FramesAreTakenAsBuilt :
    ∃ (kind : Kind) (sender : Nat) (body : List Byte), sender ≤ 31 ∧ bodyAllowed kind body = true :=
  ⟨.clm, 31, be4 55 ++ be1 2, by decide +kernel⟩

theorem test_witness_NoticesAreReadAsBuilt :
    (∃ (e : ViewEntry), 0 < e.member ∧ e.member < 2 ^ 32 ∧ e.plan ≤ 7 ∧ e.allowance ≤ 4 ∧ e.bikesOut ≤ 15 ∧ e.day < 2
    ^ 16 ∧ e.spend ≤ 999999 ∧ e.minSequence < 256 ∧ e.updatedAt < 2 ^ 32) ∧
    (∃ (v : VopValues), 1 ≤ v.serial ∧ v.serial ≤ 255 ∧ 1 ≤ v.places ∧ v.places ≤ 12 ∧ 0 < v.crew ∧ v.crew < 2 ^ 32 ∧
    60 ≤ v.seconds ∧ v.seconds ≤ 1800) ∧
    (∃ (b : Beacon), b.role < 256 ∧ b.postState < 256 ∧ b.bikeId < 2 ^ 32 ∧ b.bikeFault < 256 ∧ b.postFault < 256 ∧
    b.dockedSince < 2 ^ 32 ∧ b.charge < 256 ∧ b.tariff < 2 ^ 16 ∧ b.quality < 256 ∧ b.stationId < 2 ^ 16) :=
  ⟨⟨{ entry55 with plan := 7, allowance := 4, bikesOut := 15, spend := 999999 }, by decide +kernel⟩,
   ⟨{ vop7 with places := 12, seconds := 1800 }, by decide +kernel⟩,
   ⟨docked.ownBeacon, by decide +kernel⟩⟩

theorem test_witness_SectionsAreReadAsWritten :
    (∃ (h : HireSection), h.member < 2 ^ 32 ∧ h.plan < 256 ∧ h.start < 2 ^ 32 ∧ h.startStation < 2 ^ 16 ∧ h.startPost
    < 256 ∧ h.startDay < 2 ^ 16 ∧ h.startSpend < 2 ^ 24 ∧ h.endAt < 2 ^ 32 ∧ hireRangesGood h = true) ∧
    (∃ (l : LastSection), (∀ cents, l.fare = .charge cents → cents ≤ 999999) ∧ l.endAt < 2 ^ 32 ∧ l.tariff < 2 ^ 16) ∧
    (∃ (entries : List FaultEntry), entries.length ≤ 4 ∧ (∀ e ∈ entries, e.reporter < 2 ^ 32 ∧ (e.level = 1 ∨ e.level
    = 2) ∧ ((1 ≤ e.cls ∧ e.cls ≤ 5 ∧ e.source ≠ .auto) ∨ (e.cls = 8 ∧ e.source = .auto)))) :=
  ⟨⟨hireOpen, by decide +kernel⟩,
   ⟨{ fare := .charge 999999, reason := .rated, endAt := 8661800, tariff := 5 }, (by
   intro _ h; cases h; decide +kernel), by decide +kernel⟩,
   ⟨[fault2 7, fault2 8, fault2 9, { cls := 8, level := 2, source := .auto, reporter := 0 }], by decide +kernel⟩⟩

theorem test_witness_TariffPiecesAreReadAsBuilt :
    (∃ (version index : Nat), 1 ≤ version ∧ version < 2 ^ 16 ∧ index ≤ 7) ∧
    (∃ (version index : Nat) (p : PlanRecord), 1 ≤ version ∧ version < 2 ^ 16 ∧ index ≤ 7 ∧ p.freeMinutes ≤ 240 ∧ 1 ≤
    p.blockMinutes ∧ p.blockMinutes ≤ 120 ∧ p.rateA < 2 ^ 16 ∧ p.rateB < 2 ^ 16 ∧ p.rateC < 2 ^ 16 ∧ p.rateD < 2 ^ 16
    ∧ p.surcharge < 2 ^ 16 ∧ p.rideCap ≤ 999999 ∧ p.dayCap ≤ 999999 ∧ p.overdueFee ≤ 999999 ∧ p.grace ≤ 600) ∧
    (∃ (version : Nat) (table : List Band), 1 ≤ version ∧ version < 2 ^ 16 ∧ bandTableGood table = true) :=
  ⟨⟨65535, 7, by decide +kernel⟩,
   ⟨1, 7, ({ plan2 with freeMinutes := 240, blockMinutes := 120, grace := 600 } : PlanRecord), by decide +kernel⟩,
   ⟨1, [{ start := 0, cls := .a }, { start := 1439, cls := .d }], by decide +kernel⟩⟩

theorem test_witness_BytesAreSentAsBits :
    (∃ (s : State) (x : Transmission) (j p : Nat) (data : Byte), s.line.tx = some x ∧ x.bytes[j]? = some data ∧ p < 11
    ∧ usBetween x.start s.clock / s.bitUs = 11 * j + p ∧ p = 0) ∧
    (∃ (s : State) (x : Transmission) (j p : Nat) (data : Byte), s.line.tx = some x ∧ x.bytes[j]? = some data ∧ p < 11
    ∧ usBetween x.start s.clock / s.bitUs = 11 * j + p ∧ 1 ≤ p ∧ p ≤ 8) ∧
    (∃ (s : State) (x : Transmission) (j p : Nat) (data : Byte), s.line.tx = some x ∧ x.bytes[j]? = some data ∧ p < 11
    ∧ usBetween x.start s.clock / s.bitUs = 11 * j + p ∧ p = 9) ∧
    (∃ (s : State) (x : Transmission) (j p : Nat) (data : Byte), s.line.tx = some x ∧ x.bytes[j]? = some data ∧ p < 11
    ∧ usBetween x.start s.clock / s.bitUs = 11 * j + p ∧ p = 10) ∧
    (∃ (s : State), s.line.tx = none) ∧
    (∃ (s : State) (j p : Nat) (data : Byte), s.port.shiftedOut[j]? = some data ∧ p < 8) :=
  ⟨⟨sending docked (entry .clm []), attempt docked (entry .clm []), 0, 0, (attempt docked (entry .clm [])).bytes.headD
   0, by decide +kernel⟩,
   ⟨{ sending docked (entry .clm []) with clock := docked.clock.plusUs (8 * docked.bitUs) }, attempt docked (entry
   .clm []), 0, 8, (attempt docked (entry .clm [])).bytes.headD 0, by decide +kernel⟩,
   ⟨{ sending docked (entry .clm []) with clock := docked.clock.plusUs (20 * docked.bitUs) }, attempt docked (entry
   .clm []), 1, 9, 1, by decide +kernel⟩,
   ⟨{ sending docked (entry .clm []) with clock := docked.clock.plusUs (10 * docked.bitUs) }, attempt docked (entry
   .clm []), 0, 10, (attempt docked (entry .clm [])).bytes.headD 0, by decide +kernel⟩,
   ⟨docked, by decide +kernel⟩,
   ⟨{ term with port := { term.port with shiftedOut := [5] } }, 0, 7, 5, by decide +kernel⟩⟩

theorem test_witness_DaySpendIsReadByTheDay :
    (∃ (s : State) (e : ViewEntry), (s.time.quality = .unset ∨ s.today ≤ e.day) ∧ s.view.find e.member = some e ∧
    s.time.quality ≠ .unset) ∧
    (∃ (s : State) (e : ViewEntry), s.time.quality ≠ .unset ∧ e.day < s.today) ∧
    (∃ (s : State) (e : ViewEntry) (a : Answer), (s.cardReading e.member).2 = some a ∧ s.view.find e.member = some e) ∧
    (∃ (s : State) (e : ViewEntry) (a : Answer), s.view.find e.member = some e ∧ a.unverified = false) :=
  ⟨⟨knowing docked, entry55, by decide +kernel⟩,
   ⟨docked, { entry55 with day := 99 }, by decide +kernel⟩,
   ⟨knowing docked, entry55, ((knowing docked).cardReading 55).2.get rfl, by decide +kernel⟩,
   ⟨knowing docked, entry55, hire55.answer.get rfl, by decide +kernel⟩⟩

end Sys2Proof.Tests
end

section
/-! What the blocks of a station do to its stores: an operation of a block moves the line controller by offers alone, and
every bound of a store that held before it holds after it. -/

namespace Sys2Proof.Machine

/-! ### The transmit queue under its edits -/

/-- The replacement of a body moves no entry and keeps each reference and kind. -/
theorem replaceBody_map {α : Type} (g : TxEntry → α) (hg : ∀ (e : TxEntry) (b : List Byte), g { e with body := b } = g e)
    (ref : Nat) (body : List Byte) (q : List TxEntry) : (replaceBody ref body q).map g = q.map g := by
  simp only [replaceBody, List.map_map]
  refine List.map_congr_left (fun e _ => ?_)
  simp only [Function.comp_apply]
  split
  · exact hg e body
  · rfl

theorem mem_replaceBody {ref : Nat} {body : List Byte} {q : List TxEntry} {e : TxEntry} (h : e ∈ replaceBody ref body q) :
    ∃ x ∈ q, x.ref = e.ref ∧ x.kind = e.kind := by
  obtain ⟨x, hx, rfl⟩ := List.mem_map.1 h
  exact ⟨x, hx, by split <;> rfl, by split <;> rfl⟩

/-- The class order of a queue after an insertion. -/
theorem insertEntry_pairwise (e : TxEntry) {q : List TxEntry} (h : q.Pairwise (fun a b => a.kind.cls ≤ b.kind.cls)) :
    (insertEntry e q).Pairwise (fun a b => a.kind.cls ≤ b.kind.cls) := by
  induction q with
  | nil => simp [insertEntry]
  | cons x rest ih =>
    obtain ⟨hx, hrest⟩ := List.pairwise_cons.1 h
    by_cases hc : x.kind.cls ≤ e.kind.cls
    · have hcons : insertEntry e (x :: rest) = x :: insertEntry e rest := by simp [insertEntry, hc]
      rw [hcons, List.pairwise_cons]
      refine ⟨fun y hy => ?_, ih hrest⟩
      rcases (mem_insertEntry e y rest).1 hy with rfl | hy
      · exact hc
      · exact hx y hy
    · have hcons : insertEntry e (x :: rest) = e :: x :: rest := by simp [insertEntry, hc]
      rw [hcons, List.pairwise_cons]
      refine ⟨fun y hy => ?_, h⟩
      rcases List.mem_cons.1 hy with rfl | hy
      · omega
      · have := hx y hy; omega

/-- An insertion adds the entry and keeps the others in their order. -/
theorem insertEntry_perm (e : TxEntry) (q : List TxEntry) : (insertEntry e q).Perm (e :: q) := by
  have h := List.perm_middle (a := e) (l₁ := q.takeWhile (fun x => decide (x.kind.cls ≤ e.kind.cls)))
    (l₂ := q.dropWhile (fun x => decide (x.kind.cls ≤ e.kind.cls)))
  rwa [List.takeWhile_append_dropWhile] at h

theorem removeEntry_sublist (ref : Nat) (q : List TxEntry) : (removeEntry ref q).Sublist q := List.filter_sublist

theorem mem_removeEntry {ref : Nat} {q : List TxEntry} {e : TxEntry} : e ∈ removeEntry ref q ↔ e ∈ q ∧ e.ref ≠ ref := by
  simp [removeEntry]

/-- The removal of a queued entry leaves a shorter queue. -/
theorem removeEntry_length_lt {e : TxEntry} {q : List TxEntry} (h : e ∈ q) : (removeEntry e.ref q).length < q.length := by
  unfold removeEntry
  refine List.length_filter_lt_length_iff_exists.2 ⟨e, h, by simp⟩

/-! ### The soundness of the queue and of its references -/

/-- What `State.queueSound` says of a queue. -/
def queueInOrder (q : List TxEntry) : Prop :=
  q.length ≤ 8 ∧ q.Pairwise (fun a b => a.kind.cls ≤ b.kind.cls) ∧ (q.filter (fun e => decide (e.kind = .bcn))).length ≤ 1

theorem State.queueSound_iff (s : State) : s.queueSound ↔ queueInOrder s.line.queue := Iff.rfl

/-- What `State.refsSound` says of a queue and the next reference. -/
def refsBelow (q : List TxEntry) (next : Nat) : Prop := (∀ e ∈ q, e.ref < next) ∧ (q.map TxEntry.ref).Nodup

theorem State.refsSound_iff (s : State) : s.refsSound ↔ refsBelow s.line.queue s.line.nextRef := Iff.rfl

theorem queueInOrder.sublist {p q : List TxEntry} (h : queueInOrder q) (hs : p.Sublist q) : queueInOrder p := by
  obtain ⟨hlen, horder, hbcn⟩ := h
  exact ⟨hs.length_le.trans hlen, horder.sublist hs, (hs.filter _).length_le.trans hbcn⟩

/-- The order of a queue is that of the kinds in it. -/
theorem queueInOrder_iff_kinds (q : List TxEntry) :
    queueInOrder q ↔ (q.map TxEntry.kind).length ≤ 8 ∧ (q.map TxEntry.kind).Pairwise (fun a b => a.cls ≤ b.cls) ∧
      ((q.map TxEntry.kind).filter (fun k => decide (k = .bcn))).length ≤ 1 := by
  simp [queueInOrder, List.pairwise_map, List.filter_map, Function.comp_def]

theorem queueInOrder_replaceBody (ref : Nat) (body : List Byte) (q : List TxEntry) :
    queueInOrder (replaceBody ref body q) ↔ queueInOrder q := by
  rw [queueInOrder_iff_kinds, queueInOrder_iff_kinds q, replaceBody_map TxEntry.kind (fun _ _ => rfl)]

/-- An insertion into a queue with room keeps it in order, a beacon where none is queued. -/
theorem queueInOrder.insertEntry {e : TxEntry} {q : List TxEntry} (h : queueInOrder q) (hroom : q.length < 8)
    (hbcn : e.kind = .bcn → q.find? (fun x => decide (x.kind = .bcn)) = none) : queueInOrder (insertEntry e q) := by
  obtain ⟨_, horder, hone⟩ := h
  refine ⟨by rw [length_insertEntry]; omega, insertEntry_pairwise e horder, ?_⟩
  rw [((insertEntry_perm e q).filter _).length_eq, List.filter_cons]
  split
  · rename_i hk
    have hnone := hbcn (by simpa using hk)
    rw [List.find?_eq_none] at hnone
    rw [List.filter_eq_nil_iff.2 hnone]
    simp
  · exact hone

theorem refsBelow.sublist {p q : List TxEntry} {n : Nat} (h : refsBelow q n) (hs : p.Sublist q) : refsBelow p n :=
  ⟨fun e he => h.1 e (hs.subset he), h.2.sublist (hs.map _)⟩

theorem refsBelow_replaceBody (ref : Nat) (body : List Byte) (q : List TxEntry) (n : Nat) (h : refsBelow q n) :
    refsBelow (replaceBody ref body q) n := by
  obtain ⟨hlt, hnodup⟩ := h
  refine ⟨fun e he => ?_, by rwa [replaceBody_map TxEntry.ref (fun _ _ => rfl)]⟩
  obtain ⟨x, hx, hr, _⟩ := mem_replaceBody he
  exact hr ▸ hlt x hx

/-- A new entry takes the next reference. -/
theorem refsBelow.insertEntry {e : TxEntry} {q : List TxEntry} {n : Nat} (h : refsBelow q n) (he : e.ref = n) :
    refsBelow (insertEntry e q) (n + 1) := by
  obtain ⟨hlt, hnodup⟩ := h
  refine ⟨fun x hx => ?_, ?_⟩
  · rcases (mem_insertEntry e x q).1 hx with rfl | hx
    · omega
    · exact (hlt x hx).trans (Nat.lt_succ_self n)
  · rw [((insertEntry_perm e q).map TxEntry.ref).nodup_iff, List.map_cons, List.nodup_cons]
    refine ⟨fun hm => ?_, hnodup⟩
    obtain ⟨x, hx, hr⟩ := List.mem_map.1 hm
    have := hlt x hx
    omega

/-! ### What an enqueueing and an offer do -/

/-- An enqueueing places the new entry in a queue with room: the queue as it was, or the queue without an entry it
displaces from a full one. Or it changes nothing (R8). -/
theorem State.enqueue_cases (kind : Kind) (body : List Byte) (s : State) :
    (s.enqueue kind body).1 = s ∨
      ∃ kept, kept.Sublist s.line.queue ∧ (s.line.queue.length ≤ 8 → kept.length < 8) ∧
        (s.enqueue kind body).1 =
          { s with
            line := { s.line with queue := insertEntry (s.newEntry kind body) kept, nextRef := s.line.nextRef + 1 } } := by
  unfold State.enqueue
  split
  · exact .inr ⟨s.line.queue, List.Sublist.refl _, fun _ => by assumption, rfl⟩
  · split
    · rename_i e he
      have hmem : e ∈ s.line.queue := List.mem_of_mem_filter (List.mem_of_getLast? he)
      exact .inr ⟨_, removeEntry_sublist e.ref _, fun h => (removeEntry_length_lt hmem).trans_le h, rfl⟩
    · exact .inl rfl

/-- What an offer does to a station: nothing, or a beacon body held aside or replaced in place, or an enqueueing of a
frame that is not refused, a beacon where none is queued (R8, R9). -/
theorem State.offer_cases (kind : Kind) (body : List Byte) (s : State) :
    (s.offer kind body).1 = s ∨
      (s.refusesOffer kind = false ∧
        ((s.offer kind body).1 = { s with line := { s.line with heldBeacon := some body } } ∨
        (∃ ref, (s.offer kind body).1 = { s with line := { s.line with queue := replaceBody ref body s.line.queue } }) ∨
        ((kind = .bcn → s.line.queuedBeacon = none) ∧ (s.offer kind body).1 = (s.enqueue kind body).1))) := by
  unfold State.offer
  split
  · exact .inl rfl
  · rename_i hr
    refine .inr ⟨by simpa using hr, ?_⟩
    split
    · split
      · split
        · exact .inl rfl
        · exact .inr (.inl ⟨_, rfl⟩)
      · exact .inr (.inr ⟨fun _ => by assumption, rfl⟩)
    · rename_i hk
      exact .inr (.inr ⟨fun h => absurd h hk, rfl⟩)

theorem State.offer_queueSound (kind : Kind) (body : List Byte) (s : State) (h : s.queueSound) :
    (s.offer kind body).1.queueSound := by
  rw [State.queueSound_iff] at h ⊢
  rcases s.offer_cases kind body with ho | ⟨_, ho | ⟨ref, ho⟩ | ⟨hb, ho⟩⟩ <;> rw [ho]
  · exact h
  · exact h
  · exact (queueInOrder_replaceBody ref body _).2 h
  · rcases s.enqueue_cases kind body with he | ⟨kept, hsub, hroom, he⟩ <;> rw [he]
    · exact h
    · refine (h.sublist hsub).insertEntry (hroom h.1) (fun hk => ?_)
      have hnone := hb hk
      rw [Line.queuedBeacon, List.find?_eq_none] at hnone
      exact List.find?_eq_none.2 (fun x hx => hnone x (hsub.subset hx))

theorem State.offer_refsSound (kind : Kind) (body : List Byte) (s : State) (h : s.refsSound) :
    (s.offer kind body).1.refsSound := by
  rw [State.refsSound_iff] at h ⊢
  rcases s.offer_cases kind body with ho | ⟨_, ho | ⟨ref, ho⟩ | ⟨_, ho⟩⟩ <;> rw [ho]
  · exact h
  · exact h
  · exact refsBelow_replaceBody ref body _ _ h
  · rcases s.enqueue_cases kind body with he | ⟨kept, hsub, _, he⟩ <;> rw [he]
    · exact h
    · exact (h.sublist hsub).insertEntry rfl

/-- A station that may send nothing refuses every offer (R12, R20). -/
theorem State.offer_of_silent (kind : Kind) (body : List Byte) (s : State) (h : s.sends = false ∨ s.barred = true) :
    s.offer kind body = (s, none) :=
  s.offer_refused kind body (by rcases h with h | h <;> simp [State.refusesOffer, h])

/-- Under the clash mark an offer queues no frame of class 0 (R19). -/
theorem State.offer_classZero (kind : Kind) (body : List Byte) (s : State) (hclash : s.line.clash = true)
    {e : TxEntry} (he : e ∈ (s.offer kind body).1.line.queue) (hcls : e.kind.cls = 0) :
    ∃ x ∈ s.line.queue, x.ref = e.ref ∧ x.kind = e.kind := by
  rcases s.offer_cases kind body with ho | ⟨hr, ho | ⟨ref, ho⟩ | ⟨_, ho⟩⟩ <;> rw [ho] at he
  · exact ⟨e, he, rfl, rfl⟩
  · exact ⟨e, he, rfl, rfl⟩
  · exact mem_replaceBody he
  · rcases s.enqueue_cases kind body with hq | ⟨kept, hsub, _, hq⟩ <;> rw [hq] at he
    · exact ⟨e, he, rfl, rfl⟩
    · rcases (mem_insertEntry _ _ _).1 he with rfl | he
      · have hk : kind.cls = 0 := hcls
        simp [State.refusesOffer, hclash, hk] at hr
      · exact ⟨e, hsub.subset he, rfl, rfl⟩

/-- An offer moves the queue, the next reference and the held beacon alone. -/
theorem State.offer_eq (kind : Kind) (body : List Byte) (s : State) :
    (s.offer kind body).1 =
      { s with
        line := { s.line with
          queue := (s.offer kind body).1.line.queue, nextRef := (s.offer kind body).1.line.nextRef
          heldBeacon := (s.offer kind body).1.line.heldBeacon } } := by
  rcases s.offer_cases kind body with ho | ⟨_, ho | ⟨ref, ho⟩ | ⟨_, ho⟩⟩ <;> rw [ho]
  have hq := s.enqueue_eq kind body
  generalize (s.enqueue kind body).1 = t at hq
  rw [hq]

end Sys2Proof.Machine
end

section
/-! The work of a station's blocks (chapters 2 to 10): each operation of the hire controller, the settlement unit, the tag
port, the dock mechanism, the fault unit, the van window unit and the listeners. -/

namespace Sys2Proof.Machine

/-! ### The relation -/

/-- What the bounds of the stores speak of, the bad-frame record apart. -/
def State.stores (s : State) :=
  (s.straps, s.view.entries, s.hire.claims, s.peers.entries, s.port, s.van.window, s.card, s.dock.count, s.dock.noise,
    s.dock.burst, s.terminal)

/-- `State.storesBounded`, its parts by name. -/
structure Bounded (s : State) : Prop where
  badFrames : s.line.badFrames.length ≤ 21
  peers : s.peers.entries.length = 32
  events : s.port.events.length ≤ 64
  accepted : s.van.window.all (fun w => decide (w.accepted.length ≤ w.places)) = true
  chars : s.card.assembler = .complete ∧ s.card.chars.length = 16 ∨ s.card.chars.length < 16
  run : s.card.unreadableRun ≤ 8
  count : s.dock.count ≤ 15
  noise : s.dock.noise ≤ 16
  burst : s.dock.burst.all (fun b => decide (b.count ≤ 255)) = true

theorem State.storesBounded_iff (s : State) : s.storesBounded ↔ Bounded s := by
  constructor
  · rintro ⟨badFrames, peers, events, accepted, chars, run, count, noise, burst⟩
    exact ⟨badFrames, peers, events, accepted, chars, run, count, noise, burst⟩
  · rintro ⟨badFrames, peers, events, accepted, chars, run, count, noise, burst⟩
    exact ⟨badFrames, peers, events, accepted, chars, run, count, noise, burst⟩

/-- From `s` to `t` every store keeps its bound, a post's port is not used, and the terminal's store stays as a full reset
leaves it in another role. -/
structure StoresKept (s t : State) : Prop where
  view : s.viewSound → t.viewSound
  claims : s.claimsSound → t.claimsSound
  bounds : Bounded s → Bounded t
  port : s.straps.role = .post → t.port = s.port
  terminal : s.straps.role ≠ .terminal → s.terminal = TerminalStore.afterReset → t.terminal = TerminalStore.afterReset

/-- From `s` to `t` the blocks of the station have worked: the line controller has taken their offers and nothing else, and
every store has kept its bound. -/
structure Works (s t : State) : Prop where
  straps : t.straps = s.straps
  line : t.line =
    { s.line with queue := t.line.queue, nextRef := t.line.nextRef, heldBeacon := t.line.heldBeacon }
  queue : s.queueSound → t.queueSound
  refs : s.refsSound → t.refsSound
  silent : s.sends = false ∨ s.barred = true → t.line.queue = s.line.queue
  classZero : s.line.clash = true → ∀ e ∈ t.line.queue, e.kind.cls = 0 → ∃ x ∈ s.line.queue, x.ref = e.ref ∧ x.kind = e.kind
  stores : StoresKept s t

theorem StoresKept.refl (s : State) : StoresKept s s := ⟨id, id, id, fun _ => rfl, fun _ => id⟩

theorem StoresKept.trans {s u t : State} (h : StoresKept s u) (k : StoresKept u t) (hs : u.straps = s.straps) :
    StoresKept s t where
  view := k.view ∘ h.view
  claims := k.claims ∘ h.claims
  bounds := k.bounds ∘ h.bounds
  port hr := (k.port (hs ▸ hr)).trans (h.port hr)
  terminal hr := k.terminal (hs ▸ hr) ∘ h.terminal hr

/-- Nothing that a bound speaks of has moved. -/
theorem StoresKept.of_eq {s t : State} (h : t.stores = s.stores) (hl : t.line.badFrames = s.line.badFrames) :
    StoresKept s t := by
  obtain ⟨_, hview, hclaims, hpeers, hport, hwindow, hcard, hcount, hnoise, hburst, hterminal⟩ :
      t.straps = s.straps ∧ t.view.entries = s.view.entries ∧ t.hire.claims = s.hire.claims ∧
        t.peers.entries = s.peers.entries ∧ t.port = s.port ∧ t.van.window = s.van.window ∧ t.card = s.card ∧
        t.dock.count = s.dock.count ∧ t.dock.noise = s.dock.noise ∧ t.dock.burst = s.dock.burst ∧
        t.terminal = s.terminal := by
    simpa [State.stores] using h
  refine ⟨?_, ?_, ?_, fun _ => hport, fun _ => hterminal.trans⟩
  · rw [State.viewSound, State.viewSound, hview]; exact id
  · rw [State.claimsSound, State.claimsSound, hclaims]; exact id
  · rintro ⟨badFrames, peers, events, accepted, chars, run, count, noise, burst⟩
    exact ⟨hl ▸ badFrames, hpeers ▸ peers, hport ▸ events, hwindow ▸ accepted, hcard ▸ chars, hcard ▸ run,
      hcount ▸ count, hnoise ▸ noise, hburst ▸ burst⟩

/-- A count or a list has moved within its bound. -/
theorem StoresKept.of_bounds {s t : State} (hv : t.view.entries = s.view.entries) (hc : t.hire.claims = s.hire.claims)
    (hp : t.port = s.port) (ht : t.terminal = s.terminal) (hb : Bounded s → Bounded t) : StoresKept s t where
  view := by rw [State.viewSound, State.viewSound, hv]; exact id
  claims := by rw [State.claimsSound, State.claimsSound, hc]; exact id
  bounds := hb
  port := fun _ => hp
  terminal := fun _ => ht.trans

theorem Works.refl (s : State) : Works s s :=
  ⟨rfl, rfl, id, id, fun _ => rfl, fun _ e he _ => ⟨e, he, rfl, rfl⟩, .refl s⟩

theorem Works.trans {s u t : State} (h : Works s u) (k : Works u t) : Works s t where
  straps := k.straps.trans h.straps
  line := by rw [k.line, h.line]
  queue := k.queue ∘ h.queue
  refs := k.refs ∘ h.refs
  silent hr := (k.silent (by simpa only [State.sends, State.barred, h.straps] using hr)).trans (h.silent hr)
  classZero hc e he hk := by
    obtain ⟨x, hx, hr, hkind⟩ := k.classZero (by rw [h.line]; exact hc) e he hk
    obtain ⟨y, hy, hr', hkind'⟩ := h.classZero hc x hx (hkind ▸ hk)
    exact ⟨y, hy, hr'.trans hr, hkind'.trans hkind⟩
  stores := h.stores.trans k.stores h.straps

section
variable {s u t : State}

/-- A step that leaves the line controller alone. -/
theorem Works.apart (h : Works s u) (hs : t.straps = u.straps) (hl : t.line = u.line) (k : StoresKept u t) : Works s t :=
  h.trans
    { straps := hs
      line := by rw [hl]
      queue := by rw [State.queueSound_iff, State.queueSound_iff, hl]; exact id
      refs := by rw [State.refsSound_iff, State.refsSound_iff, hl]; exact id
      silent := fun _ => by rw [hl]
      classZero := fun _ e he _ => ⟨e, hl ▸ he, rfl, rfl⟩
      stores := k }

/-- A step on what no bound speaks of. -/
theorem Works.edit (h : Works s u) (hl : t.line = u.line) (hs : t.stores = u.stores) : Works s t :=
  h.apart (congrArg Prod.fst hs) hl (.of_eq hs (by rw [hl]))

theorem Works.offer {kind : Kind} {body : List Byte} (h : Works s u) : Works s (u.offer kind body).1 :=
  h.trans
    { straps := by simp
      line := congrArg State.line (u.offer_eq kind body)
      queue := u.offer_queueSound kind body
      refs := u.offer_refsSound kind body
      silent := fun hr => by rw [u.offer_of_silent kind body hr]
      classZero := fun hc _ he hk => u.offer_classZero kind body hc he hk
      stores := by
        refine .of_eq (by simp [State.stores]) ?_
        rw [congrArg State.line (u.offer_eq kind body)] }

/-- The state an offer leaves, as its answer is matched. -/
theorem Works.of_offer {kind : Kind} {body : List Byte} {r : Option Nat} (heq : u.offer kind body = (t, r))
    (h : Works s u) : Works s t := by
  have := h.offer (kind := kind) (body := body)
  rwa [heq] at this

theorem Works.send {kind : Kind} {body : List Byte} (h : Works s u) : Works s (u.send kind body) := h.offer

theorem Works.ite {c : Prop} [Decidable c] {a b : State} (ha : Works s a) (hb : Works s b) :
    Works s (if c then a else b) := by
  split
  · exact ha
  · exact hb

/-- A fold of steps each of which is the blocks' work. -/
theorem Works.foldl {α : Type} {f : State → α → State} (hf : ∀ u a, Works s u → Works s (f u a)) :
    ∀ (l : List α) {u : State}, Works s u → Works s (l.foldl f u)
  | [], _, h => h
  | a :: l, u, h => Works.foldl hf l (hf u a h)

/-! ### The clock, the capture slots and the displays -/

theorem Works.reachMs {due : Ms} (h : Works s u) : Works s (u.reachMs due) := h.edit (by simp) (by simp [State.stores])

theorem Works.reachInstant {due : Instant} (h : Works s u) : Works s (u.reachInstant due) :=
  h.edit (by simp) (by simp [State.stores])

theorem Works.stamp {source : CaptureSource} (h : Works s u) : Works s (u.stamp source) := h.edit rfl rfl

theorem Works.consume {source : CaptureSource} (h : Works s u) : Works s (u.consume source) := h.edit rfl rfl

theorem Works.showRefusal {group : Nat} (h : Works s u) : Works s (u.showRefusal group) := h.edit rfl rfl

theorem Works.showCrewAck (h : Works s u) : Works s u.showCrewAck := h.edit rfl rfl

/-! ### The own offer and the faults -/

theorem Works.ofrBusy (h : Works s u) : Works s u.ofrBusy := h.edit rfl rfl

theorem Works.evaluateOffer (h : Works s u) : Works s u.evaluateOffer := by
  unfold State.evaluateOffer
  split
  · split
    · split
      · rename_i heq; exact (h.of_offer heq).edit rfl rfl
      · rename_i heq; exact (h.of_offer heq).ofrBusy
    · exact h
  · exact h

theorem Works.evaluateSince {before : State} (h : Works s u) : Works s (u.evaluateSince before) := by
  unfold State.evaluateSince
  split
  · exact h.evaluateOffer
  · exact h

theorem Works.offerAutoFlt {cls level : Nat} (h : Works s u) : Works s (u.offerAutoFlt cls level) := h.send

theorem Works.raisePost {f : PostFault} (h : Works s u) : Works s (u.raisePost f) := by
  unfold State.raisePost
  split
  · exact .evaluateSince (.send (h.edit rfl rfl))
  · exact h

theorem Works.clearPost {f : PostFault} (h : Works s u) : Works s (u.clearPost f) := .evaluateSince (h.edit rfl rfl)

theorem Works.raiseLowCharge (h : Works s u) : Works s u.raiseLowCharge := by
  unfold State.raiseLowCharge
  split
  · exact h
  · exact .evaluateSince (.offerAutoFlt (h.edit rfl rfl))

theorem Works.raiseFlat (h : Works s u) : Works s u.raiseFlat := by
  unfold State.raiseFlat
  split
  · exact h
  · exact .evaluateSince (.offerAutoFlt (h.edit rfl rfl))

theorem Works.raiseDuplicate (h : Works s u) : Works s u.raiseDuplicate := by
  unfold State.raiseDuplicate
  split
  · exact h
  · exact .evaluateSince (.offerAutoFlt (h.edit rfl rfl))

/-! ### The tag port's request list and the fault list -/

theorem Works.requestWrite {contents : SectionContents} {requester : Requester} (h : Works s u) :
    Works s (u.requestWrite contents requester).1 := h.edit (by simp) (by simp [State.stores])

/-- The state a write request leaves, as its answer is matched. -/
theorem Works.of_requestWrite {contents : SectionContents} {requester : Requester} {r : RequestReply}
    (heq : u.requestWrite contents requester = (t, r)) (h : Works s u) : Works s t := by
  have := h.requestWrite (contents := contents) (requester := requester)
  rwa [heq] at this

theorem Works.beginWrite (h : Works s u) : Works s u.beginWrite := h.edit (by simp) (by simp [State.stores])

theorem Works.withdrawWrite {ref : Nat} (h : Works s u) : Works s (u.withdrawWrite ref) := h.edit rfl rfl

theorem Works.copyWritten {contents : SectionContents} (h : Works s u) : Works s (u.copyWritten contents) := by
  unfold State.copyWritten
  split
  · exact h.edit rfl rfl
  · exact h.edit rfl rfl
  · exact .evaluateSince (h.edit rfl rfl)

theorem Works.requestFaults {entries : List FaultEntry} (h : Works s u) : Works s (u.requestFaults entries) := by
  unfold State.requestFaults
  split <;> rename_i heq
  · exact .evaluateSince ((h.of_requestWrite heq).edit rfl rfl)
  · exact h.of_requestWrite heq
  · exact h.of_requestWrite heq

theorem Works.changeFaults {change : FaultChange} (h : Works s u) : Works s (u.changeFaults change) := by
  unfold State.changeFaults
  split
  · split
    · exact h.edit rfl rfl
    · exact h
  · split
    · exact h.requestFaults
    · exact h

theorem Works.askTagEntry {failed : Bool} (h : Works s u) : Works s (u.askTagEntry failed) := by
  unfold State.askTagEntry
  split
  · exact h.changeFaults
  · exact h

theorem Works.tagReport {failed : Bool} (h : Works s u) : Works s (u.tagReport failed) := by
  unfold State.tagReport
  split
  · exact h.askTagEntry
  · exact .askTagEntry (.evaluateSince (.offerAutoFlt (h.edit rfl rfl)))

theorem Works.rewriteAnswered {written : Bool} (h : Works s u) : Works s (u.rewriteAnswered written) := by
  unfold State.rewriteAnswered
  dsimp only
  split
  · split
    · exact .requestFaults (h.edit rfl rfl)
    · exact h.edit rfl rfl
  · exact h.edit rfl rfl

/-! ### Ends of a hire (R106, R114, R118, R119) -/

theorem Works.onRecord {f : HireRecord → HireRecord} (h : Works s u) : Works s (u.onRecord f) := h.edit rfl rfl

theorem Works.hireIdle (h : Works s u) : Works s u.hireIdle := .evaluateSince (h.edit rfl rfl)

theorem Works.offerWdr {serial : BitVec 8} {member : Nat} (h : Works s u) : Works s (u.offerWdr serial member) := h.send

theorem Works.withdrawClaim (h : Works s u) : Works s u.withdrawClaim := by
  unfold State.withdrawClaim
  split
  · exact h.offerWdr
  · exact h

theorem Works.refuse {group : Nat} (h : Works s u) : Works s (u.refuse group) := h.showRefusal.hireIdle

theorem Works.refuseWithdrawing {group : Nat} (h : Works s u) : Works s (u.refuseWithdrawing group) :=
  h.withdrawClaim.refuse

theorem Works.offerVtk {serial bikeId crew : Nat} (h : Works s u) : Works s (u.offerVtk serial bikeId crew) := h.send

theorem Works.offerHir {r : HireRecord} (h : Works s u) : Works s (u.offerHir r) := by
  unfold State.offerHir
  split
  · exact h.send
  · exact h

theorem Works.announceTake {r : HireRecord} (h : Works s u) : Works s (u.announceTake r) := by
  unfold State.announceTake
  split
  · exact h.offerHir
  · split
    · exact h.offerVtk
    · exact h

theorem Works.hireTakes (h : Works s u) : Works s u.hireTakes := by
  unfold State.hireTakes
  split
  · exact h.announceTake.hireIdle
  · exact h

/-! ### The bike leaves (R58, R83, R163, R173) -/

theorem Works.hireWriteLeft {ref : Nat} (h : Works s u) : Works s (u.hireWriteLeft ref) := by
  unfold State.hireWriteLeft
  split
  · split
    · split
      case h_1 => exact h.refuseWithdrawing
      case h_2 => exact h.hireTakes
      all_goals exact h
    · exact h
  · exact h

theorem Works.writeLeft {r : WriteRequest} (h : Works s u) : Works s (u.writeLeft r) := by
  unfold State.writeLeft
  split
  · exact h.hireWriteLeft
  · exact h

theorem Works.dockLeaves (h : Works s u) : Works s u.dockLeaves :=
  h.apart rfl rfl (.of_bounds rfl rfl rfl rfl fun hb => { hb with noise := Nat.zero_le _ })

theorem Works.tagLeaves (h : Works s u) : Works s u.tagLeaves := h.edit rfl rfl

theorem Works.faultLeaves (h : Works s u) : Works s u.faultLeaves := h.edit rfl rfl

theorem Works.duplicateLeaves (h : Works s u) : Works s u.duplicateLeaves := h.edit rfl rfl

theorem Works.vanLeaves (h : Works s u) : Works s u.vanLeaves := h.edit rfl rfl

theorem Works.bikeLeaves (h : Works s u) : Works s u.bikeLeaves := by
  have left := h.dockLeaves.tagLeaves.faultLeaves.duplicateLeaves.vanLeaves.evaluateSince (before := u)
  have answered := Works.foldl (f := State.writeLeft) (fun _ _ hw => hw.writeLeft) u.outstandingWrites left
  unfold State.bikeLeaves
  split
  · dsimp only
    split
    · exact answered.hireTakes
    · exact answered
  · exact h

theorem Works.treatAsTaken (h : Works s u) : Works s u.treatAsTaken := h.hireTakes.bikeLeaves

/-! ### Cancelling and the settle procedure (R120 to R122) -/

theorem Works.cancelOver (h : Works s u) : Works s u.cancelOver := h.withdrawClaim.hireIdle

theorem Works.enterCancelling {group : Option Nat} (h : Works s u) : Works s (u.enterCancelling group) := by
  have cancelling : ∀ shown, Works s shown → Works s
      ({ shown with hire := { shown.hire with state := .cancelling } }.onRecord (fun r => { r with settleAt := none })) :=
    fun shown hw => hw.edit rfl rfl
  unfold State.enterCancelling
  dsimp only
  have hw : Works s (match group with | some n => u.showRefusal n | none => u) := by
    split
    · exact h.showRefusal
    · exact h
  replace hw := cancelling _ hw
  split
  · exact hw.cancelOver
  · split <;> rename_i heq
    · exact (hw.of_requestWrite heq).onRecord
    · exact (hw.of_requestWrite heq).hireTakes
    · exact (hw.of_requestWrite heq).cancelOver

theorem Works.startSettle (h : Works s u) : Works s u.startSettle := by
  unfold State.startSettle
  split
  · exact h.treatAsTaken
  · exact h.onRecord

theorem Works.hireSeated (h : Works s u) : Works s u.hireSeated := by
  unfold State.hireSeated
  split
  · exact h.enterCancelling
  · exact h

/-! ### The bolt (R50 to R55, R71) -/

theorem Works.enterClosing (h : Works s u) : Works s u.enterClosing := .evaluateSince (h.edit rfl rfl)

theorem Works.endSelfTest (h : Works s u) : Works s u.endSelfTest := by
  unfold State.endSelfTest
  split
  · exact .evaluateOffer (h.edit rfl rfl)
  · exact h

theorem Works.reportSeated (h : Works s u) : Works s u.reportSeated := by
  unfold State.reportSeated
  split
  · exact .hireSeated (h.edit rfl rfl)
  · exact h.endSelfTest

theorem Works.seat (h : Works s u) : Works s u.seat := .reportSeated (.evaluateSince (h.edit rfl rfl))

theorem Works.seatIfClosed (h : Works s u) : Works s u.seatIfClosed := by
  unfold State.seatIfClosed
  split
  · exact h
  · exact h.seat

theorem Works.jam (h : Works s u) : Works s u.jam := .raisePost (.evaluateSince (h.edit rfl rfl))

theorem Works.releaseTake (h : Works s u) : Works s u.releaseTake := by
  unfold State.releaseTake
  dsimp only
  split
  · exact h.enterClosing.bikeLeaves.hireTakes.seatIfClosed
  · exact h.enterClosing.bikeLeaves.seatIfClosed

theorem Works.selfTestTake (h : Works s u) : Works s u.selfTestTake := by
  unfold State.selfTestTake
  split
  · exact h.bikeLeaves.offerVtk
  · exact h

theorem Works.takeWhileHeld (h : Works s u) : Works s u.takeWhileHeld := by
  unfold State.takeWhileHeld
  split
  · split
    · exact h.selfTestTake
    · exact h
  · split
    · exact h.releaseTake
    · exact h

theorem Works.boltHeld (h : Works s u) : Works s u.boltHeld := by
  refine .evaluateSince ?_
  split
  · exact h.edit rfl rfl
  · exact h.edit rfl rfl

theorem Works.becomeHeld (h : Works s u) : Works s u.becomeHeld := by
  unfold State.becomeHeld
  dsimp only
  split
  · exact h.boltHeld.takeWhileHeld
  · exact h.boltHeld

theorem Works.selfTestCloses (h : Works s u) : Works s u.selfTestCloses := by
  unfold State.selfTestCloses
  split
  · exact .seatIfClosed (.enterClosing (h.edit rfl rfl))
  · exact h

theorem Works.boltDropped (h : Works s u) : Works s u.boltDropped := by
  have dropped : Works s (State.evaluateSince
      { u with dock := { u.dock.coilOff with bolt := .closed, release := false } } u) :=
    .evaluateSince (h.edit rfl rfl)
  unfold State.boltDropped
  dsimp only
  split
  · exact dropped.endSelfTest
  · split
    · exact dropped.startSettle.hireSeated
    · exact dropped

theorem Works.abortDrive (h : Works s u) : Works s u.abortDrive := by
  unfold State.abortDrive
  split
  · exact h.selfTestCloses
  · split
    · exact h.enterClosing.startSettle.seatIfClosed
    · exact h.enterClosing.seatIfClosed

/-! ### The release request and the HIRE write (R51, R115 to R117, R123) -/

theorem Works.requestRelease (h : Works s u) : Works s u.requestRelease := by
  unfold State.requestRelease
  dsimp only
  split
  · exact .enterCancelling (h.edit rfl rfl)
  · exact h.edit rfl rfl

theorem Works.requestHireWrite {written : HireSection} {summary : Option RideSummary} (h : Works s u) :
    Works s (u.requestHireWrite written summary) := by
  unfold State.requestHireWrite
  dsimp only
  split <;> rename_i heq
  · exact (Works.of_requestWrite heq (h.edit rfl rfl)).onRecord
  · exact (Works.of_requestWrite heq (h.edit rfl rfl)).refuseWithdrawing
  · exact (Works.of_requestWrite heq (h.edit rfl rfl)).refuseWithdrawing

theorem Works.hireWritten (h : Works s u) : Works s u.hireWritten := by
  unfold State.hireWritten
  split
  · exact h.enterCancelling
  · split
    · exact h.enterCancelling
    · exact h.requestRelease

theorem Works.hireWriteAnswered {ref : Nat} {answer : WriteAnswer} (h : Works s u) :
    Works s (u.hireWriteAnswered ref answer) := by
  unfold State.hireWriteAnswered
  split
  · split
    · split
      case h_1 =>
        split
        · exact h.hireWritten
        · exact h.refuseWithdrawing
        · exact h.refuseWithdrawing
      case h_2 => exact h.cancelOver
      all_goals exact h
    · exact h
  · exact h

/-! ### Claiming (R112, R113) -/

theorem Works.claim (h : Works s u) : Works s u.claim := by
  unfold State.claim
  split
  · split <;> rename_i heq
    · exact .onRecord ((h.of_offer heq).edit rfl rfl)
    · exact (h.of_offer heq).refuse
  · exact h

theorem Works.clmBusy {ref : Nat} (h : Works s u) : Works s (u.clmBusy ref) := by
  unfold State.clmBusy
  split
  · exact h.refuse
  · exact h.edit rfl rfl

theorem Works.clmSent {ref : Nat} {serial : BitVec 8} {at_ : Ms} (h : Works s u) : Works s (u.clmSent ref serial at_) := by
  unfold State.clmSent
  split
  · exact h.onRecord
  · split
    · exact .offerWdr (h.edit rfl rfl)
    · exact h

theorem Works.answerBusy {e : TxEntry} (h : Works s u) : Works s (u.answerBusy e) := by
  unfold State.answerBusy
  split
  case h_1 => exact h.clmBusy
  case h_2 =>
    split
    · exact h.ofrBusy
    · exact h
  all_goals exact h

theorem Works.claimWindowEnds (h : Works s u) : Works s u.claimWindowEnds := by
  unfold State.claimWindowEnds
  split
  · split
    · exact h.refuseWithdrawing
    · exact h.requestHireWrite
  · exact h

/-! ### Eligibility and crew cards (R107 to R109, R123) -/

/-! ### The member view (R92, R94) -/

/-- A list of entries with one for each key, one of them taken out, its newest form put at the end. -/
theorem nodup_append_newest {α β : Type} [DecidableEq β] {key : α → β} {l p : List α} {e : α} (hl : (l.map key).Nodup)
    (hp : p.Sublist (l.filter (fun x => decide (key x ≠ key e)))) : ((p ++ [e]).map key).Nodup := by
  rw [List.map_append, List.map_singleton, List.nodup_append]
  refine ⟨hl.sublist ((hp.trans List.filter_sublist).map key), List.nodup_singleton _, ?_⟩
  intro a ha b hb
  obtain ⟨x, hx, rfl⟩ := List.mem_map.1 ha
  have hne := (List.mem_filter.1 (hp.subset hx)).2
  rw [List.mem_singleton.1 hb]
  simpa using hne

theorem MemberView.mem_of_find {v : MemberView} {member : Nat} {e : ViewEntry} (h : v.find member = some e) :
    e ∈ v.entries ∧ e.member = member :=
  ⟨List.mem_of_find?_eq_some h, by simpa using List.find?_some h⟩

/-- What `State.viewSound` says of a view. -/
def MemberView.sound (v : MemberView) : Prop := v.entries.length ≤ 256 ∧ (v.entries.map ViewEntry.member).Nodup

theorem MemberView.sound.put {v : MemberView} (h : v.sound) (e : ViewEntry) : (v.put e).sound := by
  obtain ⟨_, hnodup⟩ := h
  refine ⟨?_, nodup_append_newest hnodup (List.drop_sublist _ _)⟩
  simp only [MemberView.put, List.length_append, List.length_drop, List.length_singleton]
  omega

/-- A use of an entry of the view moves it to the end, whatever else of it changes. -/
theorem MemberView.sound.use {v : MemberView} (h : v.sound) {e x : ViewEntry} (hx : x ∈ v.entries)
    (he : e.member = x.member) : (v.use e).sound := by
  obtain ⟨hlen, hnodup⟩ := h
  refine ⟨?_, nodup_append_newest hnodup (List.Sublist.refl _)⟩
  have hlt : (v.entries.filter (fun y => decide (y.member ≠ e.member))).length < v.entries.length :=
    List.length_filter_lt_length_iff_exists.2 ⟨x, hx, by simp [he]⟩
  simp only [MemberView.use, List.length_append, List.length_singleton]
  omega

theorem MemberView.sound.hired {v : MemberView} (h : v.sound) (member : Nat) : (v.hired member).sound := by
  unfold MemberView.hired
  split
  · rename_i e _ hf
    exact h.use (MemberView.mem_of_find hf).1 rfl
  · exact h

theorem ViewEntry.charged_member (e : ViewEntry) (day spend : Nat) : (e.charged day spend).member = e.member := by
  unfold ViewEntry.charged
  (repeat' split) <;> rfl

theorem MemberView.sound.settled {v : MemberView} (h : v.sound) (body : List Byte) : (v.settled body).sound := by
  unfold MemberView.settled
  split
  · rename_i e _ hf
    refine h.use (MemberView.mem_of_find hf).1 ?_
    split
    · exact ViewEntry.charged_member _ _ _
    · rfl
  · exact h

/-- The view has moved within its bound. -/
theorem Works.view (h : Works s u) (hl : t.line = u.line) (hv : u.view.sound → t.view.sound)
    (hs : { t with view := u.view }.stores = u.stores) : Works s t := by
  have hk : StoresKept u { t with view := u.view } := .of_eq hs (by rw [← hl])
  exact h.apart (congrArg Prod.fst hs) hl ⟨hv, hk.claims, fun hb => { hk.bounds hb with }, hk.port, hk.terminal⟩

/-! ### Eligibility and crew cards (R107 to R109, R123) -/

theorem Works.cardReading {member : Nat} (h : Works s u) : Works s (u.cardReading member).1 := by
  unfold State.cardReading
  split
  · exact h
  · split
    · exact h
    · rename_i e he
      exact h.view rfl (fun hv => hv.use (MemberView.mem_of_find he).1 rfl) rfl

theorem Works.startLookup {card : CardRecord} (h : Works s u) : Works s (u.startLookup card) :=
  (h.offer (kind := .lkp) (body := lkpBody card.member card.sequence)).edit rfl rfl

theorem Works.claimWith {a : Answer} (h : Works s u) : Works s (u.claimWith a) := h.onRecord.claim

theorem Works.checkReading {card : CardRecord} {reading : Option Answer} (h : Works s u) :
    Works s (u.checkReading card reading) := by
  unfold State.checkReading
  split
  · split
    · exact h.refuse
    · exact h.startLookup
  · split
    · exact h.refuse
    · exact h.claimWith

theorem Works.checkMember {card : CardRecord} (h : Works s u) : Works s (u.checkMember card) := by
  unfold State.checkMember
  split
  · exact h.refuse
  · exact h.cardReading.checkReading

theorem Works.lookupAnswered {card : CardRecord} {a : Answer} (h : Works s u) : Works s (u.lookupAnswered card a) := by
  unfold State.lookupAnswered
  split
  · exact h.refuse
  · split
    · exact h.refuse
    · exact h.claimWith

theorem Works.lookupExpires {card : CardRecord} (h : Works s u) : Works s (u.lookupExpires card) := by
  unfold State.lookupExpires
  split
  · split
    · exact h.refuse
    · exact h.claimWith
  · exact h.refuse

theorem Works.openCrewWindow {crew : Nat} (h : Works s u) : Works s (u.openCrewWindow crew) := by
  unfold State.openCrewWindow
  split
  · exact h.edit rfl rfl
  · exact h

theorem Works.checkCrew {card : CardRecord} (h : Works s u) : Works s (u.checkCrew card) := by
  unfold State.checkCrew
  split
  · split
    · exact h.refuse
    · split
      · exact h.refuse
      · exact h.requestHireWrite
  · exact h.showCrewAck.openCrewWindow.hireIdle

/-! ### The part of a post restart that leaves the line alone (R70, R73, R124, R175) -/

theorem Works.restorePrior (h : Works s u) : Works s u.restorePrior := by
  unfold State.restorePrior
  split
  · exact h.requestWrite
  · exact h

theorem Works.cancelByState (h : Works s u) : Works s u.cancelByState := by
  unfold State.cancelByState
  split
  · exact h
  · exact h
  · exact h.edit rfl rfl
  · split
    · exact h.withdrawClaim
    · exact h.edit rfl rfl
    · exact h
  · exact h
  · split
    · split
      · exact h.withdrawWrite.withdrawClaim
      · exact h.restorePrior.withdrawClaim
    · exact h.withdrawClaim
  · exact h
  · exact h.restorePrior.withdrawClaim
  · exact h.withdrawClaim

theorem Works.cutShort (h : Works s u) : Works s u.cutShort := by
  unfold State.cutShort
  dsimp only
  split
  · exact h.cancelByState.edit rfl rfl
  · exact .hireIdle (h.cancelByState.edit rfl rfl)

theorem Works.vanRestart (h : Works s u) : Works s u.vanRestart := h.edit rfl rfl

theorem Works.displaysRestart (h : Works s u) : Works s u.displaysRestart :=
  h.apart rfl rfl (.of_bounds rfl rfl rfl rfl fun hb =>
    { hb with burst := (Option.all_map ..).trans hb.burst })

theorem Works.clearForSelfTest (h : Works s u) : Works s u.clearForSelfTest :=
  .evaluateSince (h.apart rfl rfl (.of_bounds rfl rfl rfl rfl fun hb => { hb with noise := Nat.zero_le _ }))

theorem Works.takeUnreadable (h : Works s u) : Works s u.takeUnreadable := by
  unfold State.takeUnreadable
  split
  · exact h.showRefusal
  · exact h

theorem Works.beginHire {card : CardRecord} (h : Works s u) : Works s (u.beginHire card) := by
  unfold State.beginHire
  split
  · exact .checkCrew (h.edit rfl rfl)
  · exact .checkMember (h.edit rfl rfl)

end

end Sys2Proof.Machine
end

section
/-! The work of the settlement unit and the tag port (chapters 2, 4, 5, 8 and 9). -/

namespace Sys2Proof.Machine

section
variable {s u t : State}

/-! ### Slots and settlement notices (R130 to R134, R143 to R145) -/

theorem Works.setSlot {name : SlotName} {slot : Option Slot} (h : Works s u) : Works s (u.setSlot name slot) :=
  h.edit (by simp) (by simp [State.stores])

theorem Works.setPhase {name : SlotName} {phase : SlotPhase} (h : Works s u) : Works s (u.setPhase name phase) := by
  unfold State.setPhase
  split
  · exact h.setSlot
  · exact h

theorem Works.enterRating {name : SlotName} (h : Works s u) : Works s (u.enterRating name) := by
  unfold State.enterRating
  split
  · split
    · exact h.setPhase
    · exact h
  · exact h

theorem Works.leaveGathering {name : SlotName} (h : Works s u) : Works s (u.leaveGathering name) := by
  unfold State.leaveGathering
  split
  · exact h.enterRating
  · exact h

theorem Works.markSlot {f : ReturnRecord → Bool × Bool × Bool → Bool × Bool × Bool} {name : SlotName}
    (h : Works s u) : Works s (u.markSlot f name) := by
  unfold State.markSlot
  split
  · exact h.setPhase.leaveGathering
  · exact h

theorem Works.markSlots {f : ReturnRecord → Bool × Bool × Bool → Bool × Bool × Bool} (h : Works s u) :
    Works s (u.markSlots f) := h.markSlot.markSlot

theorem Works.writeBack {r : ReturnRecord} {w : Settlement} (h : Works s u) : Works s (u.writeBack r w) := by
  unfold State.writeBack
  split
  · exact h.requestWrite
  · exact h

theorem Works.immediateStl {r : ReturnRecord} {w : Settlement} (h : Works s u) : Works s (u.immediateStl r w) :=
  h.send.writeBack

theorem Works.finishSlot {name : SlotName} (h : Works s u) : Works s (u.finishSlot name) := by
  unfold State.finishSlot
  split
  · exact h.writeBack.setSlot
  · exact h

theorem Works.offerSlot {name : SlotName} (h : Works s u) : Works s (u.offerSlot name) := by
  unfold State.offerSlot
  split
  · split <;> rename_i heq
    · exact (h.of_offer heq).finishSlot
    · exact (h.of_offer heq).setPhase
  · exact h

theorem Works.enterDone {name : SlotName} {w : Settlement} (h : Works s u) : Works s (u.enterDone name w) := h.setPhase

theorem Works.settleUnrated {name : SlotName} {r : ReturnRecord} {reason : Reason} (h : Works s u) :
    Works s (u.settleUnrated name r reason) := h.enterDone.offerSlot

theorem Works.gatheringEnds {name : SlotName} {r : ReturnRecord} {time tariff : Bool} (h : Works s u) :
    Works s (u.gatheringEnds name r time tariff) := by
  unfold State.gatheringEnds
  split
  · exact h.settleUnrated
  · split
    · exact h.settleUnrated
    · exact h.enterRating

theorem Works.swapTariff (h : Works s u) : Works s u.swapTariff := by
  unfold State.swapTariff
  split
  · exact .markSlots (h.edit rfl rfl)
  · exact h

theorem Works.takeTrf {body : List Byte} (h : Works s u) : Works s (u.takeTrf body) := by
  unfold State.takeTrf
  split
  · split
    · exact .swapTariff (h.edit rfl rfl)
    · exact h
  · exact h

/-! ### The return sequence (R126 to R131, R147) -/

theorem Works.allocate {name : SlotName} {r : ReturnRecord} (h : Works s u) : Works s (u.allocate name r) :=
  h.setSlot.leaveGathering

theorem Works.requestReturned {w : HireSection} {c : Capture} (h : Works s u) : Works s (u.requestReturned w c) := by
  unfold State.requestReturned
  split <;> rename_i heq
  · exact (h.of_requestWrite heq).edit rfl rfl
  · exact h.of_requestWrite heq
  · exact h.of_requestWrite heq

theorem Works.requestLastClear {last : Option LastSection} (h : Works s u) : Works s (u.requestLastClear last) := by
  unfold State.requestLastClear
  split
  · exact h.requestWrite
  · exact h

theorem Works.requestClosed {w : HireSection} (h : Works s u) : Works s (u.requestClosed w) := h.requestWrite

theorem Works.settleReturn {r : ReadResult} {w : HireSection} (h : Works s u) : Works s (u.settleReturn r w) := by
  unfold State.settleReturn
  split
  · exact h.allocate.requestReturned.requestLastClear
  · exact h.allocate.requestReturned.requestLastClear
  · exact h.requestReturned.requestLastClear.immediateStl

theorem Works.returnSequence {r : ReadResult} (h : Works s u) : Works s (u.returnSequence r) := by
  unfold State.returnSequence
  split
  · exact h.immediateStl
  · split
    · split
      · split
        · exact h.settleReturn
        · exact h.requestReturned.immediateStl
        · exact h.requestReturned.immediateStl
      · exact h.requestClosed
      · exact h
      · exact h
    · exact h.immediateStl
    · exact h.immediateStl

/-! ### The duplicate-bike check, the member window and reports (R34, R35, R155, R157) -/

theorem Works.duplicateCheck (h : Works s u) : Works s u.duplicateCheck := by
  unfold State.duplicateCheck
  split
  · exact .raiseDuplicate (h.edit rfl rfl)
  · exact h.edit rfl rfl
  · exact h
  · exact h

theorem Works.openMemberWindow {w : ReturnedWrite} (h : Works s u) : Works s (u.openMemberWindow w) :=
  h.edit (by simp) (by simp [State.stores])

theorem Works.settleWriteAnswered {ref : Nat} {answer : WriteAnswer} (h : Works s u) :
    Works s (u.settleWriteAnswered ref answer) := by
  unfold State.settleWriteAnswered
  dsimp only
  split
  · split
    · exact .openMemberWindow (h.edit rfl rfl)
    · exact h.edit rfl rfl
  · exact h.edit rfl rfl

theorem Works.memberReport {count : Nat} (h : Works s u) : Works s (u.memberReport count) := by
  unfold State.memberReport
  split
  · split
    · exact h
    · exact .send (.changeFaults (h.edit rfl rfl))
  · exact h

/-! ### Outcomes of tag operations (R77 to R82) -/

theorem Works.faultWriteAnswered {ref : Nat} (h : Works s u) : Works s (u.faultWriteAnswered ref) :=
  .evaluateSince (h.edit rfl rfl)

theorem Works.writeAnswered {r : WriteRequest} {answer : WriteAnswer} (h : Works s u) :
    Works s (u.writeAnswered r answer) := by
  unfold State.writeAnswered
  split
  · exact h.hireWriteAnswered
  · exact h.settleWriteAnswered
  · exact h.faultWriteAnswered
  · exact h.rewriteAnswered

theorem Works.finishWrite {r : WriteRequest} {answer : WriteAnswer} (h : Works s u) :
    Works s (u.finishWrite r answer) := by
  have idle : Works s { u with tag := { u.tag with operation := .idle } } := h.edit rfl rfl
  refine .beginWrite (.writeAnswered ?_)
  split
  · exact idle.copyWritten
  · exact idle.tagReport
  · exact idle.tagReport

theorem Works.queueRewrite (h : Works s u) : Works s u.queueRewrite := h.edit (by simp) (by simp [State.stores])

theorem Works.faultTakesRead (h : Works s u) : Works s u.faultTakesRead := by
  have named := Works.ite (c := (decide (u.tag.copy.id = .damaged) || decide (u.tag.copy.hire = .damaged)) = true)
    (h.tagReport (failed := false)) h
  exact .ite named.tagReport named

theorem Works.readSetComplete {got : List (List Byte)} (h : Works s u) : Works s (u.readSetComplete got) :=
  .faultTakesRead (.duplicateCheck (.returnSequence (.beginWrite (.queueRewrite (.evaluateSince (h.edit rfl rfl))))))

theorem Works.readSetSilent {got : List (List Byte)} (h : Works s u) : Works s (u.readSetSilent got) :=
  .beginWrite (.duplicateCheck (.tagReport (.returnSequence (.evaluateSince (h.edit rfl rfl)))))

/-! ### Docking (R56, R72, R77, R80) -/

theorem Works.beginReadSet {c : Capture} (h : Works s u) : Works s (u.beginReadSet c) := h.edit rfl rfl

theorem Works.vanDocks (h : Works s u) : Works s u.vanDocks := h.edit rfl rfl

theorem Works.dockBike {c : Capture} (h : Works s u) : Works s (u.dockBike c) :=
  .evaluateSince (.beginReadSet (.vanDocks
    (h.apart rfl rfl (.of_bounds rfl rfl rfl rfl fun hb => { hb with noise := Nat.zero_le _ }))))

theorem Works.dockingTest (h : Works s u) : Works s u.dockingTest := by
  unfold State.dockingTest
  dsimp only
  split
  · split
    · exact h.consume.dockBike
    · exact h.consume
  · exact h.consume

theorem Works.startUpDocking {released : Ms} (h : Works s u) : Works s (u.startUpDocking released) :=
  .evaluateSince (h.apart rfl rfl (.of_bounds rfl rfl rfl rfl fun hb => { hb with count := Nat.le_refl 15 }))

theorem Works.tagAnswers (h : Works s u) : Works s u.tagAnswers := by
  unfold State.tagAnswers
  split
  · dsimp only
    split
    · exact .startUpDocking (h.edit rfl rfl)
    · exact h.edit rfl rfl
  · exact h.edit rfl rfl
  · exact h
  · exact h
  · exact h

theorem Works.tagSilent (h : Works s u) : Works s u.tagSilent := by
  unfold State.tagSilent
  split
  · dsimp only
    split
    · exact h.reachMs.edit rfl rfl
    · exact h.reachMs.readSetSilent
  · exact h.reachMs.finishWrite
  · exact h
  · exact h
  · exact h

theorem Works.sectionRead {bytes : List Byte} (h : Works s u) : Works s (u.sectionRead bytes) := by
  unfold State.sectionRead
  split
  · dsimp only
    split
    · exact h.reachMs.readSetComplete
    · exact h.reachMs.edit rfl rfl
  · dsimp only
    split
    · exact h.reachMs.finishWrite
    · split
      · exact h.reachMs.finishWrite
      · exact h.reachMs.edit rfl rfl
  · exact h
  · exact h

/-! ### The analog sweep (R65 to R69) -/

theorem Works.startBurst {b : Burst} (h : Works s u) : Works s (u.startBurst b) := h.edit rfl rfl

theorem Works.requestPeriodic (h : Works s u) : Works s u.requestPeriodic := by
  unfold State.requestPeriodic
  split
  · exact h.startBurst
  · exact h.edit rfl rfl
  · exact h.edit rfl rfl

theorem Works.requestEvent (h : Works s u) : Works s u.requestEvent := by
  unfold State.requestEvent
  split
  · exact h.startBurst
  · exact h.edit rfl rfl
  · exact h.edit rfl rfl

theorem Works.takeCh0 {pullIn : Nat} {code : BitVec 10} (h : Works s u) : Works s (u.takeCh0 pullIn code) := by
  unfold State.takeCh0 State.judgeCh0
  split
  · split
    · exact .abortDrive (.raisePost (h.edit rfl rfl))
    · split
      · exact .abortDrive (.raisePost (h.edit rfl rfl))
      · exact h.edit rfl rfl
  · exact h.edit rfl rfl

theorem Works.judgeCh1 {code : BitVec 10} (h : Works s u) : Works s (u.judgeCh1 code) := by
  have low := Works.ite (c := chargePercent code < 15) h.raiseLowCharge h
  have flat := Works.ite (c := chargePercent code < 5) low.raiseFlat low
  exact .ite (.evaluateSince (flat.edit rfl rfl)) flat

theorem Works.takeCh1 {code : BitVec 10} (h : Works s u) : Works s (u.takeCh1 code) := by
  unfold State.takeCh1
  split
  · exact .judgeCh1 (h.edit rfl rfl)
  · exact h

theorem Works.takeCh2 {code : BitVec 10} (h : Works s u) : Works s (u.takeCh2 code) := by
  unfold State.takeCh2 State.judgeCh2
  split
  · exact .raisePost (h.edit rfl rfl)
  · split
    · exact .clearPost (h.edit rfl rfl)
    · exact h.edit rfl rfl

theorem Works.takeCh3 {lit : Bool} {code : BitVec 10} (h : Works s u) : Works s (u.takeCh3 lit code) := by
  unfold State.takeCh3 State.judgeCh3
  split
  · exact .raisePost (h.edit rfl rfl)
  · exact h.edit rfl rfl

theorem Works.takeBurst {b : Burst} {code0 code1 code2 code3 : BitVec 10} (h : Works s u) :
    Works s (u.takeBurst b code0 code1 code2 code3) := by
  unfold State.takeBurst
  split
  · exact h.takeCh0
  · exact h.takeCh1.takeCh2.takeCh3
  · exact h.takeCh2.takeCh3

theorem Works.nextBurst (h : Works s u) : Works s u.nextBurst := by
  unfold State.nextBurst
  split
  · exact .startBurst (h.edit rfl rfl)
  · exact .startBurst (h.edit rfl rfl)
  · exact h.edit rfl rfl

/-! ### The bolt's edges and timers (R49 to R57, R71) -/

theorem Works.openEdgeAct (h : Works s u) : Works s u.openEdgeAct := by
  unfold State.openEdgeAct
  split
  · exact h.consume.edit rfl rfl
  · dsimp only
    split
    · exact .becomeHeld (h.consume.edit rfl rfl)
    · exact h.consume.edit rfl rfl
  · exact h
  · exact h
  · exact h.consume

theorem Works.boltOpens (h : Works s u) : Works s u.boltOpens := .openEdgeAct (Works.edit (h.stamp (source := .boltOpen)) rfl rfl)

theorem Works.closedEdgeAct (h : Works s u) : Works s u.closedEdgeAct := by
  unfold State.closedEdgeAct
  split
  · exact .dockingTest (h.edit rfl rfl)
  · split
    · exact h.consume.boltDropped
    · exact h
  · exact h.consume.boltDropped
  · exact h.seat.dockingTest
  · exact h.dockingTest

theorem Works.boltCloses (h : Works s u) : Works s u.boltCloses := .closedEdgeAct (Works.edit (h.stamp (source := .boltClosed)) rfl rfl)

theorem Works.pullInEnds (h : Works s u) : Works s u.pullInEnds := by
  unfold State.pullInEnds
  split
  · dsimp only
    split
    · exact .becomeHeld (h.reachMs.edit rfl rfl)
    · exact h.reachMs.edit rfl rfl
  · exact h

theorem Works.openCheckFails (h : Works s u) : Works s u.openCheckFails := by
  unfold State.openCheckFails
  dsimp only
  split
  · exact h.jam.endSelfTest
  · split
    · exact .startSettle (h.jam.edit rfl rfl)
    · exact h.jam

theorem Works.openCheckDue (h : Works s u) : Works s u.openCheckDue := by
  unfold State.openCheckDue
  split
  · dsimp only
    split
    · exact .openCheckFails (h.reachMs.edit rfl rfl)
    · exact h.reachMs.edit rfl rfl
  · exact h

theorem Works.takeWindowDue (h : Works s u) : Works s u.takeWindowDue := by
  unfold State.takeWindowDue
  split
  · dsimp only
    split
    · exact .seatIfClosed (.startSettle (.enterClosing (h.reachMs.edit rfl rfl)))
    · exact h.reachMs.edit rfl rfl
  · exact h

theorem Works.closeCheckDue (h : Works s u) : Works s u.closeCheckDue := by
  unfold State.closeCheckDue
  split
  · rename_i due _
    have taken : Works s { u.reachMs due with dock := { (u.reachMs due).dock with closeCheckAt := none } } :=
      h.reachMs.edit rfl rfl
    dsimp only
    split
    · exact .endSelfTest (taken.jam.edit rfl rfl)
    · exact taken
  · exact h

theorem Works.pushAsideDue (h : Works s u) : Works s u.pushAsideDue := by
  unfold State.pushAsideDue
  split
  · dsimp only
    split
    · exact .jam (h.reachMs.edit rfl rfl)
    · exact h.reachMs.edit rfl rfl
  · exact h

/-! ### The mouth, the button and the lamp (R58 to R64) -/

theorem Works.beamNoise (h : Works s u) : Works s u.beamNoise := by
  have noisy : Works s { u with dock := { u.dock with noise := min (u.dock.noise + 1) 16 } } :=
    h.apart rfl rfl (.of_bounds rfl rfl rfl rfl fun hb => { hb with noise := Nat.min_le_right _ _ })
  unfold State.beamNoise
  split
  · exact h
  · dsimp only
    split
    · exact noisy.raisePost
    · exact noisy

theorem Works.countUp (h : Works s u) : Works s u.countUp := by
  have counted : Works s { u with dock := { u.dock with count := min (u.dock.count + 1) 15 } } :=
    h.apart rfl rfl (.of_bounds rfl rfl rfl rfl fun hb => { hb with count := Nat.min_le_right _ _ })
  unfold State.countUp
  dsimp only
  split
  · exact counted.stamp
  · exact counted

theorem Works.mouthEmpties (h : Works s u) : Works s u.mouthEmpties := by
  have stamped := h.stamp (source := .mouthOut)
  have kept := Works.ite (c := u.dock.docked = true) stamped
    ((stamped.consume (source := .mouthOut)).consume (source := .mouthIn))
  exact .ite kept.takeWhileHeld (.ite kept.bikeLeaves kept)

theorem Works.countDown (h : Works s u) : Works s u.countDown := by
  have counted : Works s { u with dock := { u.dock with count := u.dock.count - 1 } } :=
    h.apart rfl rfl (.of_bounds rfl rfl rfl rfl fun hb => { hb with count := (Nat.sub_le _ _).trans hb.count })
  unfold State.countDown
  dsimp only
  split
  · exact counted.mouthEmpties
  · exact counted

theorem Works.beamsChange {a b : Bool} (h : Works s u) : Works s (u.beamsChange a b) := by
  have phased : Works s { u with dock := { u.dock with beamA := a, beamB := b } } := h.edit rfl rfl
  unfold State.beamsChange
  dsimp only
  split
  · exact h
  · split
    · exact phased.countUp
    · split
      · exact phased.countDown
      · exact phased.beamNoise

theorem Works.buttonPressed (h : Works s u) : Works s u.buttonPressed := by
  refine (h.stamp (source := .button)).consume (source := .button) |>.apart rfl rfl
    (.of_bounds rfl rfl rfl rfl fun hb => { hb with burst := ?_ })
  unfold State.buttonPressed
  split
  · simp
  · simp

theorem Works.burstEnds (h : Works s u) : Works s u.burstEnds := by
  unfold State.burstEnds
  split
  · rename_i b _
    have closed : Works s { u.reachMs b.endAt with dock := { (u.reachMs b.endAt).dock with burst := none } } :=
      h.reachMs.apart rfl rfl (.of_bounds rfl rfl rfl rfl fun hb => { hb with burst := rfl })
    dsimp only
    split
    · exact closed
    · exact closed.memberReport
  · exact h

theorem Works.flashPhaseEnds (h : Works s u) : Works s u.flashPhaseEnds := by
  unfold State.flashPhaseEnds
  split
  · exact h.reachMs.edit rfl rfl
  · exact h

/-! ### The timers of the hire controller (R101, R109, R112, R121) -/

theorem Works.lookupDue (h : Works s u) : Works s u.lookupDue := by
  unfold State.lookupDue
  split
  · dsimp only
    split
    · exact .lookupExpires (h.reachMs.edit rfl rfl)
    · exact h.reachMs.edit rfl rfl
  · exact h

theorem Works.settleEnds (h : Works s u) : Works s u.settleEnds := by
  unfold State.settleEnds
  split
  · exact h.enterCancelling
  · exact h.treatAsTaken

end

end Sys2Proof.Machine
end

section
/-! The work of the listening blocks, the peer table, the timebase and the local port (chapters 1 to 3 and 6 to 11). -/

namespace Sys2Proof.Machine

section
variable {s u t : State}

/-! ### The event queue and the response buffer (R180, R187, R188) -/

/-- The port of a station that is no post is used within the bound of its event queue. -/
theorem Works.port {p : LocalPort} (h : Works s u) (hr : u.straps.role ≠ .post)
    (hp : u.port.events.length ≤ 64 → p.events.length ≤ 64) : Works s { u with port := p } :=
  h.apart rfl rfl ⟨id, id, fun hb => { hb with events := hp hb.events }, fun hpost => absurd hpost hr, fun _ => id⟩

theorem Works.appendEvent {e : Event} (h : Works s u) (hr : u.straps.role ≠ .post) : Works s (u.appendEvent e) := by
  unfold State.appendEvent
  split
  · rename_i hlen
    exact h.port hr (fun _ => by simp only [List.length_append, List.length_singleton]; omega)
  · exact h.port hr id

/-! ### Adoption of time (R39, R40, R47) -/

theorem Works.backDate {base : BasePair} (h : Works s u) : Works s (u.backDate base) := .markSlots (h.edit rfl rfl)

theorem Works.adoptTime {schemeMs : Nat} (h : Works s u) : Works s (u.adoptTime schemeMs) := by
  unfold State.adoptTime
  dsimp only
  split
  · exact .backDate (h.edit rfl rfl)
  · exact h.edit rfl rfl

theorem Works.takeTim {body : List Byte} (h : Works s u) : Works s (u.takeTim body) := by
  unfold State.takeTim
  split
  · exact h.adoptTime
  · exact h

/-! ### The van window (R165 to R167, R171, R172, R177) -/

/-- The window record replaced by one whose accepted list has its places. -/
theorem Works.window {van : VanUnit} (h : Works s u)
    (hw : u.van.window.all (fun w => decide (w.accepted.length ≤ w.places)) = true →
      van.window.all (fun w => decide (w.accepted.length ≤ w.places)) = true) : Works s { u with van := van } :=
  h.apart rfl rfl (.of_bounds rfl rfl rfl rfl fun hb => { hb with accepted := hw hb.accepted })

theorem State.isVan_role {s : State} (h : s.isVan = true) : s.straps.role = .van := by simpa [State.isVan] using h

theorem State.isPost_iff (s : State) : s.isPost = true ↔ s.straps.role = .post := by simp [State.isPost]

theorem Works.closeWindow {cause : WindowCause} (h : Works s u) : Works s (u.closeWindow cause) := by
  unfold State.closeWindow
  split
  · dsimp only
    split
    · rename_i hv
      exact .appendEvent (h.window (fun _ => rfl)) (by simp [State.isVan_role hv])
    · exact h.window (fun _ => rfl)
  · exact h

theorem Works.openWindow {v : VopValues} (h : Works s u) : Works s (u.openWindow v) := by
  unfold State.openWindow
  exact .evaluateOffer (h.window (fun _ => by simp))

theorem Works.takeVop {body : List Byte} (h : Works s u) : Works s (u.takeVop body) := by
  unfold State.takeVop
  split
  · split
    · split
      · exact h
      · exact h.closeWindow.openWindow
    · exact h.openWindow
  · exact h

theorem Works.takeVcl {body : List Byte} (h : Works s u) : Works s (u.takeVcl body) := by
  unfold State.takeVcl
  split
  · split
    · exact h.closeWindow
    · exact h
  · exact h

theorem Works.offerAccepted {w : VanWindow} (h : Works s u) : Works s (u.offerAccepted w) := by
  unfold State.offerAccepted
  dsimp only
  split
  · exact h.edit rfl rfl
  · split
    · split
      · exact h.edit rfl rfl
      · exact h.edit rfl rfl
    · split
      · exact h.edit rfl rfl
      · exact h.edit rfl rfl

/-- An offer is appended while a place is free. -/
theorem Works.appendOffer {w : VanWindow} {sender : Nat} {body : List Byte} (h : Works s u)
    (hroom : w.accepted.length < w.places) : Works s (u.appendOffer w sender body) := by
  unfold State.appendOffer
  dsimp only
  split
  · rename_i hv
    exact .appendEvent (h.window (fun _ => by simp; omega)) (by simp [State.isVan_role hv])
  · split
    · exact .offerAccepted (h.window (fun _ => by simp; omega))
    · exact .evaluateOffer (h.window (fun _ => by simp; omega))

theorem Works.takeOfr {sender : Nat} {body : List Byte} {own : Option Nat} (h : Works s u) :
    Works s (u.takeOfr sender body own) := by
  unfold State.takeOfr
  split
  · split
    · rename_i hadmits
      refine h.appendOffer ?_
      simp only [VanWindow.admits, Bool.and_eq_true, decide_eq_true_eq] at hadmits
      exact hadmits.2
    · split
      · exact h.edit rfl rfl
      · exact h
  · exact h

/-! ### The claim list (R110, R111) -/

/-- What `State.claimsSound` says of a list of claims. -/
def claimsBounded (l : List Claim) : Prop := l.length ≤ 16 ∧ (l.map (fun c => (c.claimant, c.serial))).Nodup

theorem claimsBounded.sublist {p l : List Claim} (h : claimsBounded l) (hp : p.Sublist l) : claimsBounded p :=
  ⟨hp.length_le.trans h.1, h.2.sublist (hp.map _)⟩

theorem claimsBounded.enterClaim {l : List Claim} (h : claimsBounded l) (c : Claim) : claimsBounded (enterClaim c l) := by
  obtain ⟨_, hnodup⟩ := h
  refine ⟨?_, nodup_append_newest hnodup ((List.drop_sublist _ _).trans ?_)⟩
  · simp only [Machine.enterClaim, List.length_append, List.length_drop, List.length_singleton]
    omega
  · simp [dropClaims, Prod.ext_iff]

/-- The claim list has moved within its bound. -/
theorem Works.claims {l : List Claim} (h : Works s u) (hc : claimsBounded u.hire.claims → claimsBounded l) :
    Works s { u with hire := { u.hire with claims := l } } :=
  h.apart rfl rfl ⟨id, hc, fun hb => { hb with }, fun _ => rfl, fun _ => id⟩

theorem Works.takeClm {sender : Nat} {serial : BitVec 8} {body : List Byte} (h : Works s u) :
    Works s (u.takeClm sender serial body) := by
  unfold State.takeClm
  split
  · exact h
  · exact h.claims (fun hc => hc.enterClaim _)

theorem Works.removeClaim {sender : Nat} {serial : BitVec 8} {member : Nat} (h : Works s u) :
    Works s (u.removeClaim sender serial member) := h.claims (fun hc => hc.sublist List.filter_sublist)

/-! ### The member view and the fault unit (R93, R97, R98, R100, R158) -/

theorem Works.takeMbr {body : List Byte} (h : Works s u) : Works s (u.takeMbr body) := by
  unfold State.takeMbr
  split
  · rename_i e _
    have put : Works s { u with view := u.view.put e } := h.view rfl (fun hv => hv.put e) rfl
    dsimp only
    split
    · split
      · split
        · exact .lookupAnswered (put.edit rfl rfl)
        · exact put.edit rfl rfl
      · exact put
    · exact put
  · exact h

theorem Works.clearTagMark (h : Works s u) : Works s u.clearTagMark := .evaluateSince (h.edit rfl rfl)

theorem Works.takeFcl {body : List Byte} (h : Works s u) : Works s (u.takeFcl body) := by
  unfold State.takeFcl
  dsimp only
  split
  · exact (Works.ite h.clearTagMark h).changeFaults
  · exact h

/-! ### The peer table (R28 to R35) -/

theorem Works.setPeer {n : Nat} {p : Peer} (h : Works s u) : Works s (u.setPeer n p) :=
  h.apart rfl rfl (.of_bounds rfl rfl rfl rfl fun hb => { hb with peers := (List.length_set ..).trans hb.peers })

theorem Works.peerChange {n : Nat} {changed : Bool} (h : Works s u) : Works s (u.peerChange n changed) := by
  unfold State.peerChange
  split <;> rename_i hr
  · exact h.evaluateOffer.duplicateCheck
  · exact h.appendEvent (by simp [hr])
  · exact h.appendEvent (by simp [hr])
  · exact h

theorem Works.adoptStation {id : Nat} (h : Works s u) : Works s (u.adoptStation id) := .markSlots (h.edit rfl rfl)

theorem Works.stationConflict (h : Works s u) : Works s u.stationConflict := by
  unfold State.stationConflict
  split
  · exact .raisePost (h.edit rfl rfl)
  · exact h

theorem Works.offerStationId {b : Beacon} (h : Works s u) : Works s (u.offerStationId b) := by
  unfold State.offerStationId
  split
  · exact h
  · split
    · exact h.adoptStation
    · split
      · exact h.stationConflict
      · exact h

theorem Works.peerHears {f : Frame} (h : Works s u) : Works s (u.peerHears f) := by
  unfold State.peerHears
  dsimp only
  split
  · exact h.setPeer.offerStationId
  · exact h.setPeer

theorem Works.handOn {f : Frame} {before : State} (h : Works s u) : Works s (u.handOn f before) := by
  unfold State.handOn
  split
  · exact h.peerChange
  · exact h

theorem Works.hearSelf (h : Works s u) : Works s u.hearSelf := h.setPeer

theorem Works.goSilent {n : Nat} (h : Works s u) : Works s (u.goSilent n) := by
  unfold State.goSilent
  dsimp only
  exact (Works.ite h.setPeer.closeWindow h.setPeer).peerChange

theorem Works.silenceDue {n : Nat} (h : Works s u) : Works s (u.silenceDue n) := by
  unfold State.silenceDue
  split
  · split
    · exact h
    · exact h.reachMs.goSilent
  · exact h

theorem Works.duplicateHoldEnds (h : Works s u) : Works s u.duplicateHoldEnds := by
  unfold State.duplicateHoldEnds
  split
  · exact .evaluateSince (h.reachMs.edit rfl rfl)
  · exact h

theorem Works.beaconDue (h : Works s u) : Works s u.beaconDue := by
  unfold State.beaconDue
  split
  · exact .send (h.reachMs.edit rfl rfl)
  · exact h

/-! ### The timebase (R41, R42, R47) -/

theorem Works.becomeStale (h : Works s u) : Works s u.becomeStale := by
  unfold State.becomeStale
  split
  · exact h.reachMs.edit rfl rfl
  · exact h

theorem Works.carryDue (h : Works s u) : Works s u.carryDue := by
  unfold State.carryDue
  split
  · exact h.reachMs.edit rfl rfl
  · exact h

theorem Works.setHeldCapture {holder : PendingHolder} {c : Capture} (h : Works s u) :
    Works s (u.setHeldCapture holder c) := by
  unfold State.setHeldCapture
  split
  · exact h.edit rfl rfl
  · exact h.edit rfl rfl
  · exact h.edit rfl rfl

theorem Works.pendingLapses {holder : PendingHolder} (h : Works s u) : Works s (u.pendingLapses holder) := by
  unfold State.pendingLapses
  split
  · exact .ite h.reachMs.setHeldCapture h
  · exact h

theorem Works.slotLapses {source : CaptureSource} (h : Works s u) : Works s (u.slotLapses source) := by
  unfold State.slotLapses
  split
  · exact h.reachMs.consume
  · exact h

/-! ### The listening blocks -/

theorem Works.hired {member : Nat} (h : Works s u) : Works s { u with view := u.view.hired member } :=
  h.view rfl (fun hv => hv.hired member) rfl

theorem Works.settled {body : List Byte} (h : Works s u) : Works s { u with view := u.view.settled body } :=
  h.view rfl (fun hv => hv.settled body) rfl

theorem Works.postTakes {f : Frame} {own : Option Nat} (h : Works s u) : Works s (u.postTakes f own) := by
  unfold State.postTakes
  split
  · exact h.takeClm
  · exact h.removeClaim
  · exact h.takeOfr
  · exact h.hired.removeClaim
  · exact h.settled
  · exact h
  · exact .ite h.takeFcl h
  · exact h
  · exact .ite h.takeMbr h
  · exact .ite h.takeVop h
  · exact h
  · exact .ite h.takeVcl h
  · exact h
  · exact .ite h.takeTim h
  · exact .ite h.takeTrf h

theorem Works.terminalTakes {f : Frame} (h : Works s u) (hr : u.straps.role ≠ .post) : Works s (u.terminalTakes f) := by
  unfold State.terminalTakes
  split
  case h_4 => exact h.hired.appendEvent hr
  case h_5 => exact h.settled.appendEvent hr
  case h_6 => exact h.appendEvent hr
  case h_8 => exact h.appendEvent hr
  case h_11 => exact h.appendEvent hr
  all_goals exact h

theorem Works.vanTakes {f : Frame} (h : Works s u) (hr : u.straps.role ≠ .post) : Works s (u.vanTakes f) := by
  unfold State.vanTakes
  split
  case h_3 => exact h.takeOfr
  case h_10 => exact .ite h.takeVop h
  case h_11 => exact h.appendEvent hr
  case h_12 => exact .ite h.takeVcl h
  case h_14 => exact .ite h.takeTim h
  all_goals exact h

theorem Works.monitorTakes {f : Frame} (h : Works s u) (hr : u.straps.role ≠ .post) : Works s (u.monitorTakes f) := by
  refine (Works.ite h.takeTim h).appendEvent ?_
  split
  · simpa using hr
  · exact hr

theorem Works.blocksTake {f : Frame} {own : Option Nat} (h : Works s u) : Works s (u.blocksTake f own) := by
  unfold State.blocksTake
  split <;> rename_i hr
  · exact h.postTakes
  · exact h.terminalTakes (by simp [hr])
  · exact h.vanTakes (by simp [hr])
  · exact h.monitorTakes (by simp [hr])

theorem Works.takeFromPeer {f : Frame} (h : Works s u) : Works s (u.takeFromPeer f) := by
  unfold State.takeFromPeer
  dsimp only
  split
  · exact h.peerHears.blocksTake.handOn
  · exact h.peerHears.handOn.blocksTake

theorem Works.offerHeld (h : Works s u) : Works s u.offerHeld := by
  unfold State.offerHeld
  split
  · exact .send (h.trans ⟨rfl, rfl, id, id, fun _ => rfl, fun _ e he _ => ⟨e, he, rfl, rfl⟩, .of_eq rfl rfl⟩)
  · exact h

theorem Works.answerSent {e : TxEntry} {serial : BitVec 8} (h : Works s u) : Works s (u.answerSent e serial) := by
  unfold State.answerSent
  split
  · exact h.clmSent
  · exact h

/-! ### The local port (R180 to R188) -/

theorem Works.respondCarrying {status : PortStatus} {body : List Byte} {carried : Carried} (h : Works s u)
    (hr : u.straps.role ≠ .post) : Works s (u.respondCarrying status body carried) := h.port hr id

theorem Works.respond {status : PortStatus} (h : Works s u) (hr : u.straps.role ≠ .post) : Works s (u.respond status) :=
  h.respondCarrying hr

theorem Works.respondOffer {kind : Kind} {body : List Byte} (h : Works s u) (hr : u.straps.role ≠ .post) :
    Works s (u.respondOffer kind body) := by
  have hrole : (u.offer kind body).1.straps.role ≠ .post := by simpa using hr
  unfold State.respondOffer
  split <;> rename_i heq <;> rw [heq] at hrole
  · exact (h.of_offer heq).respond hrole
  · exact (h.of_offer heq).respond hrole

theorem Works.requestStatus {body : List Byte} (h : Works s u) (hr : u.straps.role ≠ .post) :
    Works s (u.requestStatus body) := .ite (h.respondCarrying hr) (h.respond hr)

theorem Works.requestPeerRead {body : List Byte} (h : Works s u) (hr : u.straps.role ≠ .post) :
    Works s (u.requestPeerRead body) := .ite (h.respondCarrying hr) (h.respond hr)

theorem Works.requestEventRead {body : List Byte} (h : Works s u) (hr : u.straps.role ≠ .post) :
    Works s (u.requestEventRead body) := by
  unfold State.requestEventRead
  split
  · split
    · exact h.respond hr
    · exact h.respondCarrying hr
  · exact h.respond hr

/-- The terminal's store is used in its role alone (Table 0-2). -/
theorem Works.terminal {store : TerminalStore} (h : Works s u)
    (hr : u.straps.role = .terminal ∨ u.terminal ≠ TerminalStore.afterReset) :
    Works s { u with terminal := store } :=
  h.apart rfl rfl ⟨id, id, fun hb => { hb with }, fun _ => rfl,
    fun hrole hrest => absurd hrest (hr.resolve_left hrole)⟩

theorem State.not_post_of_terminal {s : State} (h : s.straps.role = .terminal) : s.straps.role ≠ .post := by simp [h]

theorem Works.requestStationSet {body : List Byte} (h : Works s u) (hr : u.straps.role = .terminal) :
    Works s (u.requestStationSet body) := by
  have hp := State.not_post_of_terminal hr
  exact .ite (h.respond hp) (.ite (h.respond hp) (.respond (h.terminal (.inl hr)) hp))

theorem Works.requestTimeSet {body : List Byte} (h : Works s u) (hr : u.straps.role = .terminal) :
    Works s (u.requestTimeSet body) := by
  have hp := State.not_post_of_terminal hr
  have restarted : ∀ scheme, Works s
      { u.adoptTime scheme with
        terminal := { (u.adoptTime scheme).terminal with timAt := some (u.clock.ms + timPeriod) } } :=
    fun scheme => h.adoptTime.terminal (.inl (by simpa using hr))
  have hrole : ∀ scheme, (u.adoptTime scheme).straps.role ≠ .post := fun scheme => by simpa using hp
  unfold State.requestTimeSet
  split
  · exact h.respond hp
  · exact .ite ((restarted _).respond (hrole _)) ((restarted _).respondOffer (hrole _))

theorem Works.timTimerExpires {due : Ms} (h : Works s u) (hr : u.terminal ≠ TerminalStore.afterReset) :
    Works s (u.timTimerExpires due) :=
  .ite (.send (h.terminal (.inr hr))) (h.terminal (.inr hr))

theorem Works.requestTariffLoad {body : List Byte} (h : Works s u) (hr : u.straps.role = .terminal) :
    Works s (u.requestTariffLoad body) := by
  have hp := State.not_post_of_terminal hr
  unfold State.requestTariffLoad
  split
  · exact h.respond hp
  · split
    · exact h.respond hp
    · exact .respondOffer (h.terminal (.inl hr)) hp

theorem Works.requestTariffCommit {body : List Byte} (h : Works s u) (hr : u.straps.role = .terminal) :
    Works s (u.requestTariffCommit body) := by
  have hp := State.not_post_of_terminal hr
  exact .ite (h.respond hp) (.ite (.respond (h.terminal (.inl hr)) hp) (h.respond hp))

theorem Works.trfCycleExpires {due : Ms} (h : Works s u) (hr : u.terminal ≠ TerminalStore.afterReset) :
    Works s (u.trfCycleExpires due) := by
  unfold State.trfCycleExpires
  dsimp only
  split
  · exact .send (h.terminal (.inr hr))
  · exact h.terminal (.inr hr)

theorem Works.requestMemberPush {body : List Byte} (h : Works s u) (hr : u.straps.role ≠ .post) :
    Works s (u.requestMemberPush body) := by
  unfold State.requestMemberPush
  split
  · exact .respondOffer (h.view rfl (fun hv => hv.put _) rfl) hr
  · exact h.respond hr

theorem Works.requestFaultClear {body : List Byte} (h : Works s u) (hr : u.straps.role ≠ .post) :
    Works s (u.requestFaultClear body) := .ite (h.respondOffer hr) (h.respond hr)

theorem Works.requestVanOpen {body : List Byte} (h : Works s u) (hr : u.straps.role ≠ .post) :
    Works s (u.requestVanOpen body) := by
  unfold State.requestVanOpen
  split
  · exact h.respond hr
  · exact .ite (h.respond hr) (h.respondOffer hr)

theorem Works.requestVanClose {body : List Byte} (h : Works s u) (hr : u.straps.role ≠ .post) :
    Works s (u.requestVanClose body) := .ite (h.respond hr) (.ite (h.respondOffer hr) (h.respond hr))

/-- Whatever the request, a role that Table 11-3 gives for it answers it within its bounds. -/
theorem Works.requestOf {k : RequestKind} {body : List Byte} (h : Works s u) (hr : u.straps.role ≠ .post)
    (hk : k.allows u.straps.role = true) : Works s (requestOf k body u) := by
  have terminal : decide (u.straps.role = .terminal) = true → u.straps.role = .terminal := of_decide_eq_true
  cases k
  case status => exact h.requestStatus hr
  case peerRead => exact h.requestPeerRead hr
  case stationSet => exact h.requestStationSet (terminal hk)
  case timeSet => exact h.requestTimeSet (terminal hk)
  case tariffLoad => exact h.requestTariffLoad (terminal hk)
  case tariffCommit => exact h.requestTariffCommit (terminal hk)
  case memberPush => exact h.requestMemberPush hr
  case faultClear => exact h.requestFaultClear hr
  case vanOpen => exact h.requestVanOpen hr
  case vanClose => exact h.requestVanClose hr
  case eventRead => exact h.requestEventRead hr

theorem State.portWorks_role {s : State} (h : s.portWorks = true) : s.straps.role ≠ .post := by
  simpa [State.portWorks, State.isPost] using h

theorem Works.shiftFiller {count : Nat} (h : Works s u) (hr : u.straps.role ≠ .post) : Works s (u.shiftFiller count) :=
  h.port hr id

theorem Works.takeRequest {k : RequestKind} {body : List Byte} (h : Works s u) :
    Works s (u.takeRequest k (Machine.requestOf k) body) := by
  unfold State.takeRequest
  split
  · rename_i hp
    have hr := State.portWorks_role hp
    dsimp only
    split
    · rename_i hk
      exact .requestOf (h.shiftFiller hr) hr hk
    · exact .respond (h.shiftFiller hr) hr
  · exact h

theorem Works.takeRecord {bytes : List Byte} (h : Works s u) : Works s (u.takeRecord bytes) := by
  unfold State.takeRecord
  split
  · rename_i hp
    have hr := State.portWorks_role hp
    split
    · exact .respond (h.shiftFiller hr) hr
    · split
      · exact .respond (h.shiftFiller hr) hr
      · exact h.takeRequest
  · exact h

theorem Works.readsResponse {count : Nat} (h : Works s u) (hr : u.straps.role ≠ .post) :
    Works s (u.readsResponse count) := by
  unfold State.readsResponse
  split
  · rename_i r _
    dsimp only
    split
    · refine h.port hr (fun hlen => ?_)
      cases r.carried
      case nothing => exact hlen
      case status => exact hlen
      case event =>
        have : (u.port.events.drop 1).length ≤ 64 := by rw [List.length_drop]; omega
        exact this
    · exact h.port hr id
  · exact h.port hr id

theorem Works.takeTransaction {bytes : List Byte} (h : Works s u) : Works s (u.takeTransaction bytes) := by
  unfold State.takeTransaction
  split
  · exact h
  · split
    · split
      · rename_i hp
        exact h.readsResponse (State.portWorks_role hp)
      · exact h
    · exact h.takeRecord

end

end Sys2Proof.Machine
end

section
/-! What every step keeps (statements on the settled station, the transmit queue, the stores and the silent stations): the
line controller's own operations, the end of a step, and the cases of `exec`. -/

namespace Sys2Proof.Machine

/-- From `s` to `t` the invariants of the line and of the stores are kept, each for itself. -/
structure Keeps (s t : State) : Prop where
  straps : t.straps = s.straps
  queue : s.queueSound → t.queueSound
  refs : s.refsSound → t.refsSound
  attempt : s.attemptSound → t.attemptSound
  silent : s.silentSafe → t.silentSafe
  stores : StoresKept s t

theorem Keeps.refl (s : State) : Keeps s s := ⟨rfl, id, id, id, id, .refl s⟩

section
variable {s u t : State}

theorem Keeps.trans (h : Keeps s u) (k : Keeps u t) : Keeps s t where
  straps := k.straps.trans h.straps
  queue := k.queue ∘ h.queue
  refs := k.refs ∘ h.refs
  attempt := k.attempt ∘ h.attempt
  silent := k.silent ∘ h.silent
  stores := h.stores.trans k.stores h.straps

theorem Keeps.ite {c : Prop} [Decidable c] {a b : State} (ha : Keeps s a) (hb : Keeps s b) :
    Keeps s (if c then a else b) := by
  split
  · exact ha
  · exact hb

/-- A station may send nothing, or not, by its straps alone. -/
theorem State.silent_congr (h : t.straps = s.straps) :
    (t.sends = false ∨ t.barred = true) ↔ (s.sends = false ∨ s.barred = true) := by
  simp only [State.sends, State.barred, h]

/-- The work of the blocks touches neither the attempt nor the quiet, and a silent station queues nothing by it. -/
theorem Works.keeps (h : Works s t) : Keeps s t where
  straps := h.straps
  queue := h.queue
  refs := h.refs
  attempt ha := by rw [State.attemptSound, h.line]; exact ha
  silent hs hsilent := by
    have hsilent := (State.silent_congr h.straps).1 hsilent
    obtain ⟨hq, htx⟩ := hs hsilent
    exact ⟨(h.silent hsilent).trans hq, by rw [h.line]; exact htx⟩
  stores := h.stores

theorem Keeps.works (h : Keeps s u) (w : Works u t) : Keeps s t := h.trans w.keeps

theorem Works.after (w : Works u t) (h : Keeps s u) : Keeps s t := h.works w

/-! ### Steps of the line controller -/

/-- Entries may leave the queue, and the attempt and the quiet may end. -/
theorem Keeps.release (h : Keeps s u) (hs : t.stores = u.stores) (hb : t.line.badFrames = u.line.badFrames)
    (hq : t.line.queue.Sublist u.line.queue) (hn : t.line.nextRef = u.line.nextRef)
    (htx : t.line.tx = none ∨ t.line.tx = u.line.tx) (hquiet : t.line.quiet = none ∨ t.line.quiet = u.line.quiet) :
    Keeps s t :=
  h.trans
    { straps := congrArg Prod.fst hs
      queue := fun hu => queueInOrder.sublist hu hq
      refs := fun hu => by rw [State.refsSound_iff, hn]; exact refsBelow.sublist hu hq
      attempt := fun hu ht => by
        rcases hquiet with hquiet | hquiet
        · exact hquiet
        · rcases htx with htx | htx
          · rw [htx] at ht; cases ht
          · rw [hquiet]; exact hu (htx ▸ ht)
      silent := fun hu hsilent => by
        obtain ⟨hq', htx'⟩ := hu ((State.silent_congr (congrArg Prod.fst hs)).1 hsilent)
        refine ⟨List.eq_nil_of_subset_nil (hq' ▸ hq.subset), ?_⟩
        rcases htx with htx | htx
        · exact htx
        · exact htx.trans htx'
      stores := .of_eq hs hb }

/-- A step on what no invariant of the line speaks of. -/
theorem Keeps.line {l : Line} (h : Keeps s u)
    (hl : (l.badFrames, l.queue, l.nextRef, l.tx, l.quiet) =
      (u.line.badFrames, u.line.queue, u.line.nextRef, u.line.tx, u.line.quiet)) : Keeps s { u with line := l } := by
  obtain ⟨hb, hq, hn, htx, hquiet⟩ : l.badFrames = u.line.badFrames ∧ l.queue = u.line.queue ∧
      l.nextRef = u.line.nextRef ∧ l.tx = u.line.tx ∧ l.quiet = u.line.quiet := by simpa using hl
  have hsub : l.queue.Sublist u.line.queue := by rw [hq]
  exact h.release rfl hb hsub hn (.inr htx) (.inr hquiet)

/-- A body of the queue is replaced. -/
theorem Keeps.replaceBody {ref : Nat} {body : List Byte} (h : Keeps s u) :
    Keeps s { u with line := { u.line with queue := replaceBody ref body u.line.queue } } :=
  h.trans
    { straps := rfl
      queue := (queueInOrder_replaceBody ref body _).2
      refs := refsBelow_replaceBody ref body _ _
      attempt := id
      silent := fun hu hsilent => by
        obtain ⟨hq, htx⟩ := hu hsilent
        exact ⟨by simp [hq, Machine.replaceBody], htx⟩
      stores := .of_eq rfl rfl }

/-- An attempt starts on a queue that holds a frame, and ends the quiet (R14). -/
theorem Keeps.startTransmission (h : Keeps s u) : Keeps s u.startTransmission := by
  unfold State.startTransmission
  split
  · exact h
  · rename_i e rest hq
    refine h.replaceBody.trans ⟨rfl, id, id, fun _ _ => rfl, fun hu hsilent => ?_, .of_eq rfl rfl⟩
    obtain ⟨hnil, _⟩ := hu hsilent
    simp [Machine.replaceBody, hq] at hnil

theorem Keeps.followHead (h : Keeps s u) : Keeps s u.followHead := by
  unfold State.followHead
  split
  · exact h.line rfl
  · exact .ite h (.ite h.startTransmission (h.line rfl))

theorem Keeps.chooseLamp (h : Keeps s u) : Keeps s u.chooseLamp := by
  unfold State.chooseLamp
  exact .ite (h.works (.edit (.refl _) rfl rfl)) h

/-- The conclusion of a step (log 11). -/
theorem Keeps.conclude (h : Keeps s u) : Keeps s (conclude u) := h.followHead.chooseLamp

/-- The bad-frame record has taken an instant, or is emptied (R18). -/
theorem Keeps.badFrames {record : List Ms} (h : Keeps s u)
    (hlen : u.line.badFrames.length ≤ 21 → record.length ≤ 21) :
    Keeps s { u with line := { u.line with badFrames := record } } :=
  h.trans ⟨rfl, id, id, id, id, .of_bounds rfl rfl rfl rfl fun hb => { hb with badFrames := hlen hb.badFrames }⟩

theorem appendBadFrame_length (record : List Ms) (at_ : Ms) : (appendBadFrame record at_).length ≤ 21 := by
  simp only [appendBadFrame, List.length_drop, List.length_append, List.length_singleton]
  omega

theorem Keeps.raiseLine {at_ : Ms} (h : Keeps s u) : Keeps s (u.raiseLine at_) :=
  Works.after (.raisePost (.refl _)) (h.line rfl)

theorem Keeps.badFrame {at_ : Ms} (h : Keeps s u) : Keeps s (u.badFrame at_) := by
  have counted := h.badFrames (record := appendBadFrame u.line.badFrames at_) (fun _ => appendBadFrame_length _ _)
  exact .ite (.ite counted.raiseLine counted) h

/-- An entry leaves the queue (R10, R19). -/
theorem Keeps.removeBusy {e : TxEntry} (h : Keeps s u) : Keeps s (u.removeBusy e) :=
  Works.after (.answerBusy (.refl _)) (h.release rfl rfl (removeEntry_sublist e.ref _) rfl (.inr rfl) (.inr rfl))

theorem Keeps.replaceHeld {e : TxEntry} (h : Keeps s u) : Keeps s (u.replaceHeld e) := by
  unfold State.replaceHeld
  split
  · exact h.replaceBody.line rfl
  · exact h

/-- An attempt ends contended (R15). -/
theorem Keeps.endContended (h : Keeps s u) : Keeps s u.endContended := by
  have ended : Keeps s { u with line := { u.line with tx := none } } :=
    h.release rfl rfl (List.Sublist.refl _) rfl (.inl rfl) (.inr rfl)
  unfold State.endContended
  split
  · refine .ite (.ite (ended.removeBusy.works (.offerHeld (.refl _))) ended.removeBusy) ?_
    exact .ite ended.replaceHeld ended
  · exact ended

theorem Keeps.abandonForOwn {x : Transmission} (h : Keeps s u) : Keeps s (u.abandonForOwn x) := by
  unfold State.abandonForOwn
  split
  · exact .badFrame (h.line rfl)
  · exact h

/-! ### Intact frames and the receiver (R2 to R6, R19) -/

theorem Keeps.clearClassZero (h : Keeps s u) : Keeps s u.clearClassZero := by
  suffices ∀ (l : List TxEntry) (v : State), Keeps s v → Keeps s (l.foldl (fun s e => s.removeBusy e) v) from
    this _ _ h
  intro l
  induction l with
  | nil => exact fun _ hv => hv
  | cons e l ih => exact fun v hv => ih _ hv.removeBusy

theorem Keeps.setClash (h : Keeps s u) : Keeps s u.setClash :=
  Works.after (.raisePost (.refl _)) (.clearClassZero (h.line rfl))

theorem Keeps.takeFrame {f : Frame} (h : Keeps s u) : Keeps s (u.takeFrame f) := by
  have taken : Keeps s { u with line := { u.line with lastSender := f.sender } } := h.line rfl
  exact .ite taken.setClash (taken.works (.takeFromPeer (.refl _)))

theorem Keeps.abandonFrame (h : Keeps s u) : Keeps s u.abandonFrame := .badFrame (h.line rfl)

theorem Keeps.inFrame {bytes : List Byte} (h : Keeps s u) : Keeps s (u.inFrame bytes) := h.line rfl

theorem Keeps.frameEnds {bytes : List Byte} (h : Keeps s u) : Keeps s (u.frameEnds bytes) := by
  unfold State.frameEnds
  dsimp only
  split
  · exact .takeFrame (h.line rfl)
  · exact .badFrame (h.line rfl)

theorem Keeps.extendFrame {bytes : List Byte} (h : Keeps s u) : Keeps s (u.extendFrame bytes) :=
  .ite h.abandonFrame (.ite h.frameEnds h.inFrame)

theorem Keeps.receiveChar {c : LineChar} (h : Keeps s u) : Keeps s (u.receiveChar c) := by
  unfold State.receiveChar
  split
  · exact h.abandonFrame
  · exact h
  · exact h.abandonFrame.inFrame
  · exact h.inFrame
  · exact h.extendFrame
  · exact h

theorem Keeps.characterEnds {c : LineChar} (h : Keeps s u) : Keeps s (u.characterEnds c) := by
  obtain ⟨k, hk⟩ := u.characterEnds_eq c
  rw [hk]
  exact h.release rfl rfl (List.Sublist.refl _) rfl (.inr rfl) (.inl rfl)

theorem Keeps.lineReceives {c : LineChar} (h : Keeps s u) : Keeps s (u.lineReceives c) := by
  unfold State.lineReceives
  split
  · exact .ite (h.works (.reachInstant (.refl _))).abandonForOwn h
  · exact h.characterEnds.receiveChar

/-! ### The commands of the Dock Line -/

theorem Keeps.endStuck (h : Keeps s u) : Keeps s u.endStuck := .ite (h.line rfl) h

/-- The line becomes quiet while the station drives nothing. -/
theorem Keeps.becomeQuiet (h : Keeps s u) (htx : u.line.tx = none) : Keeps s u.becomeQuiet := by
  have reached : Keeps s u.reachQuiet ∧ u.reachQuiet.line.tx = none := by
    unfold State.reachQuiet
    split
    · exact ⟨h.works (.reachInstant (.refl _)), by simpa using htx⟩
    · exact ⟨h, htx⟩
  obtain ⟨reached, htx⟩ := reached
  have ended : u.reachQuiet.endStuck.line.tx = none := by
    unfold State.endStuck
    split
    · exact htx
    · exact htx
  refine reached.endStuck.trans ⟨rfl, id, id, fun _ hsome => ?_, id, .of_eq rfl rfl⟩
  rw [show (State.becomeQuiet u).line.tx = _ from ended] at hsome
  cases hsome

theorem Keeps.accessWaitEnds (h : Keeps s u) : Keeps s u.accessWaitEnds := by
  unfold State.accessWaitEnds
  split
  · exact (h.works (.reachInstant (.refl _))).startTransmission
  · exact h

theorem Keeps.keepOwnCharacters {x : Transmission} {bit : Nat} (h : Keeps s u) :
    Keeps s (u.keepOwnCharacters x bit) := by
  unfold State.keepOwnCharacters
  dsimp only
  split
  · exact h.line rfl
  · exact (h.abandonForOwn.line rfl).line rfl

theorem Keeps.echoFails {bit : Nat} (h : Keeps s u) : Keeps s (u.echoFails bit) := by
  unfold State.echoFails
  split
  · exact .ite (h.works (.reachInstant (.refl _))).keepOwnCharacters.endContended h
  · exact h

theorem Keeps.countSent {e : TxEntry} (h : Keeps s u) : Keeps s (u.countSent e) :=
  h.release rfl rfl (removeEntry_sublist e.ref _) rfl (.inl rfl) (.inr rfl)

theorem Keeps.sentIntact {x : Transmission} {e : TxEntry} (h : Keeps s u) : Keeps s (u.sentIntact x e) := by
  have answered := h.abandonForOwn (x := x) |>.countSent (e := e) |>.works
    (.answerSent (e := e) (serial := u.line.serial) (.blocksTake (f := u.ownFrame e) (own := some e.ref)
      (.hearSelf (.refl _))))
  exact .ite (answered.works (.offerHeld (.refl _))) answered

theorem Keeps.transmissionEnds (h : Keeps s u) : Keeps s u.transmissionEnds := by
  unfold State.transmissionEnds
  split
  · exact (h.works (.reachInstant (.refl _))).sentIntact
  · exact h

theorem Keeps.receiveGap (h : Keeps s u) : Keeps s u.receiveGap := by
  unfold State.receiveGap
  split
  · exact .ite (h.works (.reachInstant (.refl _))).abandonFrame h
  · exact h

theorem Keeps.startBitTaken (h : Keeps s u) : Keeps s u.startBitTaken :=
  h.release rfl rfl (List.Sublist.refl _) rfl (.inr rfl) (.inl rfl)

theorem Keeps.detectStuck (h : Keeps s u) : Keeps s u.detectStuck := by
  have stuck : Keeps s
      { u with line := { u.line with stuck := true, quiet := none, wait := none, recessiveSince := none } } :=
    h.release rfl rfl (List.Sublist.refl _) rfl (.inr rfl) (.inl rfl)
  exact stuck.raiseLine.endContended

theorem Keeps.lineClears (h : Keeps s u) : Keeps s u.lineClears := by
  unfold State.lineClears
  split
  · exact Works.after (.clearPost (.refl _)) (.line (h.works (.reachMs (.refl _))) rfl)
  · exact h

theorem Keeps.deadlinePasses (h : Keeps s u) : Keeps s u.deadlinePasses := by
  unfold State.deadlinePasses
  split
  · exact .ite (h.works (.reachMs (.refl _))) (h.works (.reachMs (.refl _))).removeBusy
  · exact h

/-! ### Post restart and the card port (R70, R88 to R91) -/

theorem Keeps.lineRestart (h : Keeps s u) : Keeps s u.lineRestart := by
  have cleared : Keeps s
      { u with
        line := { u.line with lineRaised := false, lineClearAt := none, badFrames := [] }
        peers := { u.peers with conflictSeen := false } } :=
    (h.badFrames (record := []) (fun _ => Nat.zero_le _)).trans ⟨rfl, id, id, id, id, .of_eq rfl rfl⟩
  exact .ite cleared.raiseLine cleared

theorem Keeps.startSelfTest {crew : Nat} (h : Keeps s u) : Keeps s (u.startSelfTest crew) := by
  have cleared := h.works (.clearForSelfTest (.displaysRestart (.vanRestart (.cutShort
    (.edit (t := { u with dock := { u.dock with selfTest := some { phase := .pullIn, crew := crew } } })
      (.refl _) rfl rfl)))))
  exact cleared.lineRestart.works (.edit (.refl _) rfl rfl)

theorem Keeps.takeCard {card : CardRecord} {held : Bool} (h : Keeps s u) : Keeps s (u.takeCard card held) :=
  .ite h (.ite h.startSelfTest (.ite (h.works (.beginHire (.refl _))) (.ite (h.works (.showCrewAck (.refl _))) h)))

/-- The card record, its run count and its gap timer have moved within their bounds. -/
theorem Keeps.card {card : CardPort} (h : Keeps s u)
    (hc : Bounded u → (card.assembler = .complete ∧ card.chars.length = 16 ∨ card.chars.length < 16) ∧
      card.unreadableRun ≤ 8) : Keeps s { u with card := card } :=
  h.trans ⟨rfl, id, id, id, id, .of_bounds rfl rfl rfl rfl fun hb => { hb with chars := (hc hb).1, run := (hc hb).2 }⟩

theorem Keeps.recordGood {card : CardRecord} {held : Bool} (h : Keeps s u) : Keeps s (u.recordGood card held) :=
  .takeCard (Works.after (.clearPost (.refl _)) (h.card (fun hb => ⟨hb.chars, Nat.zero_le 8⟩)))

theorem Keeps.recordUnreadable (h : Keeps s u) : Keeps s u.recordUnreadable := by
  have counted : Keeps s { u with card := { u.card with unreadableRun := min (u.card.unreadableRun + 1) 8 } } :=
    h.card (fun hb => ⟨hb.chars, Nat.min_le_right _ _⟩)
  exact (Keeps.ite (counted.works (.raisePost (.refl _))) counted).works (.takeUnreadable (.refl _))

theorem Keeps.assemblerIdle (h : Keeps s u) : Keeps s u.assemblerIdle :=
  h.card (fun hb => ⟨.inr (Nat.zero_lt_succ 15), hb.run⟩)

theorem Keeps.recordEnds (h : Keeps s u) : Keeps s u.recordEnds := by
  have consumed := h.assemblerIdle.works (.consume (source := .card) (.refl _))
  unfold State.recordEnds
  split
  · exact h.assemblerIdle
  · exact h.assemblerIdle.recordUnreadable
  · exact h.assemblerIdle.recordUnreadable
  · split
    · exact consumed.recordGood
    · exact consumed.recordUnreadable

theorem Keeps.voidRecord {reason : Unreadable} (h : Keeps s u) : Keeps s (u.voidRecord reason) :=
  h.card (fun hb => ⟨.inr (Nat.zero_lt_succ 15), hb.run⟩)

/-- A character is collected where the record is not complete. -/
theorem Keeps.collectCharacter {data : Byte} (h : Keeps s u) (hc : u.card.assembler ≠ .complete) :
    Keeps s (u.collectCharacter data) := by
  have chars : Bounded u → u.card.chars.length < 16 := fun hb => hb.chars.resolve_left (fun hd => hc hd.1)
  unfold State.collectCharacter
  split
  · rename_i hlen
    exact Works.after (.stamp (.refl _)) (h.card (fun hb => ⟨.inl ⟨rfl, by simp [hlen]⟩, hb.run⟩))
  · rename_i hlen
    refine h.card (fun hb => ⟨.inr ?_, hb.run⟩)
    have := chars hb
    simp only [List.length_append, List.length_singleton]
    omega

theorem Keeps.assemble {c : CardChar} (h : Keeps s u) : Keeps s (u.assemble c) := by
  unfold State.assemble
  split <;> rename_i ha _
  · exact h.collectCharacter (by simp [ha])
  · exact h.collectCharacter (by simp [ha])
  · exact h.voidRecord
  · exact h.voidRecord
  · exact h.voidRecord.works (.consume (.refl _))
  · exact h

theorem Keeps.cardReceives {c : CardChar} (h : Keeps s u) : Keeps s (u.cardReceives c) :=
  .assemble (h.card (fun hb => ⟨hb.chars, hb.run⟩))

end

/-! ### Every command -/

/-- A full reset leaves every bound met, whatever was before. -/
theorem State.atRelease_bounded (straps : Straps) (o a b : Bool) (p : List Instr) :
    Bounded (State.atRelease straps o a b p) where
  badFrames := Nat.zero_le _
  peers := by
    simp only [State.atRelease, PeerTable.afterReset]
    split
    · simp
    · simp
  events := Nat.zero_le _
  accepted := rfl
  chars := .inr (Nat.zero_lt_succ 15)
  run := Nat.zero_le _
  count := Nat.zero_le _
  noise := Nat.zero_le _
  burst := rfl

/-- A command that answers by the conclusion of a state that keeps the invariants keeps them. -/
theorem Keeps.of_answer {s u t : State} (h : Keeps s u) (heq : answerNext u = .next t) : Keeps s t := by
  obtain rfl : Machine.conclude u = t := by simpa [answerNext] using heq
  exact h.conclude

/-- Every command but FULL_RESET keeps the invariants. -/
theorem exec_keeps {i : Instr} {s t : State} (hi : ∀ straps o a b, i ≠ .fullReset straps o a b)
    (heq : exec i s = .next t) : Keeps s t := by
  have start := Keeps.refl s
  have work := Works.refl s
  cases i
  case fullReset => exact absurd rfl (hi _ _ _ _)
  case quiet =>
    refine .of_answer ?_ heq
    split
    · rename_i hc
      simp only [State.lineFree, Bool.and_eq_true, Option.isNone_iff_eq_none] at hc
      obtain ⟨⟨htx, _⟩, _⟩ := hc
      exact start.becomeQuiet htx
    · exact start
  case accessWaitExpiry => exact .of_answer start.accessWaitEnds heq
  case echoCheckFail => exact .of_answer start.echoFails heq
  case sentIntact => exact .of_answer start.transmissionEnds heq
  case frameReceived =>
    refine .of_answer ?_ heq
    split
    · exact .ite start.lineReceives start
    · exact start
  case frameAbandoned =>
    refine .of_answer ?_ heq
    split
    · exact .ite start.lineReceives start
    · exact start
  case receiveGapExpiry => exact .of_answer start.receiveGap heq
  case stuckLine => exact .of_answer (.ite start.detectStuck start) heq
  case lineClear => exact .of_answer start.lineClears heq
  case deadlineExpiry => exact .of_answer start.deadlinePasses heq
  case startBit => exact .of_answer (.ite start.startBitTaken start) heq
  case lineCharacter => exact .of_answer start.lineReceives heq
  case cardCharacter => exact .of_answer (.ite start.cardReceives start) heq
  case recordGap =>
    refine .of_answer ?_ heq
    split
    · exact work.reachMs.keeps.recordEnds
    · exact start
  all_goals refine .of_answer (Works.keeps ?_) heq
  case beaconTimerExpiry => exact work.beaconDue
  case silenceTimerExpiry => exact work.silenceDue
  case duplicateHoldExpiry => exact work.duplicateHoldEnds
  case stalenessExpiry => exact work.becomeStale
  case carry => exact work.carryDue
  case pendingLapse => exact work.pendingLapses
  case captureSlotLapse => exact work.slotLapses
  case openEdge => exact .ite work.boltOpens work
  case closedEdge => exact .ite work.boltCloses work
  case pullInEnd => exact work.pullInEnds
  case openCheckExpiry => exact work.openCheckDue
  case takeWindowExpiry => exact work.takeWindowDue
  case closeCheckExpiry => exact work.closeCheckDue
  case pushAsideLimitExpiry => exact work.pushAsideDue
  case beamEdge => exact .ite work.beamsChange work
  case buttonPress => exact .ite work.buttonPressed work
  case buttonRelease => exact .ite (work.edit rfl rfl) work
  case burstEndExpiry => exact work.burstEnds
  case flashPhaseExpiry => exact work.flashPhaseEnds
  case refusalDisplayEnd =>
    split
    · exact work.reachMs.edit rfl rfl
    · exact work
  case crewAcknowledgementEnd =>
    split
    · exact work.reachMs.edit rfl rfl
    · exact work
  case periodicTimerExpiry =>
    split
    · exact .requestPeriodic (work.reachMs.edit rfl rfl)
    · exact work
  case ch0Request =>
    split
    · exact .requestEvent (work.reachMs.edit rfl rfl)
    · exact work
  case converterWakeEnd =>
    split
    · exact work.reachInstant.edit rfl rfl
    · exact work
    · exact work
  case burstComplete =>
    split
    · exact work.reachInstant.takeBurst.nextBurst
    · exact work
    · exact work
  case holdPhaseEnd =>
    split
    · exact work.reachMs.selfTestCloses
    · exact work
  case noTag => exact work.tagSilent
  case sectionReadComplete => exact .ite work.tagAnswers.sectionRead work
  case sectionWriteComplete =>
    split
    · exact work.reachMs.edit rfl rfl
    · exact work
    · exact work
    · exact work
  case tagAnswer => exact work.tagAnswers
  case lookupTimerExpiry => exact work.lookupDue
  case claimAgeExpiry =>
    split
    · rename_i c rest hc
      exact work.reachMs.claims (fun hl => hl.sublist (by simp [hc]))
    · exact work
  case claimWindowExpiry =>
    split
    · exact work.reachMs.onRecord.claimWindowEnds
    · exact work
  case settleTimerExpiry =>
    split
    · exact work.reachMs.settleEnds
    · exact work
  case gatheringExpiry =>
    split
    · exact work.reachMs.gatheringEnds
    · exact work
  case ratingComplete =>
    split
    · exact work.reachMs.enterDone.swapTariff.offerSlot
    · exact work
  case stlRetryExpiry =>
    split
    · exact work.reachMs.offerSlot
    · exact work
  case stlAbandon =>
    split
    · exact work.reachMs.finishSlot
    · exact work
  case reportingWindowExpiry =>
    split
    · exact work.reachMs.edit rfl rfl
    · exact work
  case windowExpiry =>
    split
    · exact work.reachMs.closeWindow
    · exact work
  case offerRetryExpiry =>
    split
    · exact .evaluateOffer (work.reachMs.edit rfl rfl)
    · exact work
  case status => exact work.takeRequest
  case peerRead => exact work.takeRequest
  case stationSet => exact work.takeRequest
  case timeSet => exact work.takeRequest
  case timTimerExpiry =>
    split
    · rename_i due hdue
      exact work.reachMs.timTimerExpires (fun hrest => by simp_all [TerminalStore.afterReset])
    · exact work
  case tariffLoad => exact work.takeRequest
  case tariffCommit => exact work.takeRequest
  case trfCycleExpiry =>
    split
    · rename_i due hdue
      exact work.reachMs.trfCycleExpires (fun hrest => by simp_all [TerminalStore.afterReset])
    · exact work
  case memberPush => exact work.takeRequest
  case faultClear => exact work.takeRequest
  case vanOpen => exact work.takeRequest
  case vanClose => exact work.takeRequest
  case eventRead => exact work.takeRequest
  case unknownRequest => exact work.takeTransaction
  case readTransaction =>
    split
    · rename_i hp
      exact work.readsResponse (State.portWorks_role hp)
    · exact work

/-- What a step is: a full reset, or a state of which the invariants are kept. -/
theorem step_cases {s t : State} (heq : step s = .next t) :
    (∃ straps o a b p, t = State.atRelease straps o a b p) ∨ Keeps s t := by
  unfold step at heq
  split at heq
  · obtain rfl : s.tick = t := by simpa using heq
    exact .inr (Works.keeps (.edit (.refl s) (by simp) (by simp [State.stores])))
  · rename_i c rest _
    by_cases hc : ∃ straps o a b, c = .fullReset straps o a b
    · obtain ⟨straps, o, a, b, rfl⟩ := hc
      exact .inl ⟨straps, o, a, b, rest, by simpa [exec, execFullReset] using heq.symm⟩
    · simp only [not_exists] at hc
      exact .inr (.trans (u := { s with pending := rest }) (Works.keeps (.edit (.refl s) rfl rfl)) (exec_keeps hc heq))

/-! ### The invariants of every step -/

/-- Every step ends concluded, FULL_RESET's state is settled as it stands, and a microsecond moves nothing that the wait
or the lamp follows. -/
theorem State.atRelease_settled (straps : Straps) (o a b : Bool) (p : List Instr) :
    (State.atRelease straps o a b p).settled := by
  refine ⟨rfl, fun hp => ?_⟩
  have hrole : straps.role = .post := (State.isPost_iff _).1 hp
  have hlevel : (State.atRelease straps o a b p).postLevel = if strapBarred straps then 2 else 0 := by
    cases hb : strapBarred straps <;> simp [State.postLevel, State.atRelease, FaultUnit.afterReset, hb, PostFault.level]
  have hwork : (State.atRelease straps o a b p).working = true := by
    simp [State.working, State.atRelease, HireController.afterReset, TagPort.afterReset, hrole]
  have hrow : (State.atRelease straps o a b p).lampRow = if strapBarred straps then .redSteady else .workAmberFlash := by
    unfold State.lampRow
    rw [hlevel, hwork]
    cases strapBarred straps <;>
      simp [State.atRelease, Dock.afterReset, State.testPhase, VanUnit.afterReset]
  rw [hrow]
  cases hb : strapBarred straps <;> simp [State.atRelease, Dock.afterReset, hrole, hb]

/-- Settles O6: a command ends in the conclusion of the step, which settles. -/
theorem everyStepSettles : Obligations.EveryStepSettles := by
  intro s t hs heq
  unfold step at heq
  split at heq
  · obtain rfl : s.tick = t := by simpa using heq
    unfold State.tick
    split
    · exact hs
    · exact hs
  · rename_i c rest _
    rcases exec_concludes c { s with pending := rest } with ⟨straps, o, a, b, rfl⟩ | ⟨u, hu⟩
    · obtain rfl : State.atRelease straps o a b rest = t := by simpa [exec, execFullReset] using heq
      exact State.atRelease_settled straps o a b rest
    · obtain rfl : conclude u = t := by simpa [hu] using heq
      exact conclude_settled u

/-- Settles O7: the line controller queues by class in a queue with room, gives each frame the next reference, and ends the
quiet with its own start bit. -/
theorem everyStepKeepsTheQueue : Obligations.EveryStepKeepsTheQueue := by
  refine ⟨?_, ?_, ?_⟩ <;> intro s t hs heq <;> rcases step_cases heq with ⟨straps, o, a, b, p, rfl⟩ | hk
  · exact ⟨Nat.zero_le _, List.Pairwise.nil, Nat.zero_le _⟩
  · exact hk.queue hs
  · exact ⟨by simp [State.atRelease, Line.afterReset], List.nodup_nil⟩
  · exact hk.refs hs
  · exact fun h => by cases h
  · exact hk.attempt hs

/-- Settles O8: each store takes an entry in a free place or for its oldest one, and each count ends at its bound. -/
theorem everyStepKeepsTheStores : Obligations.EveryStepKeepsTheStores := by
  refine ⟨?_, ?_, ?_⟩ <;> intro s t hs heq <;> rcases step_cases heq with ⟨straps, o, a, b, p, rfl⟩ | hk
  · exact ⟨Nat.zero_le _, List.nodup_nil⟩
  · exact hk.stores.view hs
  · exact ⟨Nat.zero_le _, List.nodup_nil⟩
  · exact hk.stores.claims hs
  · exact (State.storesBounded_iff _).2 (State.atRelease_bounded straps o a b p)
  · exact (State.storesBounded_iff _).2 (hk.stores.bounds ((State.storesBounded_iff _).1 hs))

end Sys2Proof.Machine
end

section
/-! The blocks a role does not have (Table 0-2): at a station that is no post the blocks of the post stay at rest, and so do
the van window unit and the member view of the roles that lack them. -/

namespace Sys2Proof.Machine

/-- A station that is no post, its absent blocks as a full reset left them. -/
structure AtRest (s : State) : Prop where
  role : s.straps.role ≠ .post
  dock : s.dock = Dock.afterReset s.straps s.dock.sensorOpen s.dock.beamA s.dock.beamB
  tag : s.tag = TagPort.afterReset s.straps
  card : s.card = CardPort.afterReset
  hire : s.hire = HireController.afterReset
  settle : s.settle = SettlementUnit.afterReset
  fault : s.fault = FaultUnit.afterReset s.straps
  van : s.straps.role = .terminal ∨ s.straps.role = .monitor → s.van = VanUnit.afterReset
  view : s.straps.role = .van ∨ s.straps.role = .monitor → s.view = MemberView.afterReset

/-- What `AtRest` speaks of. -/
def State.rest (s : State) := (s.straps, s.dock, s.tag, s.card, s.hire, s.settle, s.fault, s.van, s.view)

theorem State.roleSound.atRest {s : State} (h : s.roleSound) (hr : s.straps.role ≠ .post) : AtRest s := by
  obtain ⟨hblocks, _, _, hvan, hview⟩ := h
  obtain ⟨hdock, htag, hcard, hhire, hsettle, hfault⟩ := hblocks hr
  exact ⟨hr, hdock, htag, hcard, hhire, hsettle, hfault, hvan, hview⟩

section
variable {s u t : State}

/-! ### What rests answers nothing -/

theorem AtRest.edit (h : AtRest u) (ht : t.rest = u.rest) : AtRest t := by
  obtain ⟨hstraps, hdock, htag, hcard, hhire, hsettle, hfault, hvan, hview⟩ : t.straps = u.straps ∧ t.dock = u.dock ∧
      t.tag = u.tag ∧ t.card = u.card ∧ t.hire = u.hire ∧ t.settle = u.settle ∧ t.fault = u.fault ∧ t.van = u.van ∧
      t.view = u.view := by simpa [State.rest] using ht
  exact
    { role := hstraps ▸ h.role, dock := by rw [hdock, hstraps]; exact h.dock, tag := by rw [htag, hstraps]; exact h.tag
      card := hcard.trans h.card, hire := hhire.trans h.hire, settle := hsettle.trans h.settle
      fault := by rw [hfault, hstraps]; exact h.fault, van := fun hr => hvan.trans (h.van (hstraps ▸ hr))
      view := fun hr => hview.trans (h.view (hstraps ▸ hr)) }

theorem AtRest.isPost (h : AtRest u) : u.isPost = false := by simp [State.isPost, h.role]

theorem AtRest.raised (h : AtRest u) : u.fault.raised = [] := by
  rw [h.fault]
  simp [FaultUnit.afterReset, strapBarred, h.role]

theorem AtRest.slot (h : AtRest u) (name : SlotName) : u.settle.slot name = none := by
  rw [h.settle]
  cases name
  · rfl
  · rfl

theorem AtRest.evaluateOffer (h : AtRest u) : u.evaluateOffer = u :=
  u.evaluateOffer_of_none (.inr (.inr (.inr (.inr h.isPost))))

theorem AtRest.evaluateSince (h : AtRest u) (before : State) : u.evaluateSince before = u :=
  u.evaluateSince_of_none before (.inr (.inr (.inr (.inr h.isPost))))

theorem AtRest.raisePost (h : AtRest u) (f : PostFault) : u.raisePost f = u := by
  simp [State.raisePost, h.isPost]

theorem AtRest.clearPost_eq (h : AtRest u) (f : PostFault) : u.clearPost f = u := by
  have cleared : { u with fault := { u.fault with raised := u.fault.raised.filter (fun g => decide (g ≠ f)) } } = u := by
    simp [h.raised]
    rw [← h.raised]
  unfold State.clearPost
  rw [cleared, h.evaluateSince]

theorem AtRest.clearPost {f : PostFault} (h : AtRest u) : AtRest (u.clearPost f) := by
  rw [h.clearPost_eq]
  exact h

theorem AtRest.markSlots (h : AtRest u) (f : ReturnRecord → Bool × Bool × Bool → Bool × Bool × Bool) :
    u.markSlots f = u := by
  have mark : ∀ name, u.markSlot f name = u := fun name => by simp [State.markSlot, h.slot name]
  rw [State.markSlots, mark, mark]

/-! ### The line controller's operations at rest -/

theorem AtRest.reachMs {due : Ms} (h : AtRest u) : AtRest (u.reachMs due) := h.edit (by simp [State.rest])

theorem AtRest.reachInstant {due : Instant} (h : AtRest u) : AtRest (u.reachInstant due) := h.edit (by simp [State.rest])

theorem AtRest.offer {kind : Kind} {body : List Byte} (h : AtRest u) : AtRest (u.offer kind body).1 :=
  h.edit (by simp [State.rest])

theorem AtRest.send {kind : Kind} {body : List Byte} (h : AtRest u) : AtRest (u.send kind body) := h.offer

theorem AtRest.appendEvent {e : Event} (h : AtRest u) : AtRest (u.appendEvent e) := h.edit (by simp [State.rest])

theorem AtRest.ite {c : Prop} [Decidable c] {a b : State} (ha : AtRest a) (hb : AtRest b) :
    AtRest (if c then a else b) := by
  split
  · exact ha
  · exact hb

theorem AtRest.startTransmission (h : AtRest u) : AtRest u.startTransmission := h.edit (by simp [State.rest])

/-- A station that is no post has no lamp to choose, and the wait is the line controller's. -/
theorem AtRest.conclude (h : AtRest u) : AtRest (conclude u) := by
  have followed : AtRest u.followHead := h.edit (by simp [State.rest])
  unfold Machine.conclude State.chooseLamp
  rw [followed.isPost]
  exact followed

theorem AtRest.raiseLine {at_ : Ms} (h : AtRest u) : AtRest (u.raiseLine at_) := by
  have raised : AtRest { u with
      line := { u.line with lineRaised := true, lineClearAt := if u.line.stuck then none else some (at_ + 60000) } } :=
    h.edit rfl
  unfold State.raiseLine
  rw [raised.raisePost]
  exact raised

theorem AtRest.badFrame {at_ : Ms} (h : AtRest u) : AtRest (u.badFrame at_) := by
  have counted : AtRest { u with line := { u.line with badFrames := appendBadFrame u.line.badFrames at_ } } := h.edit rfl
  exact .ite (.ite counted.raiseLine counted) h

theorem AtRest.ofrBusy (h : AtRest u) (ho : u.van.offer = .queued) : AtRest u.ofrBusy :=
  { h with van := fun hr => by rw [h.van hr] at ho; cases ho }

theorem AtRest.clmBusy {ref : Nat} (h : AtRest u) : AtRest (u.clmBusy ref) := by
  have hidle : u.awaitsClm ref = false := by simp [State.awaitsClm, h.hire, HireController.afterReset]
  unfold State.clmBusy
  rw [hidle]
  exact { h with hire := by simp [h.hire, HireController.afterReset] }

theorem AtRest.answerBusy {e : TxEntry} (h : AtRest u) : AtRest (u.answerBusy e) := by
  unfold State.answerBusy
  split
  case h_1 => exact h.clmBusy
  case h_2 =>
    split
    · rename_i ho
      simp only [Bool.and_eq_true, decide_eq_true_eq] at ho
      exact h.ofrBusy ho.1
    · exact h
  all_goals exact h

theorem AtRest.removeBusy {e : TxEntry} (h : AtRest u) : AtRest (u.removeBusy e) := .answerBusy (h.edit rfl)

theorem AtRest.offerHeld (h : AtRest u) : AtRest u.offerHeld := by
  unfold State.offerHeld
  split
  · exact .send (h.edit rfl)
  · exact h

theorem AtRest.endContended (h : AtRest u) : AtRest u.endContended := by
  have ended : AtRest { u with line := { u.line with tx := none } } := h.edit rfl
  unfold State.endContended
  split
  · exact .ite (.ite ended.removeBusy.offerHeld ended.removeBusy)
      (.ite (ended.edit (by simp [State.rest])) ended)
  · exact ended

theorem AtRest.abandonForOwn {x : Transmission} (h : AtRest u) : AtRest (u.abandonForOwn x) := by
  unfold State.abandonForOwn
  split
  · exact .badFrame (h.edit rfl)
  · exact h

theorem AtRest.clearClassZero (h : AtRest u) : AtRest u.clearClassZero := by
  suffices ∀ (l : List TxEntry) (v : State), AtRest v → AtRest (l.foldl (fun s e => s.removeBusy e) v) from this _ _ h
  intro l
  induction l with
  | nil => exact fun _ hv => hv
  | cons e l ih => exact fun v hv => ih _ hv.removeBusy

theorem AtRest.setClash (h : AtRest u) : AtRest u.setClash := by
  have cleared : AtRest { u with line := { u.line with clash := true } }.clearClassZero := .clearClassZero (h.edit rfl)
  unfold State.setClash
  rw [cleared.raisePost]
  exact cleared

/-! ### The peer table, the timebase and the listening blocks at rest -/

/-- A back-dating finds no pending conversion in a block that rests. -/
theorem AtRest.backDate {base : BasePair} (h : AtRest u) : AtRest (u.backDate base) := by
  unfold State.backDate
  have dated : AtRest
      { u with
        time := { u.time with
          boltClosed := u.time.boltClosed.map (Capture.convert base)
          boltOpen := u.time.boltOpen.map (Capture.convert base)
          mouthIn := u.time.mouthIn.map (Capture.convert base)
          mouthOut := u.time.mouthOut.map (Capture.convert base)
          button := u.time.button.map (Capture.convert base)
          card := u.time.card.map (Capture.convert base) }
        tag := { u.tag with docking := u.tag.docking.map (Capture.convert base) }
        dock := { u.dock with dockedSince := u.dock.dockedSince.map (Capture.convert base) }
        settle := { u.settle with
          slotA := u.settle.slotA.map (Slot.convert base)
          slotB := u.settle.slotB.map (Slot.convert base) } } :=
    { h with
      dock := by
        rw [h.dock]
        rfl
      tag := by rw [h.tag]; rfl
      settle := by rw [h.settle]; rfl }
  rw [dated.markSlots]
  exact dated

theorem AtRest.adoptTime {schemeMs : Nat} (h : AtRest u) : AtRest (u.adoptTime schemeMs) :=
  .ite (.backDate (h.edit rfl)) (h.edit rfl)

theorem AtRest.takeTim {body : List Byte} (h : AtRest u) : AtRest (u.takeTim body) := by
  unfold State.takeTim
  exact .ite h.adoptTime h

/-- The van's window record, the own offer and its marks are a van's own. -/
theorem AtRest.setVan {van : VanUnit} (h : AtRest u) (hv : u.straps.role = .van) : AtRest { u with van := van } :=
  { h with van := fun hr => by simp [hv] at hr }

theorem AtRest.closeWindow {cause : WindowCause} (h : AtRest u) : AtRest (u.closeWindow cause) := by
  unfold State.closeWindow
  split
  · rename_i w hw
    have closed : AtRest
        { u with
          van := { u.van with
            window := none, offer := .none_, voidMark := false, retryAt := none, hold := false, target := false } } :=
      { h with van := fun hr => by rw [h.van hr] at hw; cases hw }
    exact .ite closed.appendEvent closed
  · exact h

theorem AtRest.openWindow {v : VopValues} (h : AtRest u) (hv : u.straps.role = .van) : AtRest (u.openWindow v) := by
  unfold State.openWindow
  dsimp only
  rw [AtRest.evaluateOffer (h.setVan hv)]
  exact h.setVan hv

theorem AtRest.takeVop {body : List Byte} (h : AtRest u) (hv : u.straps.role = .van) : AtRest (u.takeVop body) := by
  unfold State.takeVop
  split
  · split
    · exact .ite h (h.closeWindow.openWindow (by simpa using hv))
    · exact h.openWindow hv
  · exact h

theorem AtRest.takeVcl {body : List Byte} (h : AtRest u) : AtRest (u.takeVcl body) := by
  unfold State.takeVcl
  split
  · exact .ite h.closeWindow h
  · exact h

theorem AtRest.takeOfr {sender : Nat} {body : List Byte} {own : Option Nat} (h : AtRest u)
    (hv : u.straps.role = .van) : AtRest (u.takeOfr sender body own) := by
  unfold State.takeOfr State.appendOffer
  split
  · refine .ite ?_ (.ite (h.setVan hv) h)
    dsimp only
    rw [if_pos (by simpa [State.isVan] using hv)]
    exact (h.setVan hv).appendEvent
  · exact h

theorem AtRest.peerChange {n : Nat} {changed : Bool} (h : AtRest u) : AtRest (u.peerChange n changed) := by
  unfold State.peerChange
  split
  · rename_i hr; exact absurd hr h.role
  · exact h.appendEvent
  · exact h.appendEvent
  · exact h

theorem AtRest.setPeer {n : Nat} {p : Peer} (h : AtRest u) : AtRest (u.setPeer n p) := h.edit rfl

theorem AtRest.offerStationId {b : Beacon} (h : AtRest u) : AtRest (u.offerStationId b) := by
  have adopted : AtRest (u.adoptStation b.stationId) := by
    have h' : AtRest { u with peers := { u.peers with adoptedId := b.stationId } } := h.edit rfl
    unfold State.adoptStation
    rw [h'.markSlots]
    exact h'
  have conflict : AtRest u.stationConflict := by
    unfold State.stationConflict
    rw [h.isPost]
    exact h
  exact .ite h (.ite adopted (.ite conflict h))

theorem AtRest.peerHears {f : Frame} (h : AtRest u) : AtRest (u.peerHears f) := .ite h.setPeer.offerStationId h.setPeer

theorem AtRest.handOn {f : Frame} {before : State} (h : AtRest u) : AtRest (u.handOn f before) := .ite h.peerChange h

theorem AtRest.goSilent {n : Nat} (h : AtRest u) : AtRest (u.goSilent n) :=
  .peerChange (.ite h.setPeer.closeWindow h.setPeer)

/-- The member view is the terminal's own, among the stations that are no posts. -/
theorem AtRest.setView {view : MemberView} (h : AtRest u) (ht : u.straps.role = .terminal) :
    AtRest { u with view := view } :=
  { h with view := fun hr => by simp [ht] at hr }

theorem AtRest.terminalTakes {f : Frame} (h : AtRest u) (ht : u.straps.role = .terminal) :
    AtRest (u.terminalTakes f) := by
  unfold State.terminalTakes
  split
  case h_4 => exact (h.setView ht).appendEvent
  case h_5 => exact (h.setView ht).appendEvent
  case h_6 => exact h.appendEvent
  case h_8 => exact h.appendEvent
  case h_11 => exact h.appendEvent
  all_goals exact h

theorem AtRest.vanTakes {f : Frame} (h : AtRest u) (hv : u.straps.role = .van) : AtRest (u.vanTakes f) := by
  unfold State.vanTakes
  split
  case h_3 => exact h.takeOfr hv
  case h_10 => exact .ite (h.takeVop hv) h
  case h_11 => exact h.appendEvent
  case h_12 => exact .ite h.takeVcl h
  case h_14 => exact .ite h.takeTim h
  all_goals exact h

theorem AtRest.blocksTake {f : Frame} {own : Option Nat} (h : AtRest u) : AtRest (u.blocksTake f own) := by
  unfold State.blocksTake
  split <;> rename_i hr
  · exact absurd hr h.role
  · exact h.terminalTakes hr
  · exact h.vanTakes hr
  · exact .appendEvent (.ite h.takeTim h)

theorem AtRest.takeFrame {f : Frame} (h : AtRest u) : AtRest (u.takeFrame f) := by
  have taken : AtRest { u with line := { u.line with lastSender := f.sender } } := h.edit rfl
  refine .ite taken.setClash ?_
  unfold State.takeFromPeer
  exact .ite taken.peerHears.blocksTake.handOn taken.peerHears.handOn.blocksTake

theorem AtRest.abandonFrame (h : AtRest u) : AtRest u.abandonFrame := .badFrame (h.edit rfl)

theorem AtRest.inFrame {bytes : List Byte} (h : AtRest u) : AtRest (u.inFrame bytes) := h.edit rfl

theorem AtRest.frameEnds {bytes : List Byte} (h : AtRest u) : AtRest (u.frameEnds bytes) := by
  unfold State.frameEnds
  dsimp only
  split
  · exact .takeFrame (h.edit rfl)
  · exact .badFrame (h.edit rfl)

theorem AtRest.receiveChar {c : LineChar} (h : AtRest u) : AtRest (u.receiveChar c) := by
  unfold State.receiveChar
  split
  · exact h.abandonFrame
  · exact h
  · exact h.abandonFrame.inFrame
  · exact h.inFrame
  · exact .ite h.abandonFrame (.ite h.frameEnds h.inFrame)
  · exact h

theorem AtRest.lineReceives {c : LineChar} (h : AtRest u) : AtRest (u.lineReceives c) := by
  unfold State.lineReceives
  split
  · exact .ite h.reachInstant.abandonForOwn h
  · exact .receiveChar (h.edit (by simp [State.rest]))

/-! ### The commands of the Dock Line at rest -/

theorem AtRest.becomeQuiet (h : AtRest u) : AtRest u.becomeQuiet := by
  have reached : AtRest u.reachQuiet := by
    unfold State.reachQuiet
    split
    · exact h.reachInstant
    · exact h
  have ended : AtRest u.reachQuiet.endStuck := .ite (reached.edit rfl) reached
  exact ended.edit rfl

theorem AtRest.accessWaitEnds (h : AtRest u) : AtRest u.accessWaitEnds := by
  unfold State.accessWaitEnds
  split
  · exact h.reachInstant.startTransmission
  · exact h

theorem AtRest.echoFails {bit : Nat} (h : AtRest u) : AtRest (u.echoFails bit) := by
  have kept : ∀ (x : Transmission) (v : State), AtRest v → AtRest (v.keepOwnCharacters x bit) := by
    intro x v hv
    unfold State.keepOwnCharacters
    dsimp only
    split
    · exact hv.edit rfl
    · exact hv.abandonForOwn.edit rfl
  unfold State.echoFails
  split
  · exact .ite (kept _ _ h.reachInstant).endContended h
  · exact h

theorem AtRest.clmSent {ref : Nat} {serial : BitVec 8} {at_ : Ms} (h : AtRest u) : AtRest (u.clmSent ref serial at_) := by
  have hidle : u.awaitsClm ref = false := by simp [State.awaitsClm, h.hire, HireController.afterReset]
  have hnone : u.hire.unwanted.find? (fun w => decide (w.ref = ref)) = none := by simp [h.hire, HireController.afterReset]
  simp [State.clmSent, hidle, hnone, h]

theorem AtRest.answerSent {e : TxEntry} {serial : BitVec 8} (h : AtRest u) : AtRest (u.answerSent e serial) :=
  .ite h.clmSent h

theorem AtRest.transmissionEnds (h : AtRest u) : AtRest u.transmissionEnds := by
  have sent : ∀ (x : Transmission) (e : TxEntry) (v : State), AtRest v → AtRest (v.sentIntact x e) := by
    intro x e v hv
    have counted : AtRest ((v.abandonForOwn x).countSent e) := hv.abandonForOwn.edit rfl
    have taken : AtRest (((v.abandonForOwn x).countSent e).hearSelf.blocksTake (v.ownFrame e) (some e.ref)) :=
      .blocksTake (.setPeer counted)
    exact .ite taken.answerSent.offerHeld taken.answerSent
  unfold State.transmissionEnds
  split
  · exact sent _ _ _ h.reachInstant
  · exact h

theorem AtRest.receiveGap (h : AtRest u) : AtRest u.receiveGap := by
  unfold State.receiveGap
  split
  · exact .ite h.reachInstant.abandonFrame h
  · exact h

theorem AtRest.detectStuck (h : AtRest u) : AtRest u.detectStuck := .endContended (.raiseLine (h.edit rfl))

theorem AtRest.lineClears (h : AtRest u) : AtRest u.lineClears := by
  unfold State.lineClears
  split
  · exact .clearPost (h.reachMs.edit rfl)
  · exact h

theorem AtRest.deadlinePasses (h : AtRest u) : AtRest u.deadlinePasses := by
  unfold State.deadlinePasses
  split
  · exact .ite h.reachMs h.reachMs.removeBusy
  · exact h

/-! ### The other commands at rest -/

theorem AtRest.silenceDue {n : Nat} (h : AtRest u) : AtRest (u.silenceDue n) := by
  unfold State.silenceDue
  split
  · exact .ite h h.reachMs.goSilent
  · exact h

theorem AtRest.duplicateHoldEnds (h : AtRest u) : AtRest u.duplicateHoldEnds := by
  unfold State.duplicateHoldEnds
  split
  · rename_i due _
    have hr := h.reachMs (due := due)
    have ended : AtRest
        { u.reachMs due with
          peers := { (u.reachMs due).peers with duplicateHoldAt := none }
          fault := { (u.reachMs due).fault with duplicate := false } } :=
      { hr with fault := by rw [hr.fault]; rfl }
    dsimp only
    rw [ended.evaluateSince]
    exact ended
  · exact h

theorem AtRest.beaconDue (h : AtRest u) : AtRest u.beaconDue := by
  unfold State.beaconDue
  split
  · exact .send (h.reachMs.edit rfl)
  · exact h

theorem AtRest.setSlotCapture {source : CaptureSource} {c : Capture} (h : AtRest u) :
    AtRest (u.setHeldCapture (.slot source) c) := h.edit rfl

theorem AtRest.consume {source : CaptureSource} (h : AtRest u) : AtRest (u.consume source) := h.edit rfl

theorem AtRest.pendingLapses {holder : PendingHolder} (h : AtRest u) : AtRest (u.pendingLapses holder) := by
  unfold State.pendingLapses
  split
  · rename_i c hc
    cases holder
    case slot => exact .ite h.reachMs.setSlotCapture h
    case dockingCapture => simp [State.heldCapture, h.tag, TagPort.afterReset] at hc
    case dockedSince =>
      rw [State.heldCapture, h.dock] at hc
      cases hc
  · exact h

theorem AtRest.slotLapses {source : CaptureSource} (h : AtRest u) : AtRest (u.slotLapses source) := by
  unfold State.slotLapses
  split
  · exact h.reachMs.consume
  · exact h

theorem AtRest.lookupDue (h : AtRest u) : AtRest u.lookupDue := by
  unfold State.lookupDue
  split
  · rename_i l hl
    have hr := h.reachMs (due := l.expiresAt)
    have ended : AtRest { u.reachMs l.expiresAt with view := { (u.reachMs l.expiresAt).view with lookup := none } } :=
      { hr with view := fun hrole => by rw [hr.view hrole]; rfl }
    have hidle : ¬ (u.reachMs l.expiresAt).hire.state = .lookup := by simp [h.hire, HireController.afterReset]
    dsimp only
    rw [if_neg hidle]
    exact ended
  · exact h

theorem AtRest.respond {status : PortStatus} (h : AtRest u) : AtRest (u.respond status) := h.edit rfl

theorem AtRest.respondOffer {kind : Kind} {body : List Byte} (h : AtRest u) : AtRest (u.respondOffer kind body) :=
  h.edit (by simp [State.rest])

/-- A request answered by a role that Table 11-3 gives for it: the terminal's changes its view, none the post's blocks. -/
theorem AtRest.requestOf {k : RequestKind} {body : List Byte} (h : AtRest u) (hk : k.allows u.straps.role = true) :
    AtRest (requestOf k body u) := by
  cases k
  case status => exact .ite (h.edit rfl) h.respond
  case peerRead => exact .ite (h.edit rfl) h.respond
  case stationSet => exact .ite h.respond (.ite h.respond (h.edit rfl))
  case timeSet =>
    refine .ite h.respond (.ite (.respond (h.adoptTime.edit rfl)) (.respondOffer (h.adoptTime.edit rfl)))
  case tariffLoad =>
    show AtRest (u.requestTariffLoad body)
    unfold State.requestTariffLoad
    split
    · exact h.respond
    · split
      · exact h.respond
      · exact .respondOffer (h.edit rfl)
  case tariffCommit => exact .ite h.respond (.ite (.respond (h.edit rfl)) h.respond)
  case memberPush =>
    have ht : u.straps.role = .terminal := of_decide_eq_true hk
    show AtRest (u.requestMemberPush body)
    unfold State.requestMemberPush
    split
    · exact (h.setView ht).respondOffer
    · exact h.respond
  case faultClear => exact .ite h.respondOffer h.respond
  case vanOpen =>
    show AtRest (u.requestVanOpen body)
    unfold State.requestVanOpen
    split
    · exact h.respond
    · exact .ite h.respond h.respondOffer
  case vanClose => exact .ite h.respond (.ite h.respondOffer h.respond)
  case eventRead =>
    show AtRest (u.requestEventRead body)
    unfold State.requestEventRead
    split
    · split
      · exact h.respond
      · exact h.edit rfl
    · exact h.respond

theorem AtRest.takeRequest {k : RequestKind} {body : List Byte} (h : AtRest u) :
    AtRest (u.takeRequest k (Machine.requestOf k) body) := by
  have shifted : AtRest (u.shiftFiller (4 + body.length)) := h.edit rfl
  unfold State.takeRequest
  dsimp only
  split
  · split
    · rename_i hk; exact shifted.requestOf hk
    · exact shifted.respond
  · exact h

theorem AtRest.readsResponse {count : Nat} (h : AtRest u) : AtRest (u.readsResponse count) := h.edit (by simp [State.rest])

theorem AtRest.takeTransaction {bytes : List Byte} (h : AtRest u) : AtRest (u.takeTransaction bytes) := by
  have record : AtRest (u.takeRecord bytes) := by
    unfold State.takeRecord
    split
    · split
      · exact .respond (h.edit rfl)
      · split
        · exact .respond (h.edit rfl)
        · exact h.takeRequest
    · exact h
  unfold State.takeTransaction
  split
  · exact h
  · exact .ite (.ite h.readsResponse h) record

theorem AtRest.timTimerExpires {due : Ms} (h : AtRest u) : AtRest (u.timTimerExpires due) :=
  .ite (.send (h.edit rfl)) (h.edit rfl)

theorem AtRest.trfCycleExpires {due : Ms} (h : AtRest u) : AtRest (u.trfCycleExpires due) := by
  unfold State.trfCycleExpires
  dsimp only
  split
  · exact .send (h.edit rfl)
  · exact h.edit rfl

theorem AtRest.of_answer (h : AtRest u) (heq : answerNext u = .next t) : AtRest t := by
  obtain rfl : Machine.conclude u = t := by simpa [answerNext] using heq
  exact h.conclude

theorem AtRest.carryBase {at_ : Ms} (h : AtRest u) : AtRest (u.carryBase at_) := h.edit rfl

theorem AtRest.becomeStale (h : AtRest u) : AtRest u.becomeStale := by
  unfold State.becomeStale
  split
  · exact .carryBase (h.reachMs.edit rfl)
  · exact h

theorem AtRest.carryDue (h : AtRest u) : AtRest u.carryDue := by
  unfold State.carryDue
  split
  · exact h.reachMs.carryBase
  · exact h

theorem AtRest.startBitTaken (h : AtRest u) : AtRest u.startBitTaken := h.edit rfl

/-- The retry of an own offer ends at a van alone, among the stations that are no posts. -/
theorem AtRest.retryEnds {due : Ms} (h : AtRest u) (hdue : u.van.retryAt = some due) :
    AtRest ({ u.reachMs due with van := { (u.reachMs due).van with retryAt := none } }.evaluateOffer) := by
  have ended : AtRest { u.reachMs due with van := { (u.reachMs due).van with retryAt := none } } :=
    { h.reachMs with van := fun hr => by rw [h.van (by simpa using hr)] at hdue; cases hdue }
  rw [ended.evaluateOffer]
  exact ended

/-- The timers of a dock at rest, and its converter: none runs. -/
theorem AtRest.dockTimers (h : AtRest u) :
    u.dock.pullInEndAt = none ∧ u.dock.openCheckAt = none ∧ u.dock.takeWindowAt = none ∧ u.dock.closeCheckAt = none ∧
      u.dock.pushAsideAt = none ∧ u.dock.burst = none ∧ u.dock.lamp.phaseAt = none ∧ u.dock.refusal = none ∧
      u.dock.crewAckAt = none ∧ u.dock.periodicAt = none ∧ u.dock.ch0At = none ∧ u.dock.converter = .idle ∧
      u.dock.holdEndAt = none := by
  rw [h.dock]
  simp [Dock.afterReset, h.role]

theorem AtRest.tagIdle (h : AtRest u) : u.tag.operation = .idle := by
  rw [h.tag]
  simp [TagPort.afterReset, h.role]

theorem AtRest.gapAt (h : AtRest u) : u.card.gapAt = none := by
  rw [h.card]
  rfl

theorem AtRest.claims (h : AtRest u) : u.hire.claims = [] := by
  rw [h.hire]
  rfl

theorem AtRest.claimWindow (h : AtRest u) : u.claimWindow = none := by simp [State.claimWindow, h.hire, HireController.afterReset]

theorem AtRest.settleDue (h : AtRest u) : u.settleDue = none := by simp [State.settleDue, h.hire, HireController.afterReset]

theorem AtRest.reportingWindow (h : AtRest u) : u.fault.window = none := by
  rw [h.fault]
  rfl

/-! ### Every command -/

/-- At a station that is no post, every command but FULL_RESET leaves the absent blocks at rest: no timer, no sensor and no
answer of theirs occurs. -/
theorem exec_atRest {i : Instr} (h : AtRest u) (hi : ∀ straps o a b, i ≠ .fullReset straps o a b)
    (heq : exec i u = .next t) : AtRest t := by
  obtain ⟨hpull, hopen, htake, hclose, haside, hburst, hphase, hrefusal, hcrew, hperiodic, hch0, hconverter, hhold⟩ :=
    h.dockTimers
  cases i
  case fullReset => exact absurd rfl (hi _ _ _ _)
  all_goals refine .of_answer ?_ heq
  case quiet => exact .ite h.becomeQuiet h
  case accessWaitExpiry => exact h.accessWaitEnds
  case echoCheckFail => exact h.echoFails
  case sentIntact => exact h.transmissionEnds
  case frameReceived =>
    split
    · exact .ite h.lineReceives h
    · exact h
  case frameAbandoned =>
    split
    · exact .ite h.lineReceives h
    · exact h
  case receiveGapExpiry => exact h.receiveGap
  case stuckLine => exact .ite h.detectStuck h
  case lineClear => exact h.lineClears
  case deadlineExpiry => exact h.deadlinePasses
  case beaconTimerExpiry => exact h.beaconDue
  case silenceTimerExpiry => exact h.silenceDue
  case duplicateHoldExpiry => exact h.duplicateHoldEnds
  case stalenessExpiry => exact h.becomeStale
  case carry => exact h.carryDue
  case pendingLapse => exact h.pendingLapses
  case captureSlotLapse => exact h.slotLapses
  case openEdge => simpa [h.isPost] using h
  case closedEdge => simpa [h.isPost] using h
  case pullInEnd => simpa [State.pullInEnds, hpull] using h
  case openCheckExpiry => simpa [State.openCheckDue, hopen] using h
  case takeWindowExpiry => simpa [State.takeWindowDue, htake] using h
  case closeCheckExpiry => simpa [State.closeCheckDue, hclose] using h
  case pushAsideLimitExpiry => simpa [State.pushAsideDue, haside] using h
  case beamEdge => simpa [h.isPost] using h
  case buttonPress => simpa [h.isPost] using h
  case buttonRelease => simpa [h.isPost] using h
  case burstEndExpiry => simpa [State.burstEnds, hburst] using h
  case flashPhaseExpiry => simpa [State.flashPhaseEnds, hphase] using h
  case refusalDisplayEnd => simpa [hrefusal] using h
  case crewAcknowledgementEnd => simpa [hcrew] using h
  case periodicTimerExpiry => simpa [hperiodic] using h
  case ch0Request => simpa [hch0] using h
  case converterWakeEnd => simpa [hconverter] using h
  case burstComplete => simpa [hconverter] using h
  case holdPhaseEnd => simpa [hhold] using h
  case noTag => simpa [State.tagSilent, h.tagIdle] using h
  case sectionReadComplete => simpa [h.tagIdle, TagOperation.reading] using h
  case sectionWriteComplete => simpa [h.tagIdle] using h
  case tagAnswer => simpa [State.tagAnswers, h.tagIdle] using h
  case cardCharacter => simpa [h.isPost] using h
  case recordGap => simpa [h.gapAt] using h
  case lookupTimerExpiry => exact h.lookupDue
  case claimAgeExpiry => simpa [h.claims] using h
  case claimWindowExpiry => simpa [h.claimWindow] using h
  case settleTimerExpiry => simpa [h.settleDue] using h
  case gatheringExpiry => simpa [h.slot] using h
  case ratingComplete => simpa [h.slot] using h
  case stlRetryExpiry => simpa [h.slot] using h
  case stlAbandon => simpa [h.slot] using h
  case reportingWindowExpiry => simpa [h.reportingWindow] using h
  case windowExpiry =>
    split
    · exact h.reachMs.closeWindow
    · exact h
  case offerRetryExpiry =>
    split
    · exact h.retryEnds ‹_›
    · exact h
  case status => exact h.takeRequest
  case peerRead => exact h.takeRequest
  case stationSet => exact h.takeRequest
  case timeSet => exact h.takeRequest
  case timTimerExpiry =>
    split
    · exact h.reachMs.timTimerExpires
    · exact h
  case tariffLoad => exact h.takeRequest
  case tariffCommit => exact h.takeRequest
  case trfCycleExpiry =>
    split
    · exact h.reachMs.trfCycleExpires
    · exact h
  case memberPush => exact h.takeRequest
  case faultClear => exact h.takeRequest
  case vanOpen => exact h.takeRequest
  case vanClose => exact h.takeRequest
  case eventRead => exact h.takeRequest
  case unknownRequest => exact h.takeTransaction
  case readTransaction => exact .ite h.readsResponse h
  case startBit => exact .ite h.startBitTaken h
  case lineCharacter => exact h.lineReceives

end

/-! ### The silence and the roles of every step -/

/-- What is kept and rests at the absent blocks leaves them as a full reset left them. -/
theorem State.roleSound.of_keeps {s t : State} (hs : s.roleSound) (hk : Keeps s t) (hrest : AtRest s → AtRest t) :
    t.roleSound := by
  have rest : s.straps.role ≠ .post → AtRest t := fun hr => hrest (State.roleSound.atRest hs hr)
  obtain ⟨_, hport, hterminal, _, _⟩ := hs
  rw [State.roleSound, hk.straps]
  refine ⟨fun hr => ?_, fun hr => (hk.stores.port hr).trans (hport hr), fun hr => hk.stores.terminal hr (hterminal hr),
    fun hr => ?_, fun hr => ?_⟩
  · rw [← hk.straps]
    exact ⟨(rest hr).dock, (rest hr).tag, (rest hr).card, (rest hr).hire, (rest hr).settle, (rest hr).fault⟩
  · exact (rest (by rcases hr with hr | hr <;> simp [hr])).van (hk.straps ▸ hr)
  · exact (rest (by rcases hr with hr | hr <;> simp [hr])).view (hk.straps ▸ hr)

theorem State.atRelease_roleSound (straps : Straps) (o a b : Bool) (p : List Instr) :
    (State.atRelease straps o a b p).roleSound :=
  ⟨fun _ => ⟨rfl, rfl, rfl, rfl, rfl, rfl⟩, fun _ => rfl, fun _ => rfl, fun _ => rfl, fun _ => rfl⟩

/-- Settles O11: a silent station queues nothing and starts nothing; a full reset sets every block anew, and no other command
reaches a block the role does not have. -/
theorem everyStepKeepsSilence : Obligations.EveryStepKeepsSilence := by
  refine ⟨?_, ?_⟩ <;> intro s t hs heq
  · rcases step_cases heq with ⟨straps, o, a, b, p, rfl⟩ | hk
    · exact fun _ => ⟨rfl, rfl⟩
    · exact hk.silent hs
  · unfold step at heq
    split at heq
    · obtain rfl : s.tick = t := by simpa using heq
      exact hs.of_keeps (Works.keeps (.edit (.refl s) (by simp) (by simp [State.stores])))
        (fun h => h.edit (by simp [State.rest]))
    · rename_i c rest _
      by_cases hc : ∃ straps o a b, c = .fullReset straps o a b
      · obtain ⟨straps, o, a, b, rfl⟩ := hc
        obtain rfl : State.atRelease straps o a b rest = t := by simpa [exec, execFullReset] using heq
        exact State.atRelease_roleSound straps o a b rest
      · simp only [not_exists] at hc
        have front : Keeps s { s with pending := rest } := Works.keeps (.edit (.refl s) rfl rfl)
        exact hs.of_keeps (front.trans (exec_keeps hc heq)) (fun h => exec_atRest (u := { s with pending := rest }) (h.edit rfl) hc heq)

end Sys2Proof.Machine
end

section
/-! The state after a full reset, and the conclusion of a step. -/

namespace Sys2Proof.Machine

/-- A list reads at a replaced place as the replacement, and as before elsewhere. -/
theorem getD_set_of_lt {α : Type} (l : List α) (x d : α) (n : Nat) {k : Nat} (hk : k < l.length) :
    (l.set k x).getD n d = if n = k then x else l.getD n d := by
  by_cases hn : n = k
  · simp [hn, List.getD_eq_getElem?_getD, hk]
  · simp [hn, List.getD_eq_getElem?_getD, List.getElem?_set_ne (Ne.symm hn)]

/-- After a full reset the own entry is LIVE and every other ABSENT (R36). -/
theorem State.atRelease_storedPeer (straps : Straps) (o a b : Bool) (p : List Instr) (n : Nat) (hn : n < 32) :
    (State.atRelease straps o a b p).storedPeer n =
      if (State.atRelease straps o a b p).isOwnEntry n then
        { state := .live, beacon := none, heard := some 0, silenceAt := none }
      else { state := .absent, beacon := none, heard := none, silenceAt := none } := by
  have hlt : strapNumber straps < 32 := by
    unfold strapNumber
    split <;> omega
  have absent : (List.replicate 32 Peer.absentEntry).getD n Peer.absentEntry = Peer.absentEntry :=
    List.getD_replicate _ hn
  have own : (State.atRelease straps o a b p).isOwnEntry n = (strapSends straps && decide (n = strapNumber straps)) := rfl
  rw [own]
  show (if strapSends straps = true then (List.replicate 32 Peer.absentEntry).set (strapNumber straps) Peer.ownEntry
    else List.replicate 32 Peer.absentEntry).getD n Peer.absentEntry =
      if (strapSends straps && decide (n = strapNumber straps)) = true then Peer.ownEntry else Peer.absentEntry
  by_cases hs : strapSends straps = true
  · rw [if_pos hs, getD_set_of_lt _ _ _ _ (by simpa using hlt), absent]
    simp [hs]
  · rw [if_neg hs, absent]
    simp [hs]

/-- Settles O3: FULL_RESET answers the state at its release. -/
theorem fullResetLeavesEachBlock : Obligations.FullResetLeavesEachBlock := by
  intro straps opened a b s
  refine ⟨State.atRelease straps opened a b s.pending, rfl, rfl, rfl, rfl, rfl, ?peers,
    State.atRelease_storedPeer straps opened a b _, rfl, rfl, rfl, rfl, ?beacon, rfl, ?dock, rfl, rfl, rfl, rfl, rfl, rfl, rfl,
    rfl, rfl, ?barred, ?own⟩
  case peers => exact (State.atRelease_bounded straps opened a b s.pending).peers
  case beacon => by_cases hr : straps.role = .monitor <;> simp [State.atRelease, PeerTable.afterReset, strapSends, hr]
  case dock =>
    by_cases hr : straps.role = .post <;> cases opened <;>
      simp [State.atRelease, Dock.afterReset, State.barred, hr]
  case barred =>
    show strapBarred straps = true ↔ _
    simp [strapBarred]
  case own =>
    show (strapSends straps && decide (strapNumber straps = strapNumber straps)) = true ↔ _
    simp [strapSends]

/-- Settles O4: nothing is queued, counted or driven after reset, and the wait and the lamp are those due. -/
theorem resetMeetsTheInvariants : Obligations.ResetMeetsTheInvariants := by
  refine ⟨State.atRelease_settled .., ⟨Nat.zero_le _, List.Pairwise.nil, Nat.zero_le _⟩, ⟨nofun, List.nodup_nil⟩,
    nofun, ⟨Nat.zero_le _, List.nodup_nil⟩, ⟨Nat.zero_le _, List.nodup_nil⟩,
    (State.storesBounded_iff _).2 (State.atRelease_bounded ..), ?_, ⟨nofun, nofun⟩, fun _ => ⟨rfl, rfl⟩, ?_, ?_,
    State.atRelease_roleSound .., rfl⟩
  · unfold State.coilSafe; decide
  · unfold State.timeSound; decide
  · unfold State.hireSound; decide

/-- Settles O5: the conclusion lets the wait follow the head and the lamp its conditions, and neither takes a frame out. -/
theorem conclusionSettlesAndFrames : Obligations.ConclusionSettlesAndFrames := by
  intro s
  refine ⟨conclude_settled s, conclude_eq s, ?_, conclude_of_settled s⟩
  rw [conclude, State.chooseLamp_eq]
  exact s.followHead_refs.1

end Sys2Proof.Machine
end

section
/-! Quiet, the access wait and the beacon's period. -/

namespace Sys2Proof.Machine

/-- A command that answers by the conclusion of a state. -/
theorem completes_of_answer {i : Instr} {s u : State} {P : State → Prop} (he : exec i s = answerNext u)
    (hp : P (conclude u)) : completes i s P := ⟨conclude u, he, hp⟩

theorem State.reachQuiet_eq (s : State) : ∃ c, s.reachQuiet = { s with clock := c } := by
  unfold State.reachQuiet
  split
  · exact State.reachInstant_eq _ s
  · exact ⟨s.clock, rfl⟩

/-- The end of a stuck line leaves the line not stuck, and counts LINE from the present instant. -/
theorem State.endStuck_eq (s : State) :
    s.endStuck =
      { s with
        line := { s.line with
          stuck := false
          lineClearAt :=
            if s.line.stuck then (if s.line.lineRaised then some (s.clock.ms + 60000) else none)
            else s.line.lineClearAt } } := by
  unfold State.endStuck
  split
  · rfl
  · rename_i hs
    rw [← Bool.eq_false_iff.2 hs]

/-- The wait due of a quiet line with nothing in transmission and not stuck (R12). -/
theorem State.waitDue_of_quiet {s : State} {q : QuietSpan} (hq : s.line.quiet = some q) (ht : s.line.tx = none)
    (hs : s.line.stuck = false) :
    s.waitDue =
      match s.line.queue with
      | [] => none
      | head :: _ =>
        if s.sends && !s.barred then some ((head.kind.cls * 32 + (s.number + 63 - q.lastSender) % 32) * 4) else none := by
  unfold State.waitDue
  rw [hq]
  cases s.line.queue with
  | nil => rfl
  | cons head rest => simp [State.mayAccess, ht, hs, accessWait, turnAfter]

theorem quietStartsTheAccessWait : Claims.QuietStartsTheAccessWait := by
  intro s htx hchar hquiet r
  obtain ⟨c, hc⟩ : ∃ c, r = { s with clock := c } := s.reachQuiet_eq
  have hr : s.reachQuiet = r := rfl
  clear_value r
  have free : (s.lineFree && s.line.quiet.isNone) = true := by simp [State.lineFree, htx, hchar, hquiet]
  show answerNext (if s.lineFree && s.line.quiet.isNone then s.becomeQuiet else s) = answerNext _
  rw [if_pos free]
  refine congrArg answerNext ?_
  unfold State.becomeQuiet
  dsimp only
  rw [State.waitDue_of_quiet rfl (by simp [hr, hc, State.endStuck_eq, htx]) (by simp [State.endStuck_eq]), hr, hc,
    State.endStuck_eq]
  rfl

theorem accessWaitExpirySendsTheHead : Claims.AccessWaitExpirySendsTheHead := by
  intro s q bits e rest hquiet hwait hqueue
  obtain ⟨c, hc⟩ := State.reachInstant_eq (q.start.plusUs (bits * s.bitUs)) s
  show answerNext s.accessWaitEnds = answerNext _
  refine congrArg answerNext ?_
  simp only [State.accessWaitEnds, hquiet, hwait, hc, State.startTransmission, hqueue]
  rfl

/-- Settles O13: both are the command's operation written out. -/
theorem quietAndAccessWait : Obligations.QuietAndAccessWait :=
  ⟨quietStartsTheAccessWait, accessWaitExpirySendsTheHead⟩

/-! ### The beacon's period -/

theorem Kind.cls_le_bcn (k : Kind) : k.cls ≤ Kind.bcn.cls := by cases k <;> decide

/-- A beacon is queued behind every other frame: no class number is higher. -/
theorem insertEntry_beacon {e : TxEntry} (he : e.kind = .bcn) (queue : List TxEntry) :
    insertEntry e queue = queue ++ [e] := by
  have all : ∀ x ∈ queue, decide (x.kind.cls ≤ e.kind.cls) = true := fun x _ => by simp [he, Kind.cls_le_bcn]
  rw [insertEntry, List.takeWhile_eq_self_iff.2 all, List.dropWhile_eq_nil_iff.2 all]

/-- A station that sends and is not barred is refused no beacon outright. -/
theorem State.refusesOffer_beacon {s : State} (hs : s.sends = true) (hb : s.barred = false) :
    s.refusesOffer .bcn = false := by
  simp [State.refusesOffer, hs, hb, Kind.cls]

/-- Settles O30: the offer of a beacon by what the queue holds of one. -/
theorem beaconTimerOffersABeacon : Obligations.BeaconTimerOffersABeacon := by
  intro s due hdue hsends hbarred r timed
  obtain ⟨c, hc⟩ : ∃ c, r = { s with clock := c } := s.reachMs_eq due
  have hr : s.reachMs due = r := rfl
  have htimed : timed = { r with peers := { r.peers with beaconAt := some (due + 2000) } } := rfl
  clear_value timed r
  subst htimed hc
  have step : exec .beaconTimerExpiry s = answerNext (State.send .bcn (bcnBody { s with clock := c }.ownBeacon)
      { s with clock := c, peers := { s.peers with beaconAt := some (due + 2000) } }) := by
    show answerNext s.beaconDue = _
    simp only [State.beaconDue, hdue, hr]
  have taken := State.refusesOffer_beacon
    (s := { s with clock := c, peers := { s.peers with beaconAt := some (due + 2000) } }) hsends hbarred
  simp only [step, State.send, State.offer, taken]
  refine ⟨fun e he ht => ?_, fun e he ht => ?_, fun he hl => ?_⟩
  · simp [he, ht, answerNext]
  · simp [he, ht, answerNext]
  · simp [he, State.enqueue, hl, insertEntry_beacon, State.newEntry, answerNext, deadlineMs, Kind.cls]

end Sys2Proof.Machine
end

section
/-! The bits of a byte on the Dock Line and at the local port (R1, R190, Table 1-1). -/

namespace Sys2Proof.Machine

/-- A list of equal pieces joined is read piece by piece. -/
theorem getElem?_flatMap_of_length {α β : Type} {f : α → List β} {k : Nat} (hf : ∀ a, (f a).length = k) {p : Nat}
    (hp : p < k) (l : List α) (j : Nat) : (l.flatMap f)[k * j + p]? = (l[j]?).bind (fun a => (f a)[p]?) := by
  induction l generalizing j with
  | nil => simp
  | cons a l ih =>
    cases j with
    | zero => simp [List.getElem?_append_left (hf a ▸ hp : p < (f a).length)]
    | succ j =>
      rw [List.flatMap_cons, List.getElem?_append_right (by rw [hf, Nat.mul_succ]; omega), hf,
        show k * (j + 1) + p - k = k * j + p by rw [Nat.mul_succ]; omega, ih]
      rfl

theorem length_characterLevels (mark : Bool) (data : Byte) : (characterLevels mark data).length = 11 := rfl

/-- The levels of a character: the start bit, the data bits from the least significant, the mark, the stop bit. -/
theorem getElem?_characterLevels (mark : Bool) (data : Byte) {p : Nat} (hp : p < 11) :
    (characterLevels mark data)[p]? =
      some (if p = 0 then false else if p ≤ 8 then data.getLsbD (p - 1) else if p = 9 then mark else true) := by
  interval_cases p <;> rfl

/-- A frame's bit-times: the mark is on its first character alone. -/
theorem getElem?_frameLevels (bytes : List Byte) (j : Nat) {p : Nat} (hp : p < 11) :
    (frameLevels bytes)[11 * j + p]? = (bytes[j]?).bind (fun data => (characterLevels (decide (j = 0)) data)[p]?) := by
  cases bytes with
  | nil => simp [frameLevels]
  | cons kind rest =>
    cases j with
    | zero => simp [frameLevels, List.getElem?_append_left (show p < (characterLevels true kind).length from hp)]
    | succ j =>
      rw [frameLevels, List.getElem?_append_right (by rw [length_characterLevels]; omega), length_characterLevels,
        show 11 * (j + 1) + p - 11 = 11 * j + p by omega, getElem?_flatMap_of_length (length_characterLevels false) hp]
      rfl

theorem length_frameLevels (bytes : List Byte) : (frameLevels bytes).length = bytes.length * 11 := by
  cases bytes with
  | nil => rfl
  | cons kind rest =>
    simp [frameLevels, List.length_flatMap, length_characterLevels]
    omega

/-- The eight data levels read least significant first are the byte. -/
theorem byteOfBits_dataLevels (data : Byte) : byteOfBits ((List.range 8).map data.getLsbD) = data := by
  refine BitVec.eq_of_getLsbD_eq fun i hi => ?_
  rw [byteOfBits, BitVec.getLsbD_setWidth, BitVec.getLsbD_ofBoolListLE]
  simp [hi, List.getD_eq_getElem?_getD]

theorem characterOf_characterLevels (mark : Bool) (data : Byte) :
    characterOf (characterLevels mark data) = { data := data, mark := mark, stopGood := true } := by
  have bits : ((characterLevels mark data).drop 1).take 8 = (List.range 8).map data.getLsbD := rfl
  rw [characterOf, bits, byteOfBits_dataLevels]
  rfl

/-- The level of a bit-time of the frame in transmission. -/
theorem State.lineDriven_of_tx {s : State} {x : Transmission} {j p : Nat} {data : Byte} (hx : s.line.tx = some x)
    (hj : x.bytes[j]? = some data) (hp : p < 11) (ht : usBetween x.start s.clock / s.bitUs = 11 * j + p) :
    s.lineDriven =
      if p = 0 then false else if p ≤ 8 then data.getLsbD (p - 1) else if p = 9 then decide (j = 0) else true := by
  simp [State.lineDriven, hx, ht, List.getD_eq_getElem?_getD, getElem?_frameLevels _ _ hp, hj,
    getElem?_characterLevels _ _ hp]

/-- Settles O57: a run of bytes is read bit by bit, 11 bit-times to a byte on the line and 8 bits at the port. -/
theorem bytesAreSentAsBits : Obligations.BytesAreSentAsBits := by
  refine ⟨fun s x j p data hx hj hp ht => ?_, fun s hx => ?_, characterOf_characterLevels, length_frameLevels,
    fun s j p data hj hp => ?_⟩
  · rw [State.lineDriven_of_tx hx hj hp ht]
    refine ⟨fun h0 => ?_, fun h1 h8 => ?_, fun h9 => ?_, fun h10 => ?_⟩
    · simp [h0]
    · simp [h8, Nat.ne_of_gt h1]
    · simp [h9]
    · simp [h10]
  · simp [State.lineDriven, hx]
  · show (portBits s.port.shiftedOut)[8 * j + p]? = _
    rw [portBits, getElem?_flatMap_of_length (k := 8) (fun _ => by simp) hp, hj]
    simp [hp, BitVec.getMsbD]

end Sys2Proof.Machine
end

section
/-! The byte forms of chapter 12: each is read as it was built. -/

namespace Sys2Proof.Machine

/-! ### Fields -/

@[simp] theorem length_be1 (n : Nat) : (be1 n).length = 1 := rfl
@[simp] theorem length_be2 (n : Nat) : (be2 n).length = 2 := rfl
@[simp] theorem length_be3 (n : Nat) : (be3 n).length = 3 := rfl
@[simp] theorem length_be4 (n : Nat) : (be4 n).length = 4 := rfl

theorem beNat_be1 (n : Nat) : beNat (be1 n) = n % 2 ^ 8 := by simp [beNat, be1]

theorem beNat_be2 (n : Nat) : beNat (be2 n) = n % 2 ^ 16 := by
  simp [beNat, be2, be1]
  omega

theorem beNat_be3 (n : Nat) : beNat (be3 n) = n % 2 ^ 24 := by
  simp [beNat, be3, be2, be1]
  omega

theorem beNat_be4 (n : Nat) : beNat (be4 n) = n % 2 ^ 32 := by
  simp [beNat, be4, be3, be2, be1]
  omega

/-- A field at the front of a record. -/
theorem fieldAt_front (field rest : List Byte) : fieldAt (field ++ rest) 0 field.length = beNat field := by
  simp [fieldAt]

/-- A field behind another one. -/
theorem fieldAt_behind (field rest : List Byte) {offset : Nat} (width : Nat) (h : field.length ≤ offset) :
    fieldAt (field ++ rest) offset width = fieldAt rest (offset - field.length) width := by
  simp [fieldAt, List.drop_append, List.drop_eq_nil_of_le h]

theorem fieldAt_be1 (n : Nat) (rest : List Byte) : fieldAt (be1 n ++ rest) 0 1 = n % 2 ^ 8 :=
  (fieldAt_front (be1 n) rest).trans (beNat_be1 n)

theorem fieldAt_be2 (n : Nat) (rest : List Byte) : fieldAt (be2 n ++ rest) 0 2 = n % 2 ^ 16 :=
  (fieldAt_front (be2 n) rest).trans (beNat_be2 n)

theorem fieldAt_be3 (n : Nat) (rest : List Byte) : fieldAt (be3 n ++ rest) 0 3 = n % 2 ^ 24 :=
  (fieldAt_front (be3 n) rest).trans (beNat_be3 n)

theorem fieldAt_be4 (n : Nat) (rest : List Byte) : fieldAt (be4 n ++ rest) 0 4 = n % 2 ^ 32 :=
  (fieldAt_front (be4 n) rest).trans (beNat_be4 n)

theorem fieldAt_behind_be1 (n width : Nat) (rest : List Byte) {offset : Nat} (h : 1 ≤ offset) :
    fieldAt (be1 n ++ rest) offset width = fieldAt rest (offset - 1) width := fieldAt_behind (be1 n) rest width h

theorem fieldAt_behind_be2 (n width : Nat) (rest : List Byte) {offset : Nat} (h : 2 ≤ offset) :
    fieldAt (be2 n ++ rest) offset width = fieldAt rest (offset - 2) width := fieldAt_behind (be2 n) rest width h

theorem fieldAt_behind_be3 (n width : Nat) (rest : List Byte) {offset : Nat} (h : 3 ≤ offset) :
    fieldAt (be3 n ++ rest) offset width = fieldAt rest (offset - 3) width := fieldAt_behind (be3 n) rest width h

theorem fieldAt_behind_be4 (n width : Nat) (rest : List Byte) {offset : Nat} (h : 4 ≤ offset) :
    fieldAt (be4 n ++ rest) offset width = fieldAt rest (offset - 4) width := fieldAt_behind (be4 n) rest width h

theorem fieldAt_be1_last (n : Nat) : fieldAt (be1 n) 0 1 = n % 2 ^ 8 := beNat_be1 n
theorem fieldAt_be2_last (n : Nat) : fieldAt (be2 n) 0 2 = n % 2 ^ 16 := beNat_be2 n
theorem fieldAt_be4_last (n : Nat) : fieldAt (be4 n) 0 4 = n % 2 ^ 32 := beNat_be4 n

/-- A byte of the frame is a field of one byte. -/
theorem singleton_eq_be1 (b : Byte) : [b] = be1 b.toNat := by simp [be1]

/-! ### Checks -/

/-- Bytes with their CRC-16 behind them pass their check (R190). -/
theorem crc16Good_withCrc16 {bytes : List Byte} {covered : Nat} (h : bytes.length = covered) :
    crc16Good (withCrc16 bytes) covered = true := by
  subst h
  have small : crc16 bytes < 2 ^ 16 := BitVec.isLt _
  simpa [crc16Good, withCrc16, fieldAt_behind, fieldAt_be2_last] using small

/-- A section with its CRC-8 in the last byte passes its check (R190). -/
theorem crc8Good_withCrc8 {bytes : List Byte} {covered : Nat} (h : bytes.length = covered) :
    crc8Good (withCrc8 bytes) covered = true := by
  subst h
  have small : crc8 bytes < 2 ^ 8 := BitVec.isLt _
  simpa [crc8Good, withCrc8, fieldAt_behind, fieldAt_be1_last] using small

/-! ### Frames -/

theorem kindOfCode_code (k : Kind) : kindOfCode k.code = some k := by cases k <;> decide

theorem Kind.code_lt (k : Kind) : k.code < 2 ^ 8 := by cases k <;> decide

theorem length_of_bodyAllowed {k : Kind} {body : List Byte} (h : bodyAllowed k body = true) : body.length ≤ 39 := by
  cases k <;> simp [bodyAllowed] at h <;> omega

theorem framesAreTakenAsBuilt : Claims.FramesAreTakenAsBuilt := by
  intro kind sender serial body hsender hbody
  have hlen := length_of_bodyAllowed hbody
  have hlen8 : body.length % 256 = body.length := Nat.mod_eq_of_lt (by omega)
  have hcode : kind.code % 256 = kind.code := Nat.mod_eq_of_lt kind.code_lt
  have hsender8 : sender % 256 = sender := Nat.mod_eq_of_lt (by omega)
  have hserial : serial.toNat % 256 = serial.toNat := Nat.mod_eq_of_lt serial.isLt
  have good : crc16Good (frameBytes kind sender serial body) (4 + body.length) = true :=
    crc16Good_withCrc16 (by simp; omega)
  have bytes : frameBytes kind sender serial body = be1 kind.code ++ (be1 sender ++ (be1 serial.toNat ++ (be1 body.length ++
      (body ++ be2 (crc16 (be1 kind.code ++ be1 sender ++ [serial] ++ be1 body.length ++ body)))))) := by
    simp [frameBytes, withCrc16, ← singleton_eq_be1]
  have taken : ((frameBytes kind sender serial body).drop 4).take body.length = body := by
    rw [bytes]
    exact List.take_left
  have fields : fieldAt (frameBytes kind sender serial body) 0 1 = kind.code ∧
      fieldAt (frameBytes kind sender serial body) 1 1 = sender ∧
      fieldAt (frameBytes kind sender serial body) 2 1 = serial.toNat ∧
      fieldAt (frameBytes kind sender serial body) 3 1 = body.length := by
    rw [bytes]
    simp [fieldAt_be1, fieldAt_behind_be1, hcode, hsender8, hserial, hlen8]
  obtain ⟨hkind, hsend, hser, hl⟩ := fields
  simp [frameOf, hkind, hsend, hser, hl, kindOfCode_code, good, hsender, taken, hbody]

/-! ### Notices -/

theorem memberStatusOf_code (m : MemberStatus) : memberStatusOf m.code = some m := by cases m <;> rfl
theorem vanModeOf_code (m : VanMode) : vanModeOf m.code = some m := by cases m <;> rfl

theorem MemberStatus.code_lt (m : MemberStatus) : m.code < 256 := by cases m <;> decide
theorem VanMode.code_lt (m : VanMode) : m.code < 256 := by cases m <;> decide

theorem mbrOf_mbrBody {e : ViewEntry} (h0 : 0 < e.member) (hm : e.member < 2 ^ 32) (hp : e.plan ≤ 7) (ha : e.allowance ≤ 4)
    (ho : e.bikesOut ≤ 15) (hd : e.day < 2 ^ 16) (hs : e.spend ≤ 999999) (hq : e.minSequence < 256)
    (hu : e.updatedAt < 2 ^ 32) : mbrOf (mbrBody e) = some e := by
  have hstatus := e.status.code_lt
  simp (disch := omega) [mbrOf, mbrBody, fieldAt_be1, fieldAt_be2, fieldAt_be3, fieldAt_be4, fieldAt_behind_be1,
    fieldAt_behind_be2, fieldAt_behind_be3, fieldAt_behind_be4, fieldAt_be4_last, Nat.mod_eq_of_lt, memberStatusOf_code]
  omega

theorem vopOf_vopBody {v : VopValues} (h1 : 1 ≤ v.serial) (h2 : v.serial ≤ 255) (hp1 : 1 ≤ v.places) (hp : v.places ≤ 12)
    (hc0 : 0 < v.crew) (hc : v.crew < 2 ^ 32) (hs1 : 60 ≤ v.seconds) (hs : v.seconds ≤ 1800) :
    vopOf (vopBody v) = some v := by
  have hmode := v.mode.code_lt
  simp (disch := omega) [vopOf, vopBody, fieldAt_be1, fieldAt_be4, fieldAt_behind_be1, fieldAt_behind_be4,
    fieldAt_be2_last, Nat.mod_eq_of_lt, vanModeOf_code]
  omega

/-- The flags byte of a beacon holds its four flags (Table 12-3). -/
theorem beaconFlags_bits (b : Beacon) :
    beaconFlags b < 256 ∧ (beaconFlags b).testBit 0 = b.docked ∧ (beaconFlags b).testBit 1 = b.hireable ∧
      (beaconFlags b).testBit 2 = b.vanHold ∧ (beaconFlags b).testBit 3 = b.boltClosed := by
  unfold beaconFlags
  generalize b.docked = d, b.hireable = h, b.vanHold = v, b.boltClosed = c
  revert d h v c
  decide

theorem bcnOf_bcnBody {b : Beacon} (hr : b.role < 256) (hp : b.postState < 256) (hi : b.bikeId < 2 ^ 32)
    (hb : b.bikeFault < 256) (hf : b.postFault < 256) (hd : b.dockedSince < 2 ^ 32) (hc : b.charge < 256)
    (ht : b.tariff < 2 ^ 16) (hq : b.quality < 256) (hs : b.stationId < 2 ^ 16) : bcnOf (bcnBody b) = b := by
  obtain ⟨hflags, hdocked, hhireable, hhold, hclosed⟩ := beaconFlags_bits b
  simp (disch := omega) [bcnOf, bcnBody, flagAt, fieldAt_be1, fieldAt_be2, fieldAt_be4, fieldAt_behind_be1, fieldAt_behind_be2,
    fieldAt_behind_be4, fieldAt_be2_last, Nat.mod_eq_of_lt, hdocked, hhireable, hhold, hclosed]

theorem noticesAreReadAsBuilt : Claims.NoticesAreReadAsBuilt :=
  ⟨fun _ => mbrOf_mbrBody, fun _ => vopOf_vopBody, fun _ => bcnOf_bcnBody⟩

/-! ### Tag sections -/

theorem hireMarkOf_code (m : HireMark) : hireMarkOf m.code = some m := by cases m <;> rfl
theorem reasonOf_code (r : Reason) : reasonOf r.code = some r := by cases r <;> rfl
theorem HireMark.code_lt (m : HireMark) : m.code < 256 := by cases m <;> decide
theorem Reason.code_lt (r : Reason) : r.code < 256 := by cases r <;> decide
theorem flagBit_zero (b : Bool) : flagBit b 0 < 256 ∧ (flagBit b 0).testBit 0 = b := by cases b <;> decide

theorem judgeHire_sectionBytes {h : HireSection} (hm : h.member < 2 ^ 32) (hp : h.plan < 256) (hs : h.start < 2 ^ 32)
    (hst : h.startStation < 2 ^ 16) (hsp : h.startPost < 256) (hd : h.startDay < 2 ^ 16) (hsd : h.startSpend < 2 ^ 24)
    (he : h.endAt < 2 ^ 32) (hg : hireRangesGood h = true) : judgeHire (sectionBytes (.hire h)) = .good h := by
  have hmark := h.mark.code_lt
  obtain ⟨hflag, hbit⟩ := flagBit_zero h.unverified
  have good : crc8Good (sectionBytes (.hire h)) 23 = true := crc8Good_withCrc8 (by simp [hireFields])
  have read : judgeHire (sectionBytes (.hire h)) =
      if crc8Good (sectionBytes (.hire h)) 23 && hireRangesGood h then .good h else .damaged := by
    simp (disch := omega) [judgeHire, sectionBytes, withCrc8, hireFields, flagAt, fieldAt_be1, fieldAt_be2, fieldAt_be3,
      fieldAt_be4, fieldAt_behind_be1, fieldAt_behind_be2, fieldAt_behind_be3, fieldAt_behind_be4, Nat.mod_eq_of_lt,
      hireMarkOf_code, hbit]
  simp [read, good, hg]

theorem fareOf_code {f : Fare} (h : ∀ cents, f = .charge cents → cents ≤ 999999) :
    f.code < 2 ^ 24 ∧ fareOf f.code = some f := by
  cases f with
  | charge cents =>
    have hc := h cents rfl
    exact ⟨by simp only [Fare.code]; omega, by simp [Fare.code, fareOf, hc]⟩
  | unrated => exact ⟨by decide, rfl⟩

theorem judgeLast_some {l : LastSection} (hf : ∀ cents, l.fare = .charge cents → cents ≤ 999999) (he : l.endAt < 2 ^ 32)
    (ht : l.tariff < 2 ^ 16) : judgeLast (sectionBytes (.last (some l))) = some l := by
  have hreason := l.reason.code_lt
  obtain ⟨hfare, hread⟩ := fareOf_code hf
  have good : crc8Good (sectionBytes (.last (some l))) 11 = true := crc8Good_withCrc8 (by simp [lastFields])
  rw [judgeLast, good]
  simp (disch := omega) [sectionBytes, withCrc8, lastFields, fieldAt_be1, fieldAt_be2, fieldAt_be3, fieldAt_be4,
    fieldAt_behind_be1, fieldAt_behind_be3, fieldAt_behind_be4, Nat.mod_eq_of_lt, hread, reasonOf_code]

/-- A section whose present byte is 0 is no settlement. -/
theorem judgeLast_none : judgeLast (sectionBytes (.last none)) = none := by
  have absent : fieldAt (sectionBytes (.last none)) 0 1 = 0 := rfl
  simp [judgeLast, absent]

/-- The parts of a descriptor: a class code above the level and the source bits (Table 12-6). -/
theorem descriptor_parts (code : Nat) (second crew : Bool) :
    (code * 4 + (if second = true then 2 else 0) + (if crew = true then 1 else 0)) / 4 = code ∧
      (code * 4 + (if second = true then 2 else 0) + (if crew = true then 1 else 0)).testBit 1 = second ∧
      (code * 4 + (if second = true then 2 else 0) + (if crew = true then 1 else 0)).testBit 0 = crew := by
  cases second <;> cases crew <;> simp [Nat.testBit_succ, Nat.testBit_zero] <;> omega

/-- The descriptor of an entry within the ranges of Table 5-6 fits its five bits and gives the entry again. -/
theorem entryOf_entryDescriptor {e : FaultEntry} (hl : e.level = 1 ∨ e.level = 2)
    (hc : (1 ≤ e.cls ∧ e.cls ≤ 5 ∧ e.source ≠ .auto) ∨ (e.cls = 8 ∧ e.source = .auto)) :
    entryDescriptor e < 32 ∧ entryOf (entryDescriptor e) e.reporter = some e := by
  obtain ⟨cls, level, source, reporter⟩ := e
  dsimp only at hl hc
  have parts := descriptor_parts (if cls = 8 then 6 else cls) (decide (level = 2)) (decide (source = .crew))
  simp only [decide_eq_true_eq] at parts
  obtain ⟨hcode, hlevel, hsource⟩ := parts
  have level_read : (if decide (level = 2) = true then 2 else 1) = level := by
    rcases hl with rfl | rfl
    · rfl
    · rfl
  refine ⟨?_, ?_⟩
  · have hcls : (if cls = 8 then 6 else cls) ≤ 6 := by
      split
      · decide
      · omega
    simp only [entryDescriptor]
    omega
  · simp only [entryOf, entryDescriptor, hcode, hlevel, hsource, level_read]
    rcases hc with ⟨h1, h5, hs⟩ | ⟨rfl, rfl⟩
    · have source_read : (if decide (source = .crew) = true then FaultSource.crew else .member) = source := by
        cases source
        · rfl
        · exact absurd rfl hs
        · rfl
      rw [source_read]
      simp [show cls ≠ 8 by omega, h1, h5]
    · rfl

/-- The entries a FAULTS section may hold (Tables 5-6 and 12-6). -/
def EntriesGood (entries : List FaultEntry) : Prop :=
  ∀ e ∈ entries, e.reporter < 2 ^ 32 ∧ (e.level = 1 ∨ e.level = 2) ∧
    ((1 ≤ e.cls ∧ e.cls ≤ 5 ∧ e.source ≠ .auto) ∨ (e.cls = 8 ∧ e.source = .auto))

theorem descriptorAt_lt {entries : List FaultEntry} (h : EntriesGood entries) (place : Nat) :
    descriptorAt entries place < 32 := by
  unfold descriptorAt
  split
  · rename_i e he
    obtain ⟨_, hl, hc⟩ := h e (List.mem_of_getElem? he)
    exact (entryOf_entryDescriptor hl hc).1
  · decide

theorem reporterAt_lt {entries : List FaultEntry} (h : EntriesGood entries) (place : Nat) :
    reporterAt entries place < 2 ^ 32 := by
  unfold reporterAt
  split
  · rename_i e he
    obtain ⟨hr, _⟩ := h e (List.mem_of_getElem? he)
    exact hr
  · decide

/-- The fields of a FAULTS section: the count, the four descriptors and the four reporters. -/
theorem faults_fields {entries : List FaultEntry} (hlen : entries.length ≤ 4) (h : EntriesGood entries) :
    fieldAt (sectionBytes (.faults entries)) 0 3 / 2 ^ 21 = entries.length ∧
      ∀ place, place < 4 →
        fieldAt (sectionBytes (.faults entries)) 0 3 / 2 ^ (15 - 5 * place) % 32 = descriptorAt entries place ∧
        fieldAt (sectionBytes (.faults entries)) (3 + 4 * place) 4 = reporterAt entries place := by
  have hd0 := descriptorAt_lt h 0
  have hd1 := descriptorAt_lt h 1
  have hd2 := descriptorAt_lt h 2
  have hd3 := descriptorAt_lt h 3
  have hr0 := reporterAt_lt h 0
  have hr1 := reporterAt_lt h 1
  have hr2 := reporterAt_lt h 2
  have hr3 := reporterAt_lt h 3
  have packed : fieldAt (sectionBytes (.faults entries)) 0 3 =
      entries.length * 2 ^ 21 + descriptorAt entries 0 * 2 ^ 15 + descriptorAt entries 1 * 2 ^ 10 +
        descriptorAt entries 2 * 2 ^ 5 + descriptorAt entries 3 := by
    rw [sectionBytes, withCrc8, faultsFields]
    simp only [List.append_assoc, fieldAt_be3]
    exact Nat.mod_eq_of_lt (by omega)
  refine ⟨by rw [packed]; omega, fun place hp => ⟨?_, ?_⟩⟩
  · rw [packed]
    interval_cases place <;> omega
  · interval_cases place <;>
      simp (disch := omega) [sectionBytes, withCrc8, faultsFields, fieldAt_be4, fieldAt_behind_be3, fieldAt_behind_be4,
        Nat.mod_eq_of_lt]

theorem faultEntriesOf_sectionBytes {entries : List FaultEntry} (hlen : entries.length ≤ 4) (h : EntriesGood entries)
    (count : Nat) (hc : count ≤ entries.length) :
    faultEntriesOf (sectionBytes (.faults entries)) count = some (entries.take count) := by
  induction count with
  | zero => rfl
  | succ count ih =>
    obtain ⟨hdesc, hrep⟩ := (faults_fields hlen h).2 count (by omega)
    have he : entries[count]? = some entries[count] := List.getElem?_eq_getElem hc
    obtain ⟨_, hl, hcls⟩ := h entries[count] (List.getElem_mem hc)
    rw [faultEntriesOf, ih (by omega), hdesc, hrep, descriptorAt, reporterAt, he]
    simp only [(entryOf_entryDescriptor hl hcls).2, List.take_append_getElem hc]

theorem judgeFaults_sectionBytes {entries : List FaultEntry} (hlen : entries.length ≤ 4) (h : EntriesGood entries) :
    judgeFaults (sectionBytes (.faults entries)) = .good entries := by
  have good : crc8Good (sectionBytes (.faults entries)) 19 = true := crc8Good_withCrc8 (by simp [faultsFields])
  rw [judgeFaults, (faults_fields hlen h).1, good, faultEntriesOf_sectionBytes hlen h _ le_rfl]
  simp [hlen]

theorem sectionsAreReadAsWritten : Claims.SectionsAreReadAsWritten :=
  ⟨fun _ => judgeHire_sectionBytes, fun _ => judgeLast_some, judgeLast_none, fun _ => judgeFaults_sectionBytes⟩

/-! ### Tariff pieces -/

theorem bandClassOf_code (cls : BandClass) : bandClassOf cls.code = some cls := by cases cls <;> rfl
theorem BandClass.code_lt (cls : BandClass) : cls.code < 2 ^ 8 := by cases cls <;> decide

theorem length_flatMap_bandBytes (table : List Band) : (table.flatMap bandBytes).length = 3 * table.length := by
  induction table with
  | nil => rfl
  | cons b table ih => simp [bandBytes, ih]; omega

/-- A band table's piece is its count, its bands and zeros to 25 bytes. -/
theorem pieceBytes_bands (index : Nat) {table : List Band} (hlen : table.length ≤ 8) :
    pieceBytes index (.bands table) =
      be1 table.length ++ (table.flatMap bandBytes ++ (List.replicate 24 0).take (24 - 3 * table.length)) := by
  simp only [pieceBytes]
  rw [List.take_append, length_flatMap_bandBytes, List.take_of_length_le (by rw [length_flatMap_bandBytes]; omega)]

/-- The fields of the band at a place of the table. -/
theorem fieldAt_bands (index : Nat) {table : List Band} (hlen : table.length ≤ 8) (hs : ∀ b ∈ table, b.start ≤ 1439)
    (place : Nat) (hp : place < table.length) :
    fieldAt (pieceBytes index (.bands table)) (3 * place + 1) 2 = table[place].start ∧
      fieldAt (pieceBytes index (.bands table)) (3 * place + 3) 1 = table[place].cls.code := by
  have hstart := hs table[place] (List.getElem_mem hp)
  have hcls := table[place].cls.code_lt
  have split : table.flatMap bandBytes = (table.take place).flatMap bandBytes ++
      (be2 table[place].start ++ (be1 table[place].cls.code ++ (table.drop (place + 1)).flatMap bandBytes)) := by
    calc table.flatMap bandBytes = (table.take place ++ table.drop place).flatMap bandBytes := by
          rw [List.take_append_drop]
      _ = _ := by rw [List.drop_eq_getElem_cons hp, List.flatMap_append, List.flatMap_cons, bandBytes, List.append_assoc]
  have before : ((table.take place).flatMap bandBytes).length = 3 * place := by
    rw [length_flatMap_bandBytes, List.length_take, Nat.min_eq_left hp.le]
  rw [pieceBytes_bands index hlen, split, List.append_assoc]
  refine ⟨?_, ?_⟩
  · rw [fieldAt_behind_be1 _ _ _ (by omega), fieldAt_behind _ _ _ (by rw [before]; omega), before,
      show 3 * place + 1 - 1 - 3 * place = 0 by omega, List.append_assoc, fieldAt_be2, Nat.mod_eq_of_lt (by omega)]
  · rw [fieldAt_behind_be1 _ _ _ (by omega), fieldAt_behind _ _ _ (by rw [before]; omega), before,
      show 3 * place + 3 - 1 - 3 * place = 2 by omega, List.append_assoc, fieldAt_behind_be2 _ _ _ le_rfl, List.append_assoc,
      fieldAt_be1, Nat.mod_eq_of_lt hcls]

theorem bandsOf_pieceBytes (index : Nat) {table : List Band} (hlen : table.length ≤ 8) (hs : ∀ b ∈ table, b.start ≤ 1439)
    (count : Nat) (hc : count ≤ table.length) :
    bandsOf (pieceBytes index (.bands table)) count = some (table.take count) := by
  induction count with
  | zero => rfl
  | succ count ih =>
    obtain ⟨hstart, hcls⟩ := fieldAt_bands index hlen hs count hc
    rw [bandsOf, ih (by omega), hcls, hstart, bandClassOf_code]
    simp only [List.take_append_getElem hc]

theorem length_pieceBytes (index : Nat) (piece : Piece) : (pieceBytes index piece).length = 25 := by
  unfold pieceBytes
  split
  · rfl
  · simp
  · simp

/-- A TRF body is read by its version, its index and its piece (R136). -/
theorem trfOf_trfBody {version index : Nat} {piece : Piece} (h1 : 1 ≤ version) (hv : version < 2 ^ 16) (hi : index ≤ 8)
    (hp : (if index = 8 then bandPieceOf (pieceBytes index piece) else planPieceOf index (pieceBytes index piece)) =
      some piece) :
    trfOf (trfBody version index piece) = some { version := version, index := index, piece := piece } := by
  have length : (trfBody version index piece).length = 28 := by simp [trfBody, length_pieceBytes]
  have behind : (trfBody version index piece).drop 3 = pieceBytes index piece := rfl
  have hversion : fieldAt (trfBody version index piece) 0 2 = version := by
    simp (disch := omega) [trfBody, fieldAt_be2, Nat.mod_eq_of_lt]
  have hindex : fieldAt (trfBody version index piece) 2 1 = index := by
    simp (disch := omega) [trfBody, fieldAt_behind_be2, fieldAt_be1, Nat.mod_eq_of_lt]
  simp only [trfOf, hversion, hindex, behind, hp, length]
  simp [hi, Nat.ne_of_gt h1]

theorem planPieceOf_some {index : Nat} {p : PlanRecord} (hi : index ≤ 7) (hf : p.freeMinutes ≤ 240) (hb1 : 1 ≤ p.blockMinutes)
    (hb : p.blockMinutes ≤ 120) (ha : p.rateA < 2 ^ 16) (hb' : p.rateB < 2 ^ 16) (hc : p.rateC < 2 ^ 16)
    (hd : p.rateD < 2 ^ 16) (hs : p.surcharge < 2 ^ 16) (hr : p.rideCap ≤ 999999) (hdc : p.dayCap ≤ 999999)
    (ho : p.overdueFee ≤ 999999) (hg : p.grace ≤ 600) :
    planPieceOf index (pieceBytes index (.plan (some p))) = some (.plan (some p)) := by
  simp (disch := omega) [planPieceOf, pieceBytes, fieldAt_be1, fieldAt_be2, fieldAt_be3, fieldAt_behind_be1,
    fieldAt_behind_be2, fieldAt_behind_be3, fieldAt_be2_last, Nat.mod_eq_of_lt]
  omega

theorem bandPieceOf_bands (index : Nat) {table : List Band} (h : bandTableGood table = true) :
    bandPieceOf (pieceBytes index (.bands table)) = some (.bands table) := by
  have hgood := h
  simp only [bandTableGood, Bool.and_eq_true, decide_eq_true_eq, List.all_eq_true] at hgood
  obtain ⟨⟨⟨⟨_, hlen⟩, _⟩, _⟩, hs⟩ := hgood
  have hcount : fieldAt (pieceBytes index (.bands table)) 0 1 = table.length := by
    simp (disch := omega) [pieceBytes, fieldAt_be1, Nat.mod_eq_of_lt]
  rw [bandPieceOf, hcount, if_pos hlen, bandsOf_pieceBytes index hlen hs _ le_rfl]
  simp [h]

theorem tariffPiecesAreReadAsBuilt : Claims.TariffPiecesAreReadAsBuilt := by
  intro version h1 hv
  refine ⟨fun index hi => ?_, fun index p hi hf hb1 hb ha hb' hc hd hs hr hdc ho hg => ?_, fun table hgood => ?_⟩
  · refine trfOf_trfBody h1 hv (by omega) ?_
    rw [if_neg (by omega)]
    rfl
  · refine trfOf_trfBody h1 hv (by omega) ?_
    rw [if_neg (by omega)]
    exact planPieceOf_some hi hf hb1 hb ha hb' hc hd hs hr hdc ho hg
  · exact trfOf_trfBody h1 hv le_rfl (bandPieceOf_bands 8 hgood)

/-- Settles O60: fields are read where they were put, at the width they were given. -/
theorem formatsAreReadAsBuilt : Obligations.FormatsAreReadAsBuilt :=
  ⟨framesAreTakenAsBuilt, noticesAreReadAsBuilt, sectionsAreReadAsWritten, tariffPiecesAreReadAsBuilt⟩

end Sys2Proof.Machine
end

section
/-! A frame sent intact. -/

namespace Sys2Proof.Machine

/-- SENT_INTACT while a frame is in transmission takes it as sent at the end of its last stop bit. -/
theorem exec_sentIntact {s : State} {x : Transmission} {e : TxEntry} (hx : s.line.tx = some x)
    (he : s.line.txEntry = some e) :
    exec .sentIntact s =
      answerNext ((s.reachInstant (x.start.plusUs (x.bytes.length * 11 * s.bitUs))).sentIntact x e) := by
  show answerNext s.transmissionEnds = _
  simp only [State.transmissionEnds, hx, he, frameBits]

theorem State.abandonForOwn_of_none {s : State} (h : s.line.rx = none) (x : Transmission) : s.abandonForOwn x = s := by
  rw [State.abandonForOwn, h]

/-- The peer table once the own entry is heard at the present local ms (R27). -/
def State.ownHeard (s : State) : PeerTable :=
  { s.peers with
    entries := s.peers.entries.set s.number { s.storedPeer s.number with heard := some s.clock.ms } }

theorem strapNumber_lt (straps : Straps) : strapNumber straps < 32 := by
  unfold strapNumber
  split <;> omega

theorem State.ownHeard_heard {s t : State} (hlen : s.peers.entries.length = 32) (ht : t.peers = s.ownHeard) :
    (t.storedPeer s.number).heard = some s.clock.ms := by
  have inside : s.number < s.peers.entries.length := hlen ▸ strapNumber_lt s.straps
  rw [State.storedPeer, ht]
  exact congrArg Peer.heard ((getD_set_of_lt _ _ _ _ inside).trans (if_pos rfl))

/-- What a frame sent intact leaves in the line controller and the peer table, whatever blocks take it. -/
theorem State.sentIntact_frame (x : Transmission) (e : TxEntry) (s : State) :
    (s.sentIntact x e).line.serial = s.line.serial + 1 ∧ (s.sentIntact x e).line.lastSender = s.number ∧
      (s.sentIntact x e).peers = s.ownHeard ∧ (s.sentIntact x e).straps = s.straps ∧
      (s.sentIntact x e).pending = s.pending ∧ (s.sentIntact x e).card = s.card := by
  have number : (s.abandonForOwn x).number = s.number := by simp [State.number]
  have heard : ((s.abandonForOwn x).countSent e).hearSelf.peers = s.ownHeard := by
    simp [State.hearSelf, State.setPeer, State.countSent, State.ownHeard, State.storedPeer, State.number]
  unfold State.sentIntact State.answerSent
  dsimp only
  split <;> split <;> simp [heard] <;> simp [State.countSent, number]

theorem sentIntactCountsTheFrame : Claims.SentIntactCountsTheFrame := by
  intro s x e hx he hlen
  refine completes_of_answer (exec_sentIntact hx he) ?_
  obtain ⟨c, hc⟩ := State.reachInstant_eq (x.start.plusUs (x.bytes.length * 11 * s.bitUs)) s
  rw [hc]
  obtain ⟨hserial, hlast, hpeers, hstraps, hpending, hcard⟩ := State.sentIntact_frame x e { s with clock := c }
  refine ⟨by simp [hserial], by simp [hlast, State.number], ?_, by simp [hstraps], by simp [hpending], by simp [hcard]⟩
  exact State.ownHeard_heard (s := { s with clock := c }) hlen (by simp [hpeers])

/-! ### A frame no own block takes -/

/-- The blocks of a station listen for no frame of these kinds that it sends itself (Table 0-5). -/
theorem State.blocksTake_unheard {s : State} {f : Frame}
    (h : s.straps.role = .post ∧ f.kind ∈ [.flt, .lkp, .vtk, .bcn] ∨
      s.straps.role = .terminal ∧ f.kind ∈ [.fcl, .mbr, .tim, .trf, .bcn] ∨ s.straps.role = .van ∧ f.kind = .bcn)
    (own : Option Nat) : s.blocksTake f own = s := by
  rcases h with ⟨hr, hk⟩ | ⟨hr, hk⟩ | ⟨hr, hk⟩
  · simp only [List.mem_cons, List.not_mem_nil, or_false] at hk
    rcases hk with hk | hk | hk | hk <;> simp [State.blocksTake, hr, State.postTakes, hk]
  · simp only [List.mem_cons, List.not_mem_nil, or_false] at hk
    rcases hk with hk | hk | hk | hk | hk <;> simp [State.blocksTake, hr, State.terminalTakes, hk]
  · simp [State.blocksTake, hr, State.vanTakes, hk]

theorem sentIntactOfAnUnheardFrame : Claims.SentIntactOfAnUnheardFrame := by
  intro s x e hx he hrx hrole r
  obtain ⟨c, hc⟩ : ∃ c, r = { s with clock := c } := State.reachInstant_eq _ s
  have hr : s.reachInstant (x.start.plusUs (x.bytes.length * 11 * s.bitUs)) = r := rfl
  clear_value r
  subst hc
  intro sent
  have counted : (State.countSent e { s with clock := c }).hearSelf = sent := rfl
  have held : sent.line.heldBeacon = s.line.heldBeacon := rfl
  have role : sent.straps = s.straps := rfl
  clear_value sent
  have hclm : e.kind ≠ .clm := by
    rintro hk
    simp [hk] at hrole
  have step : exec .sentIntact s = answerNext (if e.kind = .bcn then sent.offerHeld else sent) := by
    rw [exec_sentIntact hx he, hr, State.sentIntact, State.abandonForOwn_of_none (by exact hrx), counted]
    dsimp only
    rw [State.blocksTake_unheard (by rw [role]; exact hrole), State.answerSent, if_neg hclm]
  refine ⟨fun hb => ?_, fun body hb hheld => ?_⟩
  · rw [step]
    split
    · rename_i hk
      have none_held : sent.line.heldBeacon = none := held.trans (hb.resolve_left (not_not.2 hk))
      rw [State.offerHeld, none_held]
      rfl
    · rfl
  · rw [step, if_pos hb, State.offerHeld, held, hheld]
    rfl

/-! ### The CLM of a hire -/

/-- A claim of a new claimant and claim serial is entered last in a list with room (R110). -/
theorem enterClaim_new {c : Claim} {claims : List Claim} (hroom : claims.length < 16)
    (hnew : ∀ d ∈ claims, ¬ (d.claimant = c.claimant ∧ d.serial = c.serial)) : enterClaim c claims = claims ++ [c] := by
  have kept : dropClaims c.claimant c.serial (fun _ => true) claims = claims := by
    refine List.filter_eq_self.2 fun d hd => ?_
    simpa [imp_iff_not_or] using hnew d hd
  rw [enterClaim, kept, show claims.length + 1 - 16 = 0 by omega, List.drop_zero]

theorem clmBody_fields {member allowance : Nat} (hm : member < 2 ^ 32) (ha : allowance ≤ 4) :
    fieldAt (be4 member ++ be1 allowance) 0 4 = member ∧ fieldAt (be4 member ++ be1 allowance) 4 1 = allowance := by
  simp (disch := omega) [fieldAt_be4, fieldAt_behind_be4, fieldAt_be1_last, Nat.mod_eq_of_lt]

/-- A CLM taken from a claimant is entered with the member it names (R110). -/
theorem State.takeClm_of_body {member allowance sender : Nat} {serial : BitVec 8} {s : State} (h0 : 0 < member)
    (hm : member < 2 ^ 32) (h1 : 1 ≤ allowance) (ha : allowance ≤ 4) :
    s.takeClm sender serial (be4 member ++ be1 allowance) =
      { s with
        hire := { s.hire with
          claims := enterClaim { member := member, claimant := sender, serial := serial, heard := s.clock.ms }
            s.hire.claims } } := by
  obtain ⟨hmember, hallowance⟩ := clmBody_fields hm ha
  simp only [State.takeClm, hmember, hallowance]
  simp [Nat.ne_of_gt h0, Nat.not_lt.2 h1, Nat.not_lt.2 ha]

theorem sentClaimOpensItsWindow : Claims.SentClaimOpensItsWindow := by
  intro s x e h allowance hpost hx he hclm hrx hstate hrecord href hclaim hbody h1 ha h0 hm hroom hnew now
  obtain ⟨c, hc⟩ : ∃ c, s.reachInstant (x.start.plusUs (x.bytes.length * 11 * s.bitUs)) = { s with clock := c } :=
    State.reachInstant_eq _ s
  have hnow : now = c.ms := congrArg (fun t => t.clock.ms) hc
  clear_value now
  subst hnow
  refine completes_of_answer (exec_sentIntact hx he) ?_
  rw [hc, State.sentIntact, State.abandonForOwn_of_none (by exact hrx)]
  have before : (State.countSent e { s with clock := c }).hearSelf.hire = s.hire ∧
      (State.countSent e { s with clock := c }).hearSelf.clock = c ∧
      (State.countSent e { s with clock := c }).hearSelf.straps.role = .post ∧
      ({ peers := true, hire := true } : Touched).frame s (State.countSent e { s with clock := c }).hearSelf :=
    ⟨rfl, rfl, hpost, by simp [Touched.frame, State.hearSelf, State.setPeer, State.countSent]⟩
  dsimp only
  generalize (State.countSent e { s with clock := c }).hearSelf = u at before ⊢
  obtain ⟨uhire, uclock, upost, uframe⟩ := before
  have taken : u.blocksTake (State.ownFrame { s with clock := c } e) (some e.ref) =
      { u with
        hire := { s.hire with
          claims := s.hire.claims ++
            [{ member := h.card.member, claimant := s.number, serial := s.line.serial, heard := c.ms }] } } := by
    rw [State.blocksTake, upost]
    simp only [State.postTakes, State.ownFrame, hclm, hbody]
    rw [State.takeClm_of_body h0 hm h1 ha, uhire, uclock, enterClaim_new hroom hnew]
    rfl
  rw [taken, if_neg (by simp [hclm]), State.answerSent, if_pos hclm, State.clmSent,
    if_pos (by simp [State.awaitsClm, hstate, hrecord, href, hclaim])]
  refine ⟨?_, conclude_frame_of _ _ _ ?_⟩
  · simp [State.onRecord, hrecord, uclock]
  · simpa [Touched.frame, State.onRecord] using uframe

/-- Settles O14: the line controller's own part of a clean send, and what the blocks make of the frame handed back. -/
theorem sentIntactCompletesTheFrame : Obligations.SentIntactCompletesTheFrame :=
  ⟨sentIntactCountsTheFrame, sentIntactOfAnUnheardFrame, sentClaimOpensItsWindow⟩

end Sys2Proof.Machine
end

section
/-! Attempts that end contended, deadlines, and offers to a full queue. -/

namespace Sys2Proof.Machine

/-- No owner acts on "line busy" for a frame that is neither a CLM nor an OFR (R11, Table 1-3). -/
theorem State.answerBusy_unowned {e : TxEntry} (hc : e.kind ≠ .clm) (ho : e.kind ≠ .ofr) (s : State) :
    s.answerBusy e = s := by
  unfold State.answerBusy
  split
  case h_1 hk => exact absurd hk hc
  case h_2 hk => exact absurd hk ho
  all_goals rfl

/-! ### ECHO_CHECK_FAIL -/

/-- ECHO_CHECK_FAIL at a bit of the frame in transmission, with no frame in the receiver, releases the line at the next bit
boundary. -/
theorem exec_echoCheckFail {bit : Nat} {s : State} {x : Transmission} (hx : s.line.tx = some x)
    (hb : bit < x.bytes.length * 11) :
    exec (.echoCheckFail bit) s =
      answerNext (((s.reachInstant (x.start.plusUs ((bit + 1) * s.bitUs))).keepOwnCharacters x bit).endContended) := by
  show answerNext (s.echoFails bit) = _
  simp only [State.echoFails, hx]
  rw [if_pos (show bit < frameBits x.bytes from hb)]

/-- The receiver holds the characters completed before the bit that differed (R15). -/
theorem State.keepOwnCharacters_of_none {s : State} (hrx : s.line.rx = none) (x : Transmission) (bit : Nat) :
    s.keepOwnCharacters x bit =
      { s with
        line := { s.line with
          rx := if bit / 11 = 0 then none else some (x.bytes.take (bit / 11))
          rxCharEnd := if bit / 11 = 0 then s.line.rxCharEnd else some (x.start.plusUs (bit / 11 * 11 * s.bitUs))
          charEndsAt := some ((x.start.plusUs (bit / 11 * 11 * s.bitUs)).plusUs (11 * s.bitUs)) } } := by
  unfold State.keepOwnCharacters
  dsimp only
  rw [State.abandonForOwn_of_none hrx]
  by_cases h0 : bit / 11 = 0
  · simp [h0, hrx]
  · simp [h0]

/-- The three ends of a contended attempt: the entry stays, a held beacon body takes its turn, or the entry leaves. -/
theorem State.endContended_of_tx {s : State} {e : TxEntry} (he : s.line.txEntry = some e) :
    s.endContended =
      if s.contendedRemoves e then
        if e.kind = .bcn then ({ s with line := { s.line with tx := none } }.removeBusy e).offerHeld
        else { s with line := { s.line with tx := none } }.removeBusy e
      else if e.kind = .bcn then { s with line := { s.line with tx := none } }.replaceHeld e
      else { s with line := { s.line with tx := none } } := by
  simp only [State.endContended, he]

theorem echoCheckFailContends : Claims.EchoCheckFailContends := by
  intro bit s x e hx he hrx hb r
  obtain ⟨c, hc⟩ : ∃ c, r = { s with clock := c } := State.reachInstant_eq _ s
  have hr : s.reachInstant (x.start.plusUs ((bit + 1) * s.bitUs)) = r := rfl
  clear_value r
  subst hc
  intro ended released out
  have step : exec (.echoCheckFail bit) s = answerNext
      (if out then (if e.kind = .bcn then (released.removeBusy e).offerHeld else released.removeBusy e)
       else if e.kind = .bcn then released.replaceHeld e else released) := by
    rw [exec_echoCheckFail hx hb, hr, State.keepOwnCharacters_of_none (by exact hrx), State.endContended_of_tx (by exact he)]
    rfl
  have held : released.line.heldBeacon = s.line.heldBeacon := rfl
  have queue : released.line.queue = s.line.queue := rfl
  clear_value released out
  refine ⟨fun ho hbcn => ?_, fun ho hbcn body hheld => ?_, fun ho hk => ?_⟩
  · rw [step, ho, if_neg Bool.false_ne_true]
    split
    · rename_i hk
      have none_held : released.line.heldBeacon = none := held.trans (hbcn.resolve_left (not_not.2 hk))
      rw [State.replaceHeld, none_held]
      rfl
    · rfl
  · rw [step, ho, if_neg Bool.false_ne_true, if_pos hbcn, State.replaceHeld, held, hheld, queue]
    rfl
  · simp only [List.mem_cons, List.not_mem_nil, or_false, not_or] at hk
    obtain ⟨hclm, hofr, hbcn⟩ := hk
    rw [step, ho, if_pos rfl, if_neg hbcn, State.removeBusy, State.answerBusy_unowned hclm hofr, queue]
    rfl

/-! ### DEADLINE_EXPIRY -/

/-- What one part of a command leaves untouched and another does, both do. -/
theorem Touched.frame.trans {b : Touched} {s u t : State} (hu : b.frame s u) (ht : b.frame u t) : b.frame s t := by
  obtain ⟨u1, u2, u3, u4, u5, u6, u7, u8, u9, u10, u11, u12, u13, u14⟩ := hu
  obtain ⟨t1, t2, t3, t4, t5, t6, t7, t8, t9, t10, t11, t12, t13, t14⟩ := ht
  exact ⟨t1.trans u1, t2.trans u2, fun h => (t3 h).trans (u3 h), fun h => (t4 h).trans (u4 h),
    fun h => (t5 h).trans (u5 h), fun h => (t6 h).trans (u6 h), fun h => (t7 h).trans (u7 h),
    fun h => (t8 h).trans (u8 h), fun h => (t9 h).trans (u9 h), fun h => (t10 h).trans (u10 h),
    fun h => (t11 h).trans (u11 h), fun h => (t12 h).trans (u12 h), fun h => (t13 h).trans (u13 h),
    fun h => (t14 h).trans (u14 h)⟩

/-- An evaluation of the own offer touches no other block. -/
theorem State.evaluateSince_touches (b : Touched) (s before : State) : b.frame s (s.evaluateSince before) := by
  rw [State.evaluateSince_eq]
  simp [Touched.frame, VanUnit.sansOffer]

/-- A refusal ends the hire and asks for the refusal display (R64, R106). -/
theorem State.refuse_outcome (group : Nat) (s : State) :
    (s.refuse group).hire = { s.hire with state := .idle, record := none } ∧
      (s.refuse group).dock.refusal = some { flashes := group, endAt := s.clock.ms + 3000 } ∧
      ({ dock := true, hire := true } : Touched).frame s (s.refuse group) := by
  refine ⟨by simp [State.refuse, State.hireIdle], by simp [State.refuse], ?_⟩
  exact .trans (u := { s.showRefusal group with hire := { s.hire with state := .idle, record := none } })
    (by simp [Touched.frame]) (State.evaluateSince_touches _ _ _)

theorem deadlineExpiryRemovesTheEntry : Claims.DeadlineExpiryRemovesTheEntry := by
  intro s e he r
  obtain ⟨c, hc⟩ : ∃ c, r = { s with clock := c } := State.reachMs_eq _ s
  have hr : s.reachMs e.deadline = r := rfl
  clear_value r
  subst hc
  intro gone
  have step : exec .deadlineExpiry s =
      answerNext (if s.line.inTransmission e then { s with clock := c } else gone.answerBusy e) := by
    show answerNext s.deadlinePasses = _
    simp only [State.deadlinePasses, he, hr]
    rfl
  have frame (b : Touched) : b.frame s gone := by simp [gone, Touched.frame]
  have hire : gone.hire = s.hire := rfl
  have van : gone.van = s.van := rfl
  have clock : gone.clock = c := rfl
  clear_value gone
  refine ⟨fun ht => ?_, fun ht hk => ?_, fun ht hk hwait => ?_, fun ht hk hoffer href => ?_⟩
  · rw [step, if_pos ht]
    rfl
  all_goals rw [if_neg (by simp [ht])] at step
  · simp only [List.mem_cons, List.not_mem_nil, or_false, not_or] at hk
    obtain ⟨hclm, hofr⟩ := hk
    rw [step, State.answerBusy_unowned hclm hofr]
    rfl
  · refine completes_of_answer step ?_
    have waits : gone.awaitsClm e.ref = true := by
      rw [State.awaitsClm, hire]
      exact hwait
    have refused : gone.answerBusy e = gone.refuse 4 := by
      simp only [State.answerBusy, hk, State.clmBusy, waits, if_true]
    obtain ⟨refused_hire, refused_display, refused_frame⟩ := State.refuse_outcome 4 gone
    rw [refused]
    refine ⟨?_, ?_, conclude_frame_of _ _ _ ((frame _).trans refused_frame)⟩
    · rw [← hire]
      simpa using refused_hire
    · rw [clock] at refused_display
      simpa using refused_display
  · refine completes_of_answer step ?_
    have busy : gone.answerBusy e = gone.ofrBusy := by
      simp [State.answerBusy, hk, van, hoffer, href]
    rw [busy]
    refine ⟨?_, conclude_frame_of _ _ _ ((frame _).trans ?_)⟩
    · simp [State.ofrBusy, van, clock]
    · simp [State.ofrBusy, Touched.frame, VanUnit.sansOffer]

/-! ### A full queue -/

theorem fullQueueDisplaces : Claims.FullQueueDisplaces := by
  intro kind body s hrefuse hbcn hfull horder
  have full : ¬ s.line.queue.length < 8 := by omega
  have offered : s.offer kind body = s.enqueue kind body := by simp [State.offer, hrefuse, hbcn]
  refine ⟨fun before e after hqueue ht hcls hafter => ⟨fun x hx => ?_, ?_⟩, fun hnone => ?_⟩
  · rw [hqueue] at hx horder
    obtain ⟨_, _, hbefore⟩ := List.pairwise_append.1 horder
    rcases List.mem_append.1 hx with hx | hx
    · exact .inl (hbefore x hx e List.mem_cons_self)
    · rcases List.mem_cons.1 hx with rfl | hx
      · exact .inl le_rfl
      · exact .inr (hafter x hx)
  · have last : s.line.displaceable kind.cls = some e := by
      have none_after : after.filter (fun x => decide (kind.cls < x.kind.cls) && !s.line.inTransmission x) = [] :=
        List.filter_eq_nil_iff.2 fun x hx => by simp [hafter x hx]
      rw [Line.displaceable, hqueue, List.filter_append, List.filter_cons, none_after]
      simp [hcls, ht]
    rw [offered, State.enqueue, if_neg full, last]
    rfl
  · have last : s.line.displaceable kind.cls = none := by
      have nothing : s.line.queue.filter (fun x => decide (kind.cls < x.kind.cls) && !s.line.inTransmission x) = [] :=
        List.filter_eq_nil_iff.2 fun x hx => by
          rcases hnone x hx with h | h
          · simp [h]
          · simp [Nat.not_lt.2 h]
      rw [Line.displaceable, nothing]
      rfl
    rw [offered, State.enqueue, if_neg full, last]

/-- Settles O15: the ends of an attempt, of a wait, and of an offer without room. -/
theorem contendedAndLapsedFrames : Obligations.ContendedAndLapsedFrames :=
  ⟨echoCheckFailContends, deadlineExpiryRemovesTheEntry, fullQueueDisplaces⟩

end Sys2Proof.Machine
end

section
/-! Start bits, characters and bad frames. -/

namespace Sys2Proof.Machine

/-! ### Bad frames -/

/-- A post fault raised touches the fault unit and the queue alone. -/
theorem State.raisePost_touches (f : PostFault) (s : State) : ({ fault := true } : Touched).frame s (s.raisePost f) := by
  unfold State.raisePost
  split
  · exact .trans (by simp [Touched.frame]) (State.evaluateSince_touches _ _ _)
  · simp [Touched.frame]

/-- A LINE fault raised touches the fault unit and the queue; of the line it sets LINE and its clearing count (R18). -/
theorem State.raiseLine_outcome (at_ : Ms) (s : State) :
    (∃ queue nextRef heldBeacon, (s.raiseLine at_).line =
      { s.line with
        lineRaised := true, lineClearAt := if s.line.stuck then none else some (at_ + 60000), queue := queue,
        nextRef := nextRef, heldBeacon := heldBeacon }) ∧
      ({ fault := true } : Touched).frame s (s.raiseLine at_) := by
  have works : Works
      { s with
        line := { s.line with lineRaised := true, lineClearAt := if s.line.stuck then none else some (at_ + 60000) } }
      (s.raiseLine at_) := (Works.refl _).raisePost
  exact ⟨⟨_, _, _, works.line⟩, .trans (by simp [Touched.frame]) (State.raisePost_touches _ _)⟩

/-- What a bad frame of a sending station leaves: one entry more in the record, LINE where the record shows an excess, and
the rest of the line but for the queue (R18). -/
theorem State.badFrame_outcome {s : State} (hs : s.sends = true) (at_ : Ms) :
    (∃ queue nextRef heldBeacon, (s.badFrame at_).line =
      { s.line with
        badFrames := appendBadFrame s.line.badFrames at_
        lineRaised := if badFrameExcess (appendBadFrame s.line.badFrames at_) then true else s.line.lineRaised
        lineClearAt :=
          if badFrameExcess (appendBadFrame s.line.badFrames at_) then
            (if s.line.stuck then none else some (at_ + 60000))
          else s.line.lineClearAt
        queue := queue, nextRef := nextRef, heldBeacon := heldBeacon }) ∧
      ({ fault := true } : Touched).frame s (s.badFrame at_) := by
  unfold State.badFrame
  rw [if_pos hs]
  dsimp only
  split
  · obtain ⟨⟨queue, nextRef, heldBeacon, hline⟩, hframe⟩ := State.raiseLine_outcome at_
      { s with line := { s.line with badFrames := appendBadFrame s.line.badFrames at_ } }
    exact ⟨⟨queue, nextRef, heldBeacon, hline⟩, hframe⟩
  · exact ⟨⟨_, _, _, rfl⟩, by simp [Touched.frame]⟩

/-- A frame given up as a bad frame. -/
theorem State.abandonFrame_outcome {s : State} (hs : s.sends = true) :
    s.abandonFrame.line.rx = none ∧ s.abandonFrame.line.badFrames = appendBadFrame s.line.badFrames s.clock.ms ∧
      ({ fault := true } : Touched).frame s s.abandonFrame := by
  obtain ⟨⟨queue, nextRef, heldBeacon, hline⟩, hframe⟩ := State.badFrame_outcome
    (s := { s with line := { s.line with rx := none, rxCharEnd := none } }) hs s.clock.ms
  exact ⟨by rw [State.abandonFrame, hline], by rw [State.abandonFrame, hline], hframe⟩

/-! ### The receiver -/

theorem exec_lineCharacter {c : LineChar} {s : State} (htx : s.line.tx = none) :
    exec (.lineCharacter c) s = answerNext ((s.characterEnds c).receiveChar c) := by
  show answerNext (s.lineReceives c) = _
  rw [State.lineReceives, htx]

/-- The length field of a frame with one character more. -/
theorem fieldAt_length (bytes : List Byte) (b : Byte) :
    (4 ≤ bytes.length → fieldAt (bytes ++ [b]) 3 1 = fieldAt bytes 3 1) ∧
      (bytes.length = 3 → fieldAt (bytes ++ [b]) 3 1 = b.toNat) := by
  refine ⟨fun h => ?_, fun h => ?_⟩
  · rw [fieldAt, List.drop_append_of_le_length (by omega), List.take_append_of_le_length (by simp; omega)]
    rfl
  · rw [fieldAt_behind _ _ _ (by omega), h]
    simp [fieldAt, beNat]

theorem startBitEndsQuiet : Claims.StartBitEndsQuiet := by
  intro s htx hchar
  show answerNext (if s.lineFree then s.startBitTaken else s) = _
  rw [if_pos (by simp [State.lineFree, htx, hchar])]
  rfl

theorem lineCharacterIsCollected : Claims.LineCharacterIsCollected := by
  intro c s htx r
  have hr : s.characterEnds c = r := rfl
  have rx : r.line.rx = s.line.rx := by simp [← hr]
  refine ⟨fun hgood hmark hrx => ?_, fun hc hrx => ?_, fun bytes hgood hmark hrx hlen => ?_⟩ <;>
    rw [exec_lineCharacter htx, hr] <;> clear_value r <;> rw [hrx] at rx
  · simp only [State.receiveChar, rx, hgood, hmark]
    rfl
  · have same : r.receiveChar c = r := by
      cases hgood : c.stopGood
      · simp [State.receiveChar, rx, hgood]
      · have hmark := hc.resolve_right (by simp [hgood])
        simp [State.receiveChar, rx, hgood, hmark]
    rw [same]
    rfl
  · have more : r.extendFrame (bytes ++ [c.data]) = r.inFrame (bytes ++ [c.data]) := by
      obtain ⟨hlong, hthree⟩ := fieldAt_length bytes c.data
      have short : ¬ (4 ≤ (bytes ++ [c.data]).length ∧ 48 < fieldAt (bytes ++ [c.data]) 3 1) := by
        simp only [List.length_append, List.length_singleton]
        rcases hlen with h | ⟨h, hdata⟩ | ⟨h, hfield, _⟩
        · omega
        · rw [hthree h]; omega
        · rw [hlong h]; omega
      have open_ : ¬ (4 ≤ (bytes ++ [c.data]).length ∧
          (bytes ++ [c.data]).length = 6 + fieldAt (bytes ++ [c.data]) 3 1) := by
        simp only [List.length_append, List.length_singleton]
        rcases hlen with h | ⟨h, hdata⟩ | ⟨h, _, hmore⟩
        · omega
        · omega
        · rw [hlong h]; omega
      rw [State.extendFrame, if_neg (by simpa using short), if_neg (by simpa using open_)]
    simp only [State.receiveChar, rx, hgood, hmark, more]
    rfl

/-- A frame that ends without being one is a bad frame. -/
theorem State.frameEnds_of_bad {s : State} {bytes : List Byte} (h : frameOf bytes = none) :
    s.frameEnds bytes = s.abandonFrame := by
  simp only [State.frameEnds, h]
  rfl

/-- The end of a character touches no block but the line controller. -/
theorem State.characterEnds_touches (b : Touched) (c : LineChar) (s : State) : b.frame s (s.characterEnds c) := by
  obtain ⟨k, hk⟩ := s.characterEnds_eq c
  rw [hk]
  simp [Touched.frame]

/-- What the receiver makes of a character that ends a frame that R5 discards. -/
theorem State.receiveChar_bad {s : State} {bytes : List Byte} {c : LineChar} (hrx : s.line.rx = some bytes)
    (he : endsFrame bytes c = true) (hf : frameOf (bytes ++ [c.data]) = none) : s.receiveChar c = s.abandonFrame := by
  simp only [endsFrame, Bool.and_eq_true, Bool.not_eq_true', decide_eq_true_eq] at he
  obtain ⟨⟨⟨hgood, hmark⟩, hlen⟩, hend⟩ := he
  have field : fieldAt (bytes ++ [c.data]) 3 1 = fieldAt bytes 3 1 := (fieldAt_length bytes c.data).1 hlen
  simp only [State.receiveChar, hrx, hgood, hmark, State.extendFrame]
  split
  · rfl
  · rw [if_pos (by simp [field]; omega), State.frameEnds_of_bad hf]

/-- What the receiver makes of a character that abandons the frame in progress: a mark begins a new one. -/
theorem State.receiveChar_abandons {s : State} {bytes : List Byte} {c : LineChar} (hrx : s.line.rx = some bytes)
    (ha : abandonsFrame bytes c = true) :
    s.receiveChar c = if c.stopGood && c.mark then s.abandonFrame.inFrame [c.data] else s.abandonFrame := by
  cases hgood : c.stopGood
  · simp [State.receiveChar, hrx, hgood]
  · cases hmark : c.mark
    · simp only [abandonsFrame, hgood, hmark, Bool.not_true, Bool.false_or, Bool.and_eq_true, decide_eq_true_eq] at ha
      obtain ⟨hlen, hdata⟩ := ha
      have field : fieldAt (bytes ++ [c.data]) 3 1 = c.data.toNat := (fieldAt_length bytes c.data).2 hlen
      simp only [State.receiveChar, hrx, hgood, hmark, State.extendFrame]
      rw [if_pos (by simp [field, hlen, hdata])]
      rfl
    · simp [State.receiveChar, hrx, hgood, hmark]

theorem badFramesAreRecorded : Claims.BadFramesAreRecorded := by
  intro c bytes s htx hrx hs record
  have appended : ∀ at_, record at_ = appendBadFrame s.line.badFrames at_ := fun _ => rfl
  clear_value record
  have ended : (s.characterEnds c).line.rx = some bytes := by simp [hrx]
  have sends : (s.characterEnds c).sends = true := by simpa [State.sends] using hs
  have kept : (s.characterEnds c).line.badFrames = s.line.badFrames := by
    obtain ⟨k, hk⟩ := s.characterEnds_eq c
    simp [hk]
  have touches := State.characterEnds_touches { fault := true } c s
  have received : s.lineReceives c = (s.characterEnds c).receiveChar c := by rw [State.lineReceives, htx]
  refine ⟨fun hend hbad => ?_, fun hab => ?_, fun i hi hchar => ?_⟩
  · have step : exec (.frameReceived c) s = answerNext (s.characterEnds c).abandonFrame := by
      show answerNext _ = _
      simp only [hrx, hend, received, State.receiveChar_bad ended hend hbad, if_true]
    obtain ⟨orx, orecord, oframe⟩ := State.abandonFrame_outcome sends
    refine completes_of_answer step ⟨?_, ?_, ?_, conclude_frame_of _ _ _ (touches.trans oframe)⟩
    · simpa using orx
    · simpa [kept, appended, State.heardAt] using orecord
    · simp
  · have step : exec (.frameAbandoned c) s = answerNext
        (if c.stopGood && c.mark then (s.characterEnds c).abandonFrame.inFrame [c.data]
         else (s.characterEnds c).abandonFrame) := by
      show answerNext _ = _
      simp only [hrx, hab, received, State.receiveChar_abandons ended hab, if_true]
    obtain ⟨orx, orecord, oframe⟩ := State.abandonFrame_outcome sends
    refine completes_of_answer step ?_
    split
    · refine ⟨by simp [State.inFrame], ?_, ?_, conclude_frame_of _ _ _ ((touches.trans oframe).trans ?_)⟩
      · simpa [kept, State.inFrame, appended, State.heardAt] using orecord
      · simp
      · simp [State.inFrame, Touched.frame]
    · refine ⟨?_, ?_, ?_, conclude_frame_of _ _ _ (touches.trans oframe)⟩
      · simpa using orx
      · simpa [kept, appended, State.heardAt] using orecord
      · simp
  · obtain ⟨k, hk⟩ := State.reachInstant_eq (i.plusUs (33 * s.bitUs)) s
    have step : exec .receiveGapExpiry s = answerNext (s.reachInstant (i.plusUs (33 * s.bitUs))).abandonFrame := by
      show answerNext s.receiveGap = _
      simp only [State.receiveGap, hrx, hi]
      rw [if_pos (by simp [State.lineFree, htx, hchar])]
    obtain ⟨orx, orecord, oframe⟩ := State.abandonFrame_outcome
      (s := s.reachInstant (i.plusUs (33 * s.bitUs))) (by simpa [State.sends] using hs)
    refine completes_of_answer step ⟨?_, ?_, ?_, conclude_frame_of _ _ _ (.trans ?_ oframe)⟩
    · simpa using orx
    · simpa [appended] using orecord
    · simp
    · rw [hk]
      simp [Touched.frame]

/-! ### The station's own first character -/

/-- Where no wait is due the conclusion starts nothing and leaves the queue. -/
theorem conclude_of_no_wait {s : State} (h : s.waitDue = none) :
    (conclude s).line.tx = s.line.tx ∧ (conclude s).line.queue = s.line.queue ∧ (conclude s).line.wait = none := by
  rw [conclude, State.chooseLamp_eq]
  simp [State.followHead, h]

/-- A station that sends, or whose line is not quiet, waits for nothing. -/
theorem State.waitDue_none {s : State} (h : s.line.tx.isSome = true ∨ s.line.quiet = none) : s.waitDue = none := by
  unfold State.waitDue
  split
  · rename_i q head rest hq _
    rcases h with h | h
    · simp [← Option.not_isSome, h]
    · rw [h] at hq
      cases hq
  · rfl

/-- What the end of the station's own first character leaves of a frame the receiver still held (R6, R18). -/
theorem State.abandonForOwn_outcome {s : State} {bytes : List Byte} (hs : s.sends = true) (hrx : s.line.rx = some bytes)
    (x : Transmission) :
    (∃ queue nextRef heldBeacon, (s.abandonForOwn x).line =
      { s.line with
        rx := none, rxCharEnd := none
        badFrames := appendBadFrame s.line.badFrames (s.ownMarkEnd x).ms
        lineRaised :=
          if badFrameExcess (appendBadFrame s.line.badFrames (s.ownMarkEnd x).ms) then true else s.line.lineRaised
        lineClearAt :=
          if badFrameExcess (appendBadFrame s.line.badFrames (s.ownMarkEnd x).ms) then
            (if s.line.stuck then none else some ((s.ownMarkEnd x).ms + 60000))
          else s.line.lineClearAt
        queue := queue, nextRef := nextRef, heldBeacon := heldBeacon }) ∧
      ({ fault := true } : Touched).frame s (s.abandonForOwn x) := by
  obtain ⟨⟨queue, nextRef, heldBeacon, hline⟩, hframe⟩ := State.badFrame_outcome
    (s := { s with line := { s.line with rx := none, rxCharEnd := none } }) hs (s.ownMarkEnd x).ms
  simp only [State.abandonForOwn, hrx]
  exact ⟨⟨queue, nextRef, heldBeacon, hline⟩, hframe⟩

/-- A frame still in progress is counted as a bad frame as of the end of the station's own first character: the record, and
LINE when it shows an excess. -/
def CountsOwnMark (s : State) (x : Transmission) (l : Line) : Prop :=
  l.badFrames = appendBadFrame s.line.badFrames (s.ownMarkEnd x).ms ∧
    (badFrameExcess (appendBadFrame s.line.badFrames (s.ownMarkEnd x).ms) = true → s.line.stuck = false →
      l.lineRaised = true ∧ l.lineClearAt = some ((s.ownMarkEnd x).ms + 60000)) ∧
    (badFrameExcess (appendBadFrame s.line.badFrames (s.ownMarkEnd x).ms) = false →
      l.lineRaised = s.line.lineRaised ∧ l.lineClearAt = s.line.lineClearAt)

theorem CountsOwnMark.congr {s : State} {x : Transmission} {l m : Line} (h : CountsOwnMark s x l)
    (hb : m.badFrames = l.badFrames) (hr : m.lineRaised = l.lineRaised) (hc : m.lineClearAt = l.lineClearAt) :
    CountsOwnMark s x m := by
  obtain ⟨hrecord, hexcess, hnone⟩ := h
  refine ⟨hb.trans hrecord, fun hx hs => ?_, fun hx => ?_⟩
  · rw [hr, hc]
    exact hexcess hx hs
  · rw [hr, hc]
    exact hnone hx

theorem State.abandonForOwn_counts {s : State} {bytes : List Byte} (hs : s.sends = true) (hrx : s.line.rx = some bytes)
    (x : Transmission) : CountsOwnMark s x (s.abandonForOwn x).line := by
  obtain ⟨⟨queue, nextRef, heldBeacon, hline⟩, _⟩ := State.abandonForOwn_outcome hs hrx x
  rw [hline]
  refine ⟨rfl, fun hx hstuck => ?_, fun hx => ?_⟩
  · simp [hx, hstuck]
  · simp [hx]

theorem ownFirstCharacterAbandons : Claims.OwnFirstCharacterAbandons := by
  intro c bytes s x e hx hrx hs end_ record counted
  have counts : ∀ t : State, CountsOwnMark s x t.line → counted t := fun _ h => h
  have outcome (k : Instant) := State.abandonForOwn_outcome (s := { s with clock := k }) (by exact hs) (by exact hrx) x
  have count (k : Instant) : CountsOwnMark s x (State.abandonForOwn x { s with clock := k }).line :=
    State.abandonForOwn_counts (s := { s with clock := k }) (by exact hs) (by exact hrx) x
  refine ⟨fun hgood hmark hhead => ?_, fun hsound he hrole hk => ?_⟩
  · obtain ⟨k, hreach⟩ := State.reachInstant_eq end_ s
    have step : exec (.frameAbandoned c) s = answerNext ((s.reachInstant end_).abandonForOwn x) := by
      show answerNext _ = _
      have abandons : abandonsFrame bytes c = true := by simp [abandonsFrame, hmark]
      simp only [hrx, abandons, if_true, State.lineReceives, hx]
      rw [if_pos (by simp [Transmission.opensWith, hgood, hmark, hhead])]
      rfl
    refine completes_of_answer step ?_
    rw [hreach]
    obtain ⟨⟨queue, nextRef, heldBeacon, hline⟩, hframe⟩ := outcome k
    have tx : (State.abandonForOwn x { s with clock := k }).line.tx = some x := by rw [hline]; exact hx
    obtain ⟨ctx, _, _⟩ := conclude_of_no_wait (State.waitDue_none (.inl (by rw [tx]; rfl)))
    refine ⟨counts _ ((count k).congr ?_ ?_ ?_), ?_, ctx.trans tx, by simp, by simp, conclude_frame_of _ _ _ hframe⟩
    · simp
    · simp
    · simp
    · simp [hline]
  · obtain ⟨k, hreach⟩ := State.reachInstant_eq (x.start.plusUs (x.bytes.length * 11 * s.bitUs)) s
    obtain ⟨⟨queue, nextRef, heldBeacon, hline⟩, _⟩ := outcome k
    have quiet : s.line.quiet = none := hsound (by simp [hx])
    refine completes_of_answer (exec_sentIntact hx he) ?_
    rw [hreach]
    have sent : (State.sentIntact x e { s with clock := k }) =
        (State.countSent e (State.abandonForOwn x { s with clock := k })).hearSelf := by
      rw [State.sentIntact]
      dsimp only
      rw [State.blocksTake_unheard (.inr (.inl ⟨by simpa [State.countSent] using hrole, by simp [State.ownFrame, hk]⟩)),
        State.answerSent, if_neg (by simp [hk]), if_neg (by simp [hk])]
    obtain ⟨ctx, _, _⟩ := conclude_of_no_wait
      (s := (State.countSent e (State.abandonForOwn x { s with clock := k })).hearSelf)
      (State.waitDue_none (.inr (by simp [State.countSent, quiet])))
    rw [sent]
    refine ⟨counts _ ((count k).congr ?_ ?_ ?_), ?_, ctx⟩
    · simp [State.countSent]
    · simp [State.countSent]
    · simp [State.countSent]
    · simp [State.countSent, hline]

/-- Settles O17: each character is received at its end, and a frame given up is one bad frame. -/
theorem charactersAreCollected : Obligations.CharactersAreCollected :=
  ⟨startBitEndsQuiet, lineCharacterIsCollected, badFramesAreRecorded, ownFirstCharacterAbandons⟩

end Sys2Proof.Machine
end

section
/-! Frames taken intact: those of a peer, and those that bear the station's own number. -/

namespace Sys2Proof.Machine

/-- What R5 takes of a frame: a sender of the line, and a length field that the receiver lets pass. -/
theorem frameOf_bounds {bytes : List Byte} {f : Frame} (h : frameOf bytes = some f) :
    f.sender ≤ 31 ∧ fieldAt bytes 3 1 ≤ 48 := by
  unfold frameOf at h
  dsimp only at h
  split at h
  · cases h
  · rename_i kind _
    split at h
    · rename_i hc
      simp only [Bool.and_eq_true, decide_eq_true_eq, crc16Good] at hc
      obtain ⟨⟨⟨hlen, _⟩, hsender⟩, hbody⟩ := hc
      obtain rfl := Option.some.inj h
      have short := length_of_bodyAllowed hbody
      rw [List.length_take, List.length_drop] at short
      exact ⟨hsender, by omega⟩
    · cases h

/-- FRAME_RECEIVED with the last character of an intact frame: the station takes it at the character's end, out of frame. -/
theorem exec_frameReceived {c : LineChar} {f : Frame} {bytes : List Byte} {s : State} (hend : s.ending bytes c)
    (hf : frameOf (bytes ++ [c.data]) = some f) :
    ∃ u : State, exec (.frameReceived c) s = answerNext (u.takeFrame f) ∧ u.clock.ms = s.heardAt c ∧
      u =
        { s with
          clock := u.clock
          line := { s.line with
            rx := none, rxCharEnd := none, charEndsAt := none, quiet := none, wait := none,
            recessiveSince := u.line.recessiveSince } } := by
  obtain ⟨htx, hrx, hc⟩ := hend
  have bound := (frameOf_bounds hf).2
  obtain ⟨k, hk⟩ := s.characterEnds_eq c
  have ended : (s.characterEnds c).line.rx = some bytes := by simp [hrx]
  refine ⟨{ s.characterEnds c with line := { (s.characterEnds c).line with rx := none, rxCharEnd := none } }, ?_, rfl, ?_⟩
  · have received : s.lineReceives c = (s.characterEnds c).receiveChar c := by rw [State.lineReceives, htx]
    have taken : (s.characterEnds c).receiveChar c = (s.characterEnds c).frameEnds (bytes ++ [c.data]) := by
      have ends := hc
      simp only [endsFrame, Bool.and_eq_true, Bool.not_eq_true', decide_eq_true_eq] at ends
      obtain ⟨⟨⟨hgood, hmark⟩, hlen⟩, hlast⟩ := ends
      have field : fieldAt (bytes ++ [c.data]) 3 1 = fieldAt bytes 3 1 := (fieldAt_length bytes c.data).1 hlen
      simp only [State.receiveChar, ended, hgood, hmark, State.extendFrame]
      rw [if_neg (by simp; omega), if_pos (by simp [field]; omega)]
    show answerNext _ = _
    simp only [hrx, hc, if_true, received, taken, State.frameEnds, hf]
  · rw [hk]

/-! ### A frame of a peer -/

/-- Handing a peer change on leaves the entries and the beacon's period (R31). -/
theorem State.handOn_peers (f : Frame) (s before : State) :
    (s.handOn f before).peers.entries = s.peers.entries ∧ (s.handOn f before).peers.beaconAt = s.peers.beaconAt ∧
      (s.handOn f before).peers.adoptedId = s.peers.adoptedId ∧
      (s.handOn f before).peers.conflictSeen = s.peers.conflictSeen ∧ (s.handOn f before).settle = s.settle ∧
      (s.handOn f before).fault.raised = s.fault.raised := by
  have checked : ∀ u : State, u.duplicateCheck.peers.beaconAt = u.peers.beaconAt ∧
      u.duplicateCheck.peers.conflictSeen = u.peers.conflictSeen := by
    intro u
    unfold State.duplicateCheck
    split <;> simp
  have changed : (s.peerChange f.sender (before.changesFields f)).peers.beaconAt = s.peers.beaconAt ∧
      (s.peerChange f.sender (before.changesFields f)).peers.conflictSeen = s.peers.conflictSeen := by
    unfold State.peerChange
    split <;> simp [checked]
  unfold State.handOn
  split
  · simp [changed]
  · simp

/-- The terminal's beacon leaves the entries and the beacon's period. -/
theorem State.offerStationId_beaconAt (b : Beacon) (s : State) :
    (s.offerStationId b).peers.beaconAt = s.peers.beaconAt := by
  have conflict : s.stationConflict.peers.beaconAt = s.peers.beaconAt := by
    unfold State.stationConflict
    split <;> simp
  unfold State.offerStationId
  (repeat' split) <;> simp [conflict, State.adoptStation]

/-- The peer table after a frame of a peer (R28, R29). -/
theorem State.takeFromPeer_peers (f : Frame) (s : State) :
    (s.takeFromPeer f).peers.entries = s.peers.entries.set f.sender
      { state := .live, beacon := s.beaconAfter f, heard := some s.clock.ms, silenceAt := some (s.clock.ms + 6000) } ∧
      (s.takeFromPeer f).peers.beaconAt = s.peers.beaconAt := by
  have heard : (s.peerHears f).peers.entries = s.peers.entries.set f.sender
      { state := .live, beacon := s.beaconAfter f, heard := some s.clock.ms, silenceAt := some (s.clock.ms + 6000) } ∧
      (s.peerHears f).peers.beaconAt = s.peers.beaconAt := by
    unfold State.peerHears
    dsimp only
    split
    · simp [State.offerStationId_beaconAt, State.setPeer]
    · simp [State.setPeer]
  unfold State.takeFromPeer
  dsimp only
  split
  · simp [State.handOn_peers, heard]
  · simp [State.handOn_peers, heard]

theorem frameFromAPeerIsHeard : Claims.FrameFromAPeerIsHeard := by
  intro c f s htakes _
  obtain ⟨bytes, hend, hf, hother⟩ := htakes
  obtain ⟨u, step, hclock, hu⟩ := exec_frameReceived hend hf
  have other : u.isOwnEntry f.sender = false := by
    rw [hu]
    exact hother
  have after : u.beaconAfter f = if f.kind = .bcn then some (bcnOf f.body) else (s.storedPeer f.sender).beacon := by
    rw [hu]
    rfl
  have upeers : u.peers = s.peers := by rw [hu]
  have uline : u.line.rx = none ∧ u.line.serial = s.line.serial ∧ u.line.badFrames = s.line.badFrames := by
    rw [hu]
    exact ⟨rfl, rfl, rfl⟩
  obtain ⟨hrx, hserial, hbad⟩ := uline
  have taken : u.takeFrame f = { u with line := { u.line with lastSender := f.sender } }.takeFromPeer f := by
    simp [State.takeFrame, other]
  have works : Works { u with line := { u.line with lastSender := f.sender } } (u.takeFrame f) := by
    rw [taken]
    exact (Works.refl _).takeFromPeer
  obtain ⟨entries, beaconAt⟩ :=
    State.takeFromPeer_peers f { u with line := { u.line with lastSender := f.sender } }
  rw [← taken] at entries beaconAt
  have sender : (u.takeFrame f).line.lastSender = f.sender := congrArg Line.lastSender works.line
  have bad : (u.takeFrame f).line.badFrames = s.line.badFrames := (congrArg Line.badFrames works.line).trans hbad
  have heard : (conclude (u.takeFrame f)).peers = (u.takeFrame f).peers := by simp
  refine completes_of_answer step ⟨by simp [hrx], by simp [sender], by simp [hserial], by simp [bad], ?_, ?_⟩
  · rw [heard, entries, ← hclock, ← after, ← upeers]
    rfl
  · rw [heard, beaconAt, ← upeers]

/-! ### The own number heard -/

theorem State.removeBusy_foldl_classZero (l : List TxEntry) (s : State) (hc : s.line.clash = true) (e : TxEntry)
    (he : e ∈ (l.foldl (fun s e => s.removeBusy e) s).line.queue) (h0 : e.kind.cls = 0) :
    (∃ x ∈ s.line.queue, x.ref = e.ref ∧ x.kind = e.kind) ∧ ∀ y ∈ l, y.ref ≠ e.ref := by
  induction l generalizing s with
  | nil => exact ⟨⟨e, he, rfl, rfl⟩, nofun⟩
  | cons y l ih =>
    obtain ⟨⟨x, hx, href, hkind⟩, hl⟩ := ih (s.removeBusy y) (by simpa using hc) he
    have works : Works { s with line := { s.line with queue := removeEntry y.ref s.line.queue } } (s.removeBusy y) :=
      (Works.refl _).answerBusy
    obtain ⟨z, hz, hzref, hzkind⟩ := works.classZero hc x hx (hkind ▸ h0)
    obtain ⟨hmem, hne⟩ := mem_removeEntry.1 hz
    refine ⟨⟨z, hmem, hzref.trans href, hzkind.trans hkind⟩, fun w hw => ?_⟩
    rcases List.mem_cons.1 hw with rfl | hw
    · exact fun heq => hne (hzref.trans (href.trans heq.symm))
    · exact hl w hw

/-- Under the clash mark, with nothing in transmission, no class 0 entry stays queued (R19). -/
theorem State.clearClassZero_queue {s : State} (hc : s.line.clash = true) (ht : s.line.tx = none) :
    ∀ e ∈ s.clearClassZero.line.queue, e.kind.cls ≠ 0 := by
  intro e he h0
  obtain ⟨⟨x, hx, href, hkind⟩, hgone⟩ := State.removeBusy_foldl_classZero _ s hc e he h0
  exact hgone x (by simp [hx, hkind, h0, Line.inTransmission, ht]) href

/-- The conclusion keeps the kinds queued. -/
theorem conclude_kinds (s : State) : (conclude s).line.queue.map TxEntry.kind = s.line.queue.map TxEntry.kind := by
  rw [conclude, State.chooseLamp_eq]
  exact s.followHead_refs.2

/-- A post that reports a fault raised holds it (R159). -/
theorem State.raisePost_raised {s : State} (hp : s.isPost = true) (f : PostFault) : f ∈ (s.raisePost f).fault.raised := by
  unfold State.raisePost
  split
  · rw [State.evaluateSince_eq]
    simp
  · rename_i h
    simpa [hp] using h

theorem State.setClash_queue {s : State} (ht : s.line.tx = none) : ∀ e ∈ s.setClash.line.queue, e.kind.cls ≠ 0 := by
  intro e he h0
  have works : Works { s with line := { s.line with clash := true } }.clearClassZero s.setClash := (Works.refl _).raisePost
  obtain ⟨x, hx, _, hkind⟩ := works.classZero (by simp) e he h0
  exact State.clearClassZero_queue (s := { s with line := { s.line with clash := true } }) rfl ht x hx (hkind ▸ h0)

theorem State.setClash_clash (s : State) : s.setClash.line.clash = true := by simp [State.setClash]

theorem ownNumberHeardIsAClash : Claims.OwnNumberHeardIsAClash := by
  intro c f bytes s hend hf hs hown
  obtain ⟨u, step, _, hu⟩ := exec_frameReceived hend hf
  obtain ⟨htx, _, _⟩ := hend
  have own : u.isOwnEntry f.sender = true := by
    rw [hu, State.isOwnEntry, Bool.and_eq_true, decide_eq_true_eq]
    exact ⟨hs, hown⟩
  have taken : u.takeFrame f = { u with line := { u.line with lastSender := f.sender } }.setClash := by
    simp [State.takeFrame, own]
  have queue := State.setClash_queue (s := { u with line := { u.line with lastSender := f.sender } })
    (by rw [hu]; exact htx)
  refine completes_of_answer step ?_
  rw [taken]
  refine ⟨?_, ?_, ?_, ?_, ?_, ?_, ?_, ?_, ?_, ?_, ?_⟩
  · simpa using hown
  · simp [State.setClash_clash]
  · intro e he
    have hmem : e.kind ∈ (conclude ({ u with line := { u.line with lastSender := f.sender } }.setClash)).line.queue.map
        TxEntry.kind := List.mem_map_of_mem he
    rw [conclude_kinds] at hmem
    obtain ⟨x, hx, hkind⟩ := List.mem_map.1 hmem
    rw [← hkind]
    exact queue x hx
  · rw [hu]; simp
  · rw [hu]; simp
  · rw [hu]; simp
  · rw [hu]; simp
  · rw [hu]; simp
  · rw [hu]; simp
  · rw [hu]; simp
  · intro hp
    have upost : u.isPost = true := by rw [hu]; exact hp
    have raised := State.raisePost_raised
      (s := ({ u with line := { u.line with lastSender := f.sender, clash := true } } : State).clearClassZero)
      (by simpa [State.isPost] using upost) .clash
    simpa [State.setClash] using raised

/-! ### The station id -/

theorem State.setSlot_slot (name n : SlotName) (slot : Option Slot) (s : State) :
    (s.setSlot name slot).settle.slot n = if n = name then slot else s.settle.slot n := by
  cases name <;> cases n <;> rfl

theorem State.setPhase_slot (name n : SlotName) (phase : SlotPhase) (s : State) :
    (s.setPhase name phase).settle.slot n =
      if n = name then (s.settle.slot name).map (fun slot => { slot with phase := phase }) else s.settle.slot n := by
  unfold State.setPhase
  split
  · rename_i slot hslot
    simp [State.setSlot_slot, hslot]
  · rename_i hslot
    split
    · rename_i hn
      simp [hn, hslot]
    · rfl

/-- A slot that leaves GATHERING enters RATING, and no other slot moves (R133). -/
theorem State.leaveGathering_slot (name n : SlotName) (s : State) :
    (s.leaveGathering name).settle.slot n = s.settle.slot n ∨
      n = name ∧ ∃ r inputs at_, (s.leaveGathering name).settle.slot n = some { record := r, phase := .rating inputs at_ } := by
  unfold State.leaveGathering State.enterRating
  split
  · split
    · rename_i slot hslot
      split
      · rename_i inputs hinputs
        rw [State.setPhase_slot]
        by_cases hn : n = name
        · rw [if_pos hn, hslot]
          exact .inr ⟨hn, slot.record, inputs, _, rfl⟩
        · rw [if_neg hn]
          exact .inl rfl
      · exact .inl rfl
    · exact .inl rfl
  · exact .inl rfl

/-- The slot waits in GATHERING for the station id (R132). -/
def SettlementUnit.waitsForStation (u : SettlementUnit) (name : SlotName) : Prop :=
  ∃ r time tariff at_, u.slot name = some { record := r, phase := .gathering time tariff true at_ }

/-- Marks that clear STATION leave the marked slot waiting for no station id. -/
theorem State.markSlot_waits {f : ReturnRecord → Bool × Bool × Bool → Bool × Bool × Bool}
    (hf : ∀ r m, (f r m).2.2 = false) (name n : SlotName) (s : State)
    (h : (s.markSlot f name).settle.waitsForStation n) : n ≠ name ∧ s.settle.waitsForStation n := by
  obtain ⟨r, time, tariff, at_, hslot⟩ := h
  unfold State.markSlot at hslot
  split at hslot
  · rcases State.leaveGathering_slot name n _ with heq | ⟨_, r', inputs, at', heq⟩
    · rw [heq, State.setPhase_slot] at hslot
      split at hslot
      · rename_i hmarked _
        rw [hmarked] at hslot
        simp [hf] at hslot
      · rename_i hn
        exact ⟨hn, r, time, tariff, at_, hslot⟩
    · rw [heq] at hslot
      cases hslot
  · rename_i hother
    refine ⟨fun hn => ?_, r, time, tariff, at_, hslot⟩
    exact hother _ _ _ _ _ (hn ▸ hslot)

/-- No slot waits for a station id that is adopted (R32, R132). -/
theorem State.adoptStation_waits (id : Nat) (s : State) (n : SlotName) :
    ¬ (s.adoptStation id).settle.waitsForStation n := by
  intro h
  obtain ⟨hb, h⟩ := State.markSlot_waits (fun _ _ => rfl) .b n _ h
  obtain ⟨ha, _⟩ := State.markSlot_waits (fun _ _ => rfl) .a n _ h
  cases n
  · exact ha rfl
  · exact hb rfl

/-- No listening block takes a beacon into the settlement unit, the peer table or the post faults. -/
theorem State.blocksTake_beacon {f : Frame} (hk : f.kind = .bcn) (own : Option Nat) (s : State) :
    (s.blocksTake f own).settle = s.settle ∧ (s.blocksTake f own).peers = s.peers ∧
      (s.blocksTake f own).fault.raised = s.fault.raised := by
  have settle : (s.blocksTake f own).settle = s.settle := by
    unfold State.blocksTake
    split
    · simp [State.postTakes, hk]
    · simp [State.terminalTakes, hk]
    · simp [State.vanTakes, hk]
    · simp [State.monitorTakes, hk]
  exact ⟨settle, by simp, by simp⟩

/-- A beacon of a peer goes to the peer table, and what the table hands on changes neither the station id nor the slots. -/
theorem State.takeFromPeer_beacon {f : Frame} (hk : f.kind = .bcn) (s : State) :
    (s.takeFromPeer f).settle = (s.peerHears f).settle ∧
      (s.takeFromPeer f).peers.adoptedId = (s.peerHears f).peers.adoptedId ∧
      (s.takeFromPeer f).peers.conflictSeen = (s.peerHears f).peers.conflictSeen ∧
      (s.takeFromPeer f).fault.raised = (s.peerHears f).fault.raised := by
  have handed := State.handOn_peers f (s.peerHears f) s
  obtain ⟨_, _, hid, hseen, hsettle, hraised⟩ := handed
  obtain ⟨settle, peers, raised⟩ := State.blocksTake_beacon hk none ((s.peerHears f).handOn f s)
  have taken : s.takeFromPeer f = ((s.peerHears f).handOn f s).blocksTake f none := by
    simp [State.takeFromPeer, hk]
  rw [taken, settle, peers, raised]
  exact ⟨hsettle, hid, hseen, hraised⟩

/-- A different station id at a post that has one (R33). -/
theorem State.stationConflict_raises {s : State} (hp : s.isPost = true) (hseen : s.peers.conflictSeen = false) :
    s.stationConflict.peers.conflictSeen = true ∧ .idConf ∈ s.stationConflict.fault.raised := by
  have raised := State.raisePost_raised (s := { s with peers := { s.peers with conflictSeen := true } }) hp .idConf
  simp only [State.stationConflict, hp, hseen, Bool.not_false, Bool.and_true, if_true]
  exact ⟨by simp, raised⟩

theorem terminalBeaconGivesTheStationId : Claims.TerminalBeaconGivesTheStationId := by
  intro c f s htakes hk hzero hrole hcode hid
  obtain ⟨bytes, hend, hf, hother⟩ := htakes
  obtain ⟨u, step, _, hu⟩ := exec_frameReceived hend hf
  have other : u.isOwnEntry f.sender = false := by
    rw [hu]
    exact hother
  have taken : u.takeFrame f = { u with line := { u.line with lastSender := f.sender } }.takeFromPeer f := by
    simp [State.takeFrame, other]
  obtain ⟨settle, adopted, seen, raised⟩ :=
    State.takeFromPeer_beacon hk { u with line := { u.line with lastSender := f.sender } }
  rw [← taken] at settle adopted seen raised
  have heard : ∃ v : State, State.peerHears f { u with line := { u.line with lastSender := f.sender } } =
      v.offerStationId (bcnOf f.body) ∧ v.straps = s.straps ∧ v.settle = s.settle ∧
      v.peers.adoptedId = s.peers.adoptedId ∧ v.peers.conflictSeen = s.peers.conflictSeen := by
    refine ⟨_, by rw [State.peerHears, if_pos (by simp [hk, hzero])], ?_, ?_, ?_, ?_⟩ <;> rw [hu] <;> rfl
  obtain ⟨v, hv, vstraps, vsettle, vid, vseen⟩ := heard
  rw [hv] at settle adopted seen raised
  have offered : v.offerStationId (bcnOf f.body) =
      if v.peers.adoptedId = 0 then v.adoptStation (fieldAt f.body 17 2)
      else if v.peers.adoptedId ≠ fieldAt f.body 17 2 then v.stationConflict else v := by
    rw [State.offerStationId, if_neg]
    · rfl
    · simp [State.isTerminal, vstraps, hrole, bcnOf, hcode, hid, roleCode]
  rw [offered, vid] at settle adopted seen raised
  refine ⟨fun hnone => completes_of_answer step ?_, fun hone hdiff => completes_of_answer step ?_⟩
  · rw [if_pos hnone] at settle adopted
    refine ⟨by simp [adopted, State.adoptStation], fun name r time tariff station at_ hslot => ?_⟩
    cases station
    · rfl
    · refine absurd ?_ (State.adoptStation_waits (fieldAt f.body 17 2) v name)
      rw [← settle]
      exact ⟨r, time, tariff, at_, by simpa using hslot⟩
  · rw [if_neg hone, if_pos hdiff] at settle adopted seen raised
    refine ⟨by simp [adopted, vid], by simp [settle, vsettle], fun hp hseen => ?_⟩
    obtain ⟨hmark, hraise⟩ :=
      State.stationConflict_raises (s := v) (by simpa [State.isPost, vstraps] using hp) (vseen.trans hseen)
    exact ⟨by simp [seen, hmark], by simpa [raised] using hraise⟩

/-- Settles O18: the receiver hands an intact frame to the peer table, or to the clash of its own number. -/
theorem framesFromPeersAndClashes : Obligations.FramesFromPeersAndClashes :=
  ⟨frameFromAPeerIsHeard, ownNumberHeardIsAClash, terminalBeaconGivesTheStationId⟩

end Sys2Proof.Machine
end

section
/-! A stuck line keeps the entries outside transmission only where no two frames share a reference (log 16). The statement
of O16 does not ask that of the state, and a state with a shared reference refutes it: the beacon body held aside is offered
anew (R9) into every entry with the reference of the queued beacon. Every step keeps the references apart (O7). -/

namespace Sys2Proof.Machine

/-- An FLT outside transmission that has the reference of the second beacon of `sharedReference`. -/
def sharedFlt : TxEntry := { kind := .flt, body := [], ref := 1, queuedAt := 0, deadline := 5000 }

/-- A terminal whose beacon in transmission (reference 0) has reached its deadline, with a newer body held aside for it, and
behind it a second beacon with the reference of a queued FLT. -/
def sharedReference : State :=
  { State.atRelease { role := .terminal, number := 0, rateHigh := false } false false false [] with
    line :=
      { Line.afterReset { role := .terminal, number := 0, rateHigh := false } with
        queue :=
          [sharedFlt, { kind := .bcn, body := [], ref := 0, queuedAt := 0, deadline := 0 },
            { kind := .bcn, body := [], ref := 1, queuedAt := 0, deadline := 5000 }]
        heldBeacon := some [0xFF]
        tx := some { ref := 0, bytes := [], start := { ms := 0, us := 0 } }
        nextRef := 2 } }

/-- The stuck line ends the attempt, the beacon in transmission is removed, and the body held aside reaches the FLT. -/
theorem sharedReference_stuck :
    ∃ u, exec .stuckLine sharedReference = .next (conclude u) ∧
      (conclude u).line.queue =
        [{ sharedFlt with body := [0xFF] },
          { kind := .bcn, body := [0xFF], ref := 1, queuedAt := 0, deadline := 5000 }] :=
  ⟨sharedReference.detectStuck, rfl, rfl⟩

/-- Refutes O16: with a reference shared, an FLT outside transmission does not stay queued as it was. -/
theorem not_stuckLineAndItsFault : ¬ Obligations.StuckLineAndItsFault := by
  rintro ⟨hstuck, _⟩
  obtain ⟨t, step, _, _, _, _, _, _, _, _, keeps⟩ := (hstuck sharedReference rfl rfl).1 rfl
  obtain ⟨kept, _⟩ := keeps (.inl rfl)
  obtain ⟨u, computed, queue⟩ := sharedReference_stuck
  obtain rfl : conclude u = t := by simpa [computed] using step
  have flt_kept : sharedFlt ∈ (conclude u).line.queue :=
    kept sharedFlt List.mem_cons_self rfl (.inl (by decide))
  rw [queue] at flt_kept
  exact absurd flt_kept (by decide)

end Sys2Proof.Machine
end

section
/-! The own beacon's flags, the silence of a peer, and the duplicate-bike condition. -/

namespace Sys2Proof.Machine

/-! ### The own beacon (R24, R26) -/

theorem State.copyId_eq_some_iff {s : State} {i : IdSection} :
    s.copyId = some i ↔ s.tag.copy.state = .held ∧ s.tag.copy.id = .good i := by
  unfold State.copyId
  split <;> simp_all

theorem State.copyHire_eq_some_iff {s : State} {h : HireSection} :
    s.copyHire = some h ↔ s.tag.copy.state = .held ∧ s.tag.copy.hire = .good h := by
  unfold State.copyHire
  split <;> simp_all

/-- The tag condition for hire (R86): the two sections read good, and the mark is one from which a hire may start. -/
theorem State.tagCondition_iff {s : State} :
    s.tagCondition = true ↔
      ∃ i h, s.copyId = some i ∧ s.copyHire = some h ∧ (h.mark = .closed ∨ h.mark = .returned) := by
  unfold State.tagCondition
  split <;> simp_all

/-- Settles O28: the flag is the docked flag, the tag condition and the fault level below 2. -/
theorem hireableFlag : Obligations.HireableFlag := by
  intro s hpost
  have flag : s.ownBeacon.hireable = s.hireable := by rw [State.ownBeacon, if_pos hpost]; rfl
  have level : s.bikeLevel < 2 ↔ s.bikeLevel = 0 ∨ s.bikeLevel = 1 := by omega
  simp only [flag, State.hireable, Bool.and_eq_true, decide_eq_true_eq, State.tagCondition_iff,
    State.copyId_eq_some_iff, State.copyHire_eq_some_iff, level, and_assoc]
  constructor
  · rintro ⟨docked, ⟨i, h, held, hid, _, hhire, mark⟩, low⟩
    exact ⟨docked, ⟨i, h, held, hid, hhire, mark⟩, low⟩
  · rintro ⟨docked, ⟨i, h, held, hid, hhire, mark⟩, low⟩
    exact ⟨docked, ⟨i, h, held, hid, held, hhire, mark⟩, low⟩

/-- Settles O29: neither role is a post, so the beacon is the one of R26. -/
theorem hostStationsBeacon : Obligations.HostStationsBeacon := by
  rintro s (hr | hr)
  · simp [State.ownBeacon, State.isPost, State.hostBeacon, State.isTerminal, State.lineFaultLevel, hr, roleCode,
      HireState.code]
  · simp [State.ownBeacon, State.isPost, State.hostBeacon, State.isTerminal, State.lineFaultLevel, hr, roleCode,
      HireState.code]

/-! ### Peer changes (R31) -/

/-- An event is taken while fewer than 64 are held (R187). -/
theorem State.appendEvent_room {s : State} (h : s.port.events.length < 64) (e : Event) :
    s.appendEvent e = { s with port := { s.port with events := s.port.events ++ [e] } } := if_pos h

theorem State.setPeer_storedPeer {s : State} {n : Nat} (hn : n < s.peers.entries.length) (p : Peer) :
    (s.setPeer n p).storedPeer n = p := (getD_set_of_lt _ _ _ _ hn).trans (if_pos rfl)

/-- The host of a terminal or a van is told of a peer change. -/
theorem State.peerChange_told {s : State} (hr : s.straps.role = .terminal ∨ s.straps.role = .van)
    (hroom : s.port.events.length < 64) (n : Nat) (changed : Bool) :
    s.peerChange n changed =
      { s with
        port := { s.port with
          events := s.port.events ++
            [{ at_ := s.clock.ms, body := .peerChange n (s.storedPeer n).state changed }] } } := by
  rcases hr with hr | hr
  · simp only [State.peerChange, hr, State.appendEvent_room hroom]
  · simp only [State.peerChange, hr, State.appendEvent_room hroom]

/-- The entry that has gone SILENT (R30). -/
def Peer.silenced (p : Peer) : Peer := { p with state := .silent, silenceAt := none }

/-- A peer's silence leaves its entry SILENT, and reaches no block but those R31 and R166 name. -/
theorem State.goSilent_frame (n : Nat) (s : State) :
    (s.goSilent n).peers.entries = s.peers.entries.set n (s.storedPeer n).silenced ∧
      (s.goSilent n).peers.adoptedId = s.peers.adoptedId ∧
      ({ peers := true, fault := true, van := true, port := true } : Touched).frame s (s.goSilent n) := by
  unfold State.goSilent
  dsimp only
  split <;> simp [Touched.frame, State.setPeer, Peer.silenced]

/-- The terminal and the van tell their hosts of a peer's silence. -/
theorem State.goSilent_told {s : State} {n : Nat} (hr : s.straps.role = .terminal ∨ s.straps.role = .van)
    (hn : n < s.peers.entries.length) (hroom : s.port.events.length < 64) :
    (s.goSilent n).port.events =
      s.port.events ++ [{ at_ := s.clock.ms, body := .peerChange n .silent false }] := by
  have hpost : s.straps.role ≠ .post := by rcases hr with hr | hr <;> simp [hr]
  have kept : s.goSilent n = (s.setPeer n (s.storedPeer n).silenced).peerChange n false := by
    simp [State.goSilent, State.isPost, hpost, Peer.silenced]
  rw [kept, State.peerChange_told (by simpa using hr) (by simpa using hroom), State.setPeer_storedPeer hn]
  simp [Peer.silenced]

theorem silenceTimerMakesAPeerSilent : Claims.SilenceMakesAPeerSilent := by
  intro n s due hlen hlive hdue
  have hn : n.toNat < s.peers.entries.length := hlen ▸ n.isLt
  refine ⟨fun hother => ?_, fun hown hsettled => ?_⟩
  · obtain ⟨k, hk⟩ := s.reachMs_eq due
    have step : exec (.silenceTimerExpiry n) s = answerNext (State.goSilent n.toNat (s.reachMs due)) := by
      show answerNext (s.silenceDue n.toNat) = _
      simp [State.silenceDue, hlive, hdue, hother]
    obtain ⟨entries, adopted, frame⟩ := State.goSilent_frame n.toNat (s.reachMs due)
    rw [hk] at step entries adopted frame ⊢
    refine completes_of_answer step ⟨?_, ?_, fun hr hroom => ?_, conclude_frame_of _ _ _ frame⟩
    · simpa [Peer.silenced, State.storedPeer] using entries
    · simpa using adopted
    · have told := State.goSilent_told (s := { s with clock := k }) (n := n.toNat) hr hn hroom
      simpa using told
  · show answerNext (s.silenceDue n.toNat) = _
    have stays : s.silenceDue n.toNat = s := by simp [State.silenceDue, hlive, hdue, hown]
    rw [stays, answerNext, conclude_of_settled s hsettled]

/-! ### The duplicate-bike condition (R34, R35) -/

/-- The duplicate-bike check finds the condition as it was. -/
theorem State.duplicateCheck_unchanged {s : State} (h : s.peers.duplicate = s.duplicateCondition) :
    s.duplicateCheck = s := by
  cases hc : s.duplicateCondition <;> simp [State.duplicateCheck, h, hc]

/-- The condition begins: it is held, its hold timer is cancelled, and DUPLICATE is raised. -/
theorem State.duplicateCheck_begins {s : State} (h : s.peers.duplicate = false) (hc : s.duplicateCondition = true) :
    s.duplicateCheck =
      State.raiseDuplicate { s with peers := { s.peers with duplicate := true, duplicateHoldAt := none } } := by
  simp [State.duplicateCheck, h, hc]

theorem State.duplicateCheck_ends {s : State} (h : s.peers.duplicate = true) (hc : s.duplicateCondition = false) :
    s.duplicateCheck =
      { s with peers := { s.peers with duplicate := false, duplicateHoldAt := some (s.clock.ms + 60000) } } := by
  simp [State.duplicateCheck, h, hc]

/-- DUPLICATE held already is raised without an FLT (R151). -/
theorem State.raiseDuplicate_of_held {s : State} (h : s.fault.duplicate = true) : s.raiseDuplicate = s := if_pos h

/-- DUPLICATE not held is held with one FLT, and the own offer is evaluated upon the change of the fault level. -/
theorem State.raiseDuplicate_of_clear {s : State} (h : s.fault.duplicate = false) :
    s.raiseDuplicate =
      (State.offerAutoFlt 11 2 { s with fault := { s.fault with duplicate := true } }).evaluateSince s :=
  if_neg (by simp [h])

theorem State.raiseDuplicate_fault (s : State) : s.raiseDuplicate.fault = { s.fault with duplicate := true } := by
  cases h : s.fault.duplicate
  · rw [State.raiseDuplicate_of_clear h]
    simp [State.offerAutoFlt]
  · rw [State.raiseDuplicate_of_held h, ← h]

theorem duplicateBikeIsHeld : Claims.DuplicateBikeIsHeld := by
  intro s
  refine ⟨fun hd hc => ?_, State.duplicateCheck_ends, State.duplicateCheck_unchanged⟩
  rw [State.duplicateCheck_begins hd hc]
  refine ⟨by simp, State.raiseDuplicate_fault _, fun hheld => ?_, fun hclear hrefuses hqueue hwindow i hi => ?_⟩
  · rw [State.raiseDuplicate_of_held (by exact hheld)]
  · rw [State.raiseDuplicate_of_clear (by exact hclear),
      State.evaluateSince_of_none _ _ (.inl (by simpa [State.offerAutoFlt])), State.offerAutoFlt, State.send,
      State.offer_room _ _ _ (by exact hrefuses) (by simp) (by simp [hqueue])]
    have bike : (s.copyId.map IdSection.bikeId).getD 0 = i.bikeId := by rw [hi]; rfl
    rw [← bike, hqueue]
    simp [insertEntry, State.newEntry, fltBody, FaultSource.code, deadlineMs, Kind.cls, State.number, State.copyId]

theorem duplicateHoldEnds : Claims.DuplicateHoldEnds := by
  intro s due hdue ended
  obtain ⟨k, hk⟩ := s.reachMs_eq due
  have cause : evaluationCaused (s.reachMs due) ended = evaluationCaused s ended := by
    rw [hk]
    rfl
  have same : ended = { s.reachMs due with
      peers := { (s.reachMs due).peers with duplicateHoldAt := none }
      fault := { (s.reachMs due).fault with duplicate := false } } := by simp [ended]
  show answerNext s.duplicateHoldEnds = answerNext _
  refine congrArg answerNext ?_
  simp only [State.duplicateHoldEnds, hdue, ← same, State.evaluateSince, cause]

/-- Settles O31: the silence of an entry, the check of the condition, and the end of its hold. -/
theorem silenceMakesAPeerSilent : Obligations.SilenceMakesAPeerSilent :=
  ⟨silenceTimerMakesAPeerSilent, duplicateBikeIsHeld, duplicateHoldEnds⟩

end Sys2Proof.Machine
end

section
/-! What a frame of a peer tells the host of the terminal, the van and a monitor. -/

namespace Sys2Proof.Machine

/-! ### A frame of a peer at the blocks -/

/-- FRAME_RECEIVED with the last character of a frame of a peer hands the frame on at that character's end. -/
theorem State.takes.step {c : LineChar} {f : Frame} {s : State} (h : s.takes c f) :
    ∃ (k : Instant) (l : Line),
      exec (.frameReceived c) s = answerNext (State.takeFromPeer f { s with clock := k, line := l }) ∧
        k.ms = s.heardAt c ∧ l.queue = s.line.queue ∧ l.nextRef = s.line.nextRef ∧ l.clash = s.line.clash := by
  obtain ⟨bytes, hend, hf, hother⟩ := h
  obtain ⟨u, step, hclock, hu⟩ := exec_frameReceived hend hf
  obtain ⟨k, r, rfl⟩ : ∃ k r, u =
      { s with
        clock := k
        line := { s.line with
          rx := none, rxCharEnd := none, charEndsAt := none, quiet := none, wait := none, recessiveSince := r } } :=
    ⟨_, _, hu⟩
  refine ⟨k,
    { s.line with
      rx := none, rxCharEnd := none, charEndsAt := none, quiet := none, wait := none, recessiveSince := r
      lastSender := f.sender }, ?_, hclock, rfl, rfl, rfl⟩
  rw [step, State.takeFrame, if_neg (by exact ne_true_of_eq_false hother)]

theorem State.takes.sender_lt {c : LineChar} {f : Frame} {s : State} (h : s.takes c f) : f.sender < 32 := by
  obtain ⟨bytes, _, hf, _⟩ := h
  exact Nat.lt_succ_of_le (frameOf_bounds hf).1

/-- The sender's entry is LIVE and heard at `at_`, its beacon as it was (R28). -/
def State.hearFrom (n : Nat) (at_ : Ms) (s : State) : State :=
  s.setPeer n
    { state := .live, beacon := (s.storedPeer n).beacon, heard := some at_, silenceAt := some (at_ + 6000) }

@[simp] theorem State.hearFrom_frame (n : Nat) (at_ : Ms) (s : State) :
    (s.hearFrom n at_).straps = s.straps ∧ (s.hearFrom n at_).clock = s.clock ∧ (s.hearFrom n at_).line = s.line ∧
      (s.hearFrom n at_).van = s.van ∧ (s.hearFrom n at_).port = s.port := ⟨rfl, rfl, rfl, rfl, rfl⟩

theorem State.peerHears_of_notice {f : Frame} (hk : f.kind ≠ .bcn) (s : State) :
    s.peerHears f = s.hearFrom f.sender s.clock.ms := by
  simp [State.peerHears, State.beaconAfter, hk, State.hearFrom]

/-- A notice of a LIVE sender makes no peer change, and goes to the blocks alone (R31). -/
theorem State.takeFromPeer_of_live {f : Frame} {s : State} (hk : f.kind ≠ .bcn)
    (hlive : (s.storedPeer f.sender).state = .live) :
    s.takeFromPeer f = (s.hearFrom f.sender s.clock.ms).blocksTake f none := by
  have unchanged : s.makesPeerChange f = false := by
    simp [State.makesPeerChange, hlive, State.changesFields, State.beaconAfter, hk]
  simp [State.takeFromPeer, State.handOn, unchanged, State.peerHears_of_notice hk]

theorem State.peerHears_entries (f : Frame) (s : State) :
    (s.peerHears f).peers.entries = s.peers.entries.set f.sender
      { state := .live, beacon := s.beaconAfter f, heard := some s.clock.ms, silenceAt := some (s.clock.ms + 6000) } := by
  unfold State.peerHears
  dsimp only
  split <;> simp [State.setPeer]

theorem State.peerHears_port (f : Frame) (s : State) : (s.peerHears f).port = s.port := by
  unfold State.peerHears
  dsimp only
  split <;> simp

/-- R167's tests of an OFR, one by one. -/
theorem VanWindow.admits_iff (w : VanWindow) (sender : Nat) (body : List Byte) :
    w.admits sender body = true ↔
      fieldAt body 0 1 = w.serial ∧ 1 ≤ sender ∧ sender ≤ 30 ∧ (w.mode = .deliver → fieldAt body 1 4 = 0) ∧
        w.accepts sender = false ∧ w.accepted.length < w.places := by
  have mode : (w.mode = .collect ∨ fieldAt body 1 4 = 0) ↔ (w.mode = .deliver → fieldAt body 1 4 = 0) := by
    cases w.mode <;> simp
  simp only [VanWindow.admits, Bool.and_eq_true, Bool.or_eq_true, decide_eq_true_eq, Bool.not_eq_true', mode, and_assoc,
    eq_comm (a := w.serial)]

/-! ### Events (Table 11-4) -/

/-- The port with one event more. -/
def LocalPort.told (p : LocalPort) (at_ : Ms) (body : EventBody) : LocalPort :=
  { p with events := p.events ++ [{ at_ := at_, body := body }] }

theorem State.appendEvent_told {s : State} (h : s.port.events.length < 64) (at_ : Ms) (body : EventBody) :
    (s.appendEvent { at_ := at_, body := body }).port = s.port.told at_ body := by
  rw [State.appendEvent_room h]
  rfl

/-- A notice of a LIVE sender tells the host what the role's blocks tell it, whatever the line and the peer table hold. -/
theorem State.takes.tells {c : LineChar} {f : Frame} {s : State} {body : EventBody} (h : s.takes c f)
    (hk : f.kind ≠ .bcn) (hlive : (s.storedPeer f.sender).state = .live)
    (hb : ∀ (k : Instant) (l : Line) (p : PeerTable), k.ms = s.heardAt c →
      (State.blocksTake f none { s with clock := k, line := l, peers := p }).port = s.port.told k.ms body) :
    completes (.frameReceived c) s (fun t => t.port = s.port.told (s.heardAt c) body) := by
  obtain ⟨k, l, step, hclock, _⟩ := h.step
  refine completes_of_answer step ?_
  rw [State.takeFromPeer_of_live hk (by exact hlive), ← hclock]
  simp only [conclude_frame]
  exact hb k l _ hclock

theorem State.daySpend_congr {s t : State} (ht : t.time = s.time) (hc : t.clock.ms = s.clock.ms) (e : ViewEntry) :
    t.daySpend e = s.daySpend e := by
  unfold State.daySpend State.timeUnset State.today State.presentSecond State.presentMs
  rw [ht, hc]

/-- A monitor tells its host of every frame, beacons and unheard senders included (R187). -/
theorem State.takes.tells_monitor {c : LineChar} {f : Frame} {s : State} (h : s.takes c f) (hroom : s.port.events.length < 64)
    (hr : s.straps.role = .monitor) :
    completes (.frameReceived c) s (fun t => t.port = s.port.told (s.heardAt c) (.heard f.kind f.sender f.serial f.body)) := by
  obtain ⟨k, l, step, hclock, _⟩ := h.step
  refine completes_of_answer step ?_
  have heard (u : State) (hu : u.straps.role = .monitor) : u.takeFromPeer f = (u.peerHears f).monitorTakes f := by
    have silent : (u.peerHears f).handOn f u = u.peerHears f := by
      simp [State.handOn, State.peerChange, hu]
    simp [State.takeFromPeer, State.isPost, silent, State.blocksTake, hu]
  rw [heard _ (by exact hr), ← hclock]
  simp only [conclude_frame, State.monitorTakes]
  split
  · rw [State.appendEvent_told (by simpa [State.peerHears_port] using hroom)]
    simp [State.peerHears_port]
  · rw [State.appendEvent_told (by simpa [State.peerHears_port] using hroom)]
    simp [State.peerHears_port]

theorem noticesTellTheHost : Claims.FramesMakeEvents := by
  intro c f s htakes hroom now told
  refine ⟨fun hlive => ⟨fun hr hk => ?hire, fun hr hk => ?settle, fun hr hk => ?fault, fun hr hk => ?vanTake,
    fun hr hk e he => ?lookup, fun hr hk he => ?lookupOfNone, fun hr hk => ?vanTakeAtVan,
    fun w hr hk hw hserial h1 h30 hmode hnew hplace => ?offer⟩, htakes.tells_monitor hroom⟩
  case lookup =>
    refine htakes.tells (by simp [hk]) hlive fun k l p hclock => ?_
    have spend : State.daySpend { s with clock := k, line := l, peers := p } e = (s.characterEnds c).daySpend e :=
      State.daySpend_congr (by simp) hclock e
    simp only [State.blocksTake, hr, State.terminalTakes, hk, State.lookupEntry, he, Option.map_some, spend]
    exact State.appendEvent_told (by exact hroom) _ _
  case offer =>
    refine htakes.tells (by simp [hk]) hlive fun k l p _ => ?_
    have admitted := (w.admits_iff f.sender f.body).2 ⟨hserial, h1, h30, hmode, hnew, hplace⟩
    simp only [State.blocksTake, hr, State.vanTakes, hk, State.takeOfr, hw, admitted, if_true, State.appendOffer,
      State.isVan, decide_true]
    exact State.appendEvent_told (by exact hroom) _ _
  all_goals
    refine htakes.tells (by simp [hk]) hlive fun k l p _ => ?_
    simp only [State.blocksTake, State.terminalTakes, State.vanTakes, State.lookupEntry, Option.map_none, *]
    exact State.appendEvent_told (by exact hroom) _ _

theorem beaconChangesMakePeerEvents : Claims.BeaconChangesMakePeerEvents := by
  intro c f s htakes hk hr hroom hlen changed
  obtain ⟨k, l, step, hclock, _⟩ := htakes.step
  refine completes_of_answer step ?_
  rw [← hclock]
  generalize hu : ({ s with clock := k, line := l } : State) = u
  have handed : u.takeFromPeer f = (u.peerHears f).handOn f u := by
    have unheard : ((u.peerHears f).handOn f u).blocksTake f none = (u.peerHears f).handOn f u :=
      State.blocksTake_unheard (by subst hu; rcases hr with hr | hr <;> simp [hr, hk]) none
    simp [State.takeFromPeer, hk, unheard]
  have changes : u.changesFields f = changed := by subst hu; simp [State.changesFields, State.beaconAfter, hk, changed]; rfl
  have change : u.makesPeerChange f = true ↔ (s.storedPeer f.sender).state ≠ .live ∨ changed = true := by
    rw [State.makesPeerChange, changes]
    subst hu
    simp [State.storedPeer]
  have live : ((u.peerHears f).storedPeer f.sender).state = .live := by
    have entries := u.peerHears_entries f
    rw [State.storedPeer, entries, getD_set_of_lt _ _ _ _ (by subst hu; exact hlen ▸ htakes.sender_lt)]
    simp
  have port : (u.peerHears f).port = s.port := by rw [State.peerHears_port]; subst hu; rfl
  rw [handed, State.handOn]
  simp only [change, conclude_frame]
  split
  · rw [State.peerChange_told (by subst hu; simpa using hr) (by rw [port]; exact hroom), port, live, changes]
    subst hu
    simp
  · simp [port]

/-- Settles O27: what the blocks of the role tell, and what the peer table does. -/
theorem framesMakeEvents : Obligations.FramesMakeEvents := ⟨noticesTellTheHost, beaconChangesMakePeerEvents⟩

end Sys2Proof.Machine
end

section
/-! OFRs: those heard join the accepted list before the peer change is handed on, the own OFR begins the hold, and a retry
offers again. -/

namespace Sys2Proof.Machine

/-! ### The own offer's evaluation (R170) -/

theorem State.offerBike_eq (s : State) (w : VanWindow) :
    s.offerBike w = if w.mode = .collect then (s.copyId.map IdSection.bikeId).getD 0 else 0 := by
  unfold State.offerBike
  split <;> simp_all

/-- A candidate that ranks within the places left queues its OFR with the next reference. -/
theorem State.evaluateOffer_queues {s : State} {w : VanWindow} (hpost : s.straps.role = .post)
    (hw : s.van.window = some w) (ho : s.van.offer = .none_) (hc : s.ownCandidate w = true)
    (hfree : w.accepted.length < w.places) (hrank : s.ownRank w ≤ w.places - w.accepted.length)
    (hr : s.refusesOffer .ofr = false) (hroom : s.line.queue.length < 8) :
    s.evaluateOffer =
      { s with
        line := { s.line with
          queue := insertEntry (s.newEntry .ofr (ofrBody w.serial (s.offerBike w) (s.ownRank w))) s.line.queue
          nextRef := s.line.nextRef + 1 }
        van := { s.van with offer := .queued, offerRef := s.line.nextRef, voidMark := false } } := by
  simp [State.evaluateOffer, hw, ho, State.isPost, hpost, hc, hfree, hrank, State.offer_room .ofr _ s hr (by simp) hroom]

/-- A post that is no candidate, or ranks behind the places left, makes no offer. -/
theorem State.evaluateOffer_of_unranked {s : State} {w : VanWindow} (hw : s.van.window = some w)
    (h : ¬ (s.ownCandidate w = true ∧ s.ownRank w + w.accepted.length ≤ w.places)) : s.evaluateOffer = s := by
  unfold State.evaluateOffer
  split
  · rename_i v hv _
    obtain rfl : w = v := Option.some.inj (hw.symm.trans hv)
    rw [if_neg]
    simp only [Bool.and_eq_true, decide_eq_true_eq]
    rintro ⟨⟨⟨_, hfree⟩, hc⟩, hrank⟩
    exact h ⟨hc, by omega⟩
  · rfl

/-- The own offer is made already, or no place is left: an evaluation offers nothing. -/
def VanUnit.closedToOffers (v : VanUnit) : Prop :=
  v.offer ≠ .none_ ∨ ∃ w, v.window = some w ∧ w.places ≤ w.accepted.length

theorem State.evaluateOffer_of_closed {s : State} (h : s.van.closedToOffers) : s.evaluateOffer = s := by
  rcases h with h | ⟨w, hw, hfull⟩
  · exact s.evaluateOffer_of_none (.inr (.inl h))
  · refine State.evaluateOffer_of_unranked hw fun ⟨_, hrank⟩ => ?_
    have first : 1 ≤ s.ownRank w := Nat.le_add_right ..
    omega

theorem State.evaluateSince_of_closed {s : State} (h : s.van.closedToOffers) (before : State) :
    s.evaluateSince before = s := by
  rw [State.evaluateSince, State.evaluateOffer_of_closed h, ite_self]

/-- An evaluation moves no block but the line controller and the own offer. -/
theorem State.evaluateOffer_untouched (s : State) : ({} : Touched).frame s s.evaluateOffer := by
  rw [State.evaluateOffer_eq]
  simp [Touched.frame, VanUnit.sansOffer]

/-! ### The queued OFR -/

/-- The OFR is queued, and no other frame has its reference. -/
structure Line.HoldsOfr (l : Line) (e : TxEntry) : Prop where
  kind : e.kind = .ofr
  mem : e ∈ l.queue
  below : e.ref < l.nextRef
  alone : ∀ x ∈ l.queue, x.ref = e.ref → x = e

/-- The line controller is as it was, or has taken the offer of an FLT. -/
def Line.tookFlt (l l' : Line) : Prop := l' = l ∨ ∃ (u : State) (body : List Byte), u.line = l ∧ l' = (u.send .flt body).line

/-- A new OFR is the only frame with the next reference, where every queued frame has an earlier one. -/
theorem State.newEntry_holdsOfr {s : State} {l : Line} {body : List Byte}
    (hq : l.queue = insertEntry (s.newEntry .ofr body) s.line.queue) (hn : l.nextRef = s.line.nextRef + 1)
    (hrefs : ∀ x ∈ s.line.queue, x.ref < s.line.nextRef) : l.HoldsOfr (s.newEntry .ofr body) where
  kind := rfl
  mem := by simp [hq]
  below := by simp [hn, State.newEntry]
  alone x hx href := by
    rcases (mem_insertEntry _ _ _).1 (hq ▸ hx) with h | h
    · exact h
    · exact absurd href (Nat.ne_of_lt (hrefs x h))

/-- An OFR stays queued when another frame is inserted among frames of the queue that it is one of. -/
theorem Line.HoldsOfr.insertEntry {l l' : Line} {e n : TxEntry} {kept : List TxEntry} (h : l.HoldsOfr e)
    (hkept : e ∈ kept) (hsub : kept.Sublist l.queue) (hn : n.ref = l.nextRef)
    (hq : l'.queue = Machine.insertEntry n kept) (hnext : l'.nextRef = l.nextRef + 1) : l'.HoldsOfr e where
  kind := h.kind
  mem := by simp [hq, hkept]
  below := hnext ▸ Nat.lt_succ_of_lt h.below
  alone x hx href := by
    rcases (mem_insertEntry _ _ _).1 (hq ▸ hx) with rfl | hx
    · exact absurd (hn.symm.trans href) (Nat.ne_of_gt h.below)
    · exact h.alone x (hsub.subset hx) href

/-- No frame displaces an OFR: it is of class 0 (R8). -/
theorem Line.HoldsOfr.enqueue {s : State} {e : TxEntry} (h : s.line.HoldsOfr e) (kind : Kind) (body : List Byte) :
    (s.enqueue kind body).1.line.HoldsOfr e := by
  unfold State.enqueue
  split
  · exact h.insertEntry h.mem (List.Sublist.refl _) rfl rfl rfl
  · split
    · rename_i d hd
      have displaced := List.mem_of_getLast? hd
      simp only [List.mem_filter, Bool.and_eq_true, decide_eq_true_eq] at displaced
      obtain ⟨hmem, hcls, _⟩ := displaced
      have apart : e.ref ≠ d.ref := by
        intro href
        rw [h.alone d hmem href.symm, h.kind] at hcls
        exact absurd hcls (Nat.not_lt_zero _)
      exact h.insertEntry (mem_removeEntry.2 ⟨h.mem, apart⟩) (removeEntry_sublist _ _) rfl rfl rfl
    · exact h

theorem State.send_flt (body : List Byte) (s : State) :
    s.send .flt body = if s.refusesOffer .flt then s else (s.enqueue .flt body).1 := by
  unfold State.send State.offer
  split <;> simp

theorem Line.tookFlt.holdsOfr {l l' : Line} {e : TxEntry} (ht : l.tookFlt l') (h : l.HoldsOfr e) : l'.HoldsOfr e := by
  rcases ht with rfl | ⟨u, body, rfl, rfl⟩
  · exact h
  · rw [State.send_flt]
    split
    · exact h
    · exact h.enqueue .flt body

/-- The OFRs queued beside an FLT were queued before it. -/
theorem Line.tookFlt.offers {l l' : Line} (ht : l.tookFlt l') {q : TxEntry} (hq : q ∈ l'.queue) (hk : q.kind = .ofr) :
    q ∈ l.queue := by
  rcases ht with rfl | ⟨u, body, rfl, rfl⟩
  · exact hq
  · rw [State.send_flt] at hq
    split at hq
    · exact hq
    · rcases u.enqueue_cases .flt body with he | ⟨kept, hsub, _, he⟩
      · rwa [he] at hq
      · rw [he] at hq
        rcases (mem_insertEntry _ _ _).1 hq with rfl | hq
        · cases hk
        · exact hsub.subset hq

/-- The start of an attempt fills the head's body, and queues no frame. -/
theorem State.mem_startTransmission_queue {s : State} {q : TxEntry} (hq : q ∈ s.startTransmission.line.queue) :
    ∃ x ∈ s.line.queue, x.ref = q.ref ∧ x.kind = q.kind := by
  unfold State.startTransmission at hq
  split at hq
  · exact ⟨q, hq, rfl, rfl⟩
  · exact mem_replaceBody hq

/-- The conclusion queues no frame. -/
theorem mem_conclude_queue {s : State} {q : TxEntry} (hq : q ∈ (conclude s).line.queue) :
    ∃ x ∈ s.line.queue, x.ref = q.ref ∧ x.kind = q.kind := by
  rw [conclude, State.chooseLamp_eq] at hq
  have followed : q ∈ s.line.queue ∨ q ∈ s.startTransmission.line.queue := by
    unfold State.followHead at hq
    (repeat' split at hq) <;> simp [hq]
  rcases followed with hq | hq
  · exact ⟨q, hq, rfl, rfl⟩
  · exact State.mem_startTransmission_queue hq

theorem Line.HoldsOfr.conclude {s : State} {e : TxEntry} (h : s.line.HoldsOfr e) : e ∈ (conclude s).line.queue :=
  conclude_keeps s e h.mem (by simp [h.kind]) h.alone

theorem Line.tookFlt_offerAutoFlt (cls level : Nat) (s : State) : s.line.tookFlt (s.offerAutoFlt cls level).line :=
  .inr ⟨s, _, rfl, rfl⟩

/-! ### The peer change after an OFR (R31, R167) -/

/-- Where an evaluation offers nothing, the duplicate-bike check leaves the van window unit, and offers an FLT at most. -/
theorem State.duplicateCheck_of_closed {s : State} (h : s.van.closedToOffers) :
    s.duplicateCheck.van = s.van ∧ s.line.tookFlt s.duplicateCheck.line := by
  cases hd : s.peers.duplicate <;> cases hc : s.duplicateCondition
  · rw [State.duplicateCheck_unchanged (hd.trans hc.symm)]
    exact ⟨rfl, .inl rfl⟩
  · rw [State.duplicateCheck_begins hd hc]
    cases hf : s.fault.duplicate
    · rw [State.raiseDuplicate_of_clear (by exact hf), State.evaluateSince_of_closed (by simpa [State.offerAutoFlt])]
      exact ⟨by simp [State.offerAutoFlt], Line.tookFlt_offerAutoFlt 11 2 _⟩
    · rw [State.raiseDuplicate_of_held (by exact hf)]
      exact ⟨rfl, .inl rfl⟩
  · rw [State.duplicateCheck_ends hd hc]
    exact ⟨rfl, .inl rfl⟩
  · rw [State.duplicateCheck_unchanged (hd.trans hc.symm)]
    exact ⟨rfl, .inl rfl⟩

theorem State.handOn_of_closed {s : State} (hpost : s.straps.role = .post) (h : s.van.closedToOffers) (f : Frame)
    (before : State) : (s.handOn f before).van = s.van ∧ s.line.tookFlt (s.handOn f before).line := by
  unfold State.handOn State.peerChange
  split
  · simp only [hpost, State.evaluateOffer_of_closed h]
    exact State.duplicateCheck_of_closed h
  · exact ⟨rfl, .inl rfl⟩

/-- A post that makes no offer and finds the duplicate-bike condition as it was is left as it was by a peer change. -/
theorem State.handOn_unchanged {s : State} (hpost : s.straps.role = .post) (he : s.evaluateOffer = s)
    (hd : s.duplicateCondition = s.peers.duplicate) (f : Frame) (before : State) : s.handOn f before = s := by
  unfold State.handOn State.peerChange
  split
  · simp only [hpost, he, State.duplicateCheck_unchanged hd.symm]
  · rfl

/-! ### An OFR heard (R167) -/

/-- The window once an OFR has joined its accepted list. -/
def VanWindow.join (w : VanWindow) (sender : Nat) (body : List Byte) (at_ : Ms) : VanWindow :=
  { w with
    accepted := w.accepted ++
      [{ station := sender, bikeId := fieldAt body 1 4, rank := fieldAt body 5 1, heard := at_ }] }

/-- At a post another post's OFR that R167 admits joins the list, and the own offer is evaluated. -/
theorem State.takeOfr_of_post {s : State} {w : VanWindow} {sender : Nat} {body : List Byte}
    (hpost : s.straps.role = .post) (hw : s.van.window = some w) (ha : w.admits sender body = true)
    (hn : sender ≠ s.number) (own : Option Nat) :
    s.takeOfr sender body own =
      State.evaluateOffer { s with van := { s.van with window := some (w.join sender body s.clock.ms) } } := by
  simp [State.takeOfr, hw, ha, State.appendOffer, State.isVan, hpost, hn, VanWindow.join]

/-- The list takes an OFR that R167 admits, and no hold or target begins with another station's. -/
theorem State.takeOfr_joins {s : State} {w : VanWindow} {sender : Nat} {body : List Byte}
    (hw : s.van.window = some w) (ha : w.admits sender body = true) (hn : sender ≠ s.number) (own : Option Nat) :
    (s.takeOfr sender body own).van.window = some (w.join sender body s.clock.ms) ∧
      (s.takeOfr sender body own).van.hold = s.van.hold ∧ (s.takeOfr sender body own).van.target = s.van.target := by
  simp only [State.takeOfr, hw, ha, if_true, State.appendOffer, if_neg hn]
  split <;> simp [VanWindow.join]

/-- Another station's OFR that fails R167's tests is no answer to the own offer. -/
theorem State.takeOfr_refused {s : State} {w : VanWindow} {sender : Nat} {body : List Byte}
    (hw : s.van.window = some w) (ha : w.admits sender body = false) : s.takeOfr sender body none = s := by
  simp [State.takeOfr, hw, ha, State.ownOfferSent]

theorem State.takes.sender_ne {c : LineChar} {f : Frame} {s : State} (h : s.takes c f)
    (hr : s.straps.role = .post ∨ s.straps.role = .van) : f.sender ≠ s.number := by
  obtain ⟨_, _, _, other⟩ := h
  have sends : s.sends = true := by rcases hr with hr | hr <;> simp [State.sends, strapSends, hr]
  simpa [State.isOwnEntry, sends] using other

/-- A post applies an OFR before its van window unit takes the peer change (R167). -/
theorem State.takeFromPeer_ofr_of_post {f : Frame} {s : State} (hk : f.kind = .ofr) (hr : s.straps.role = .post) :
    s.takeFromPeer f = ((s.hearFrom f.sender s.clock.ms).takeOfr f.sender f.body none).handOn f s := by
  have role : (s.hearFrom f.sender s.clock.ms).straps.role = .post := hr
  simp only [State.takeFromPeer, State.isPost, hr, hk, decide_true, Bool.and_self, if_true,
    State.peerHears_of_notice (f := f) (by simp [hk]), State.blocksTake, role, State.postTakes]

/-- The van tells its host of the peer change first. -/
theorem State.takeFromPeer_ofr_of_van {f : Frame} {s : State} (hk : f.kind = .ofr) (hr : s.straps.role = .van) :
    s.takeFromPeer f = ((s.hearFrom f.sender s.clock.ms).handOn f s).takeOfr f.sender f.body none := by
  simp [State.takeFromPeer, State.isPost, hr, State.peerHears_of_notice (f := f) (by simp [hk]), State.blocksTake,
    State.vanTakes, hk]

/-- An OFR at a post or the van joins the window's list when R167 admits it, and else leaves the window; van hold and
deliver target stay. -/
theorem State.takeFromPeer_ofr {f : Frame} {s : State} {w : VanWindow} (hk : f.kind = .ofr)
    (hr : s.straps.role = .post ∨ s.straps.role = .van) (hw : s.van.window = some w) (hn : f.sender ≠ s.number) :
    (s.takeFromPeer f).van.window =
        some (if w.admits f.sender f.body then w.join f.sender f.body s.clock.ms else w) ∧
      (s.takeFromPeer f).van.hold = s.van.hold ∧ (s.takeFromPeer f).van.target = s.van.target := by
  have taken (u : State) (hu : u.van.window = some w) (hc : u.clock = s.clock) (hs : u.straps = s.straps) :
      (u.takeOfr f.sender f.body none).van.window =
          some (if w.admits f.sender f.body then w.join f.sender f.body s.clock.ms else w) ∧
        (u.takeOfr f.sender f.body none).van.hold = u.van.hold ∧
        (u.takeOfr f.sender f.body none).van.target = u.van.target := by
    cases ha : w.admits f.sender f.body
    · rw [State.takeOfr_refused hu ha]
      exact ⟨hu, rfl, rfl⟩
    · obtain ⟨hwindow, hhold, htarget⟩ := State.takeOfr_joins hu ha (by simpa [State.number, hs] using hn) none
      exact ⟨by simp [hwindow, hc], hhold, htarget⟩
  rcases hr with hr | hr
  · obtain ⟨hwindow, hhold, htarget⟩ := taken (s.hearFrom f.sender s.clock.ms) hw rfl rfl
    rw [State.takeFromPeer_ofr_of_post hk hr]
    simp [hwindow, hhold, htarget]
  · obtain ⟨hwindow, hhold, htarget⟩ := taken ((s.hearFrom f.sender s.clock.ms).handOn f s)
      (by simpa using hw) (by simp) (by simp)
    rw [State.takeFromPeer_ofr_of_van hk hr]
    simp [hwindow, hhold, htarget]

theorem offerHeardJoinsTheList : Claims.OfferHeardJoinsTheList := by
  intro c f s w htakes hk hr hw
  obtain ⟨k, l, step, hclock, _⟩ := htakes.step
  obtain ⟨hwindow, hhold, htarget⟩ :=
    State.takeFromPeer_ofr (s := { s with clock := k, line := l }) hk hr hw (htakes.sender_ne hr)
  refine ⟨fun hserial h1 h30 hmode hnew hplace => completes_of_answer step ?_,
    fun hfails => completes_of_answer step ?_⟩
  · rw [if_pos ((w.admits_iff f.sender f.body).2 ⟨hserial, h1, h30, hmode, hnew, hplace⟩)] at hwindow
    exact ⟨by simp [hwindow, VanWindow.join, hclock], by simpa using hhold, by simpa using htarget⟩
  · have refused : ¬ w.admits f.sender f.body = true := by
      rw [VanWindow.admits_iff]
      rintro ⟨hserial, h1, h30, hmode, hnew, hplace⟩
      rcases hfails with h | h | h | ⟨hdeliver, h⟩ | h | h
      · exact h hserial
      · omega
      · omega
      · exact h (hmode hdeliver)
      · simp [h] at hnew
      · omega
    rw [if_neg refused] at hwindow
    exact ⟨by simpa using hwindow, by simpa using hhold, by simpa using htarget⟩

theorem offerIsAppliedBeforeThePeerChange : Claims.OfferIsAppliedBeforeThePeerChange := by
  intro c f s w htakes hk hr hw hnone hserial h1 h30 hmode hnew hplace joined heard fits silent
  obtain ⟨k, l, step, hclock, hqueue, hnext, hclash⟩ := htakes.step
  have admitted := (w.admits_iff f.sender f.body).2 ⟨hserial, h1, h30, hmode, hnew, hplace⟩
  obtain ⟨v, hv, vstraps, vvan, vline, vcandidate, vrank, vbike, vcondition, vduplicate⟩ :
      ∃ v : State, State.takeFromPeer f { s with clock := k, line := l } =
          v.evaluateOffer.handOn f { s with clock := k, line := l } ∧
        v.straps = s.straps ∧ v.van = { s.van with window := some joined } ∧ v.line = l ∧
        v.ownCandidate joined = heard.ownCandidate joined ∧ v.ownRank joined = heard.ownRank joined ∧
        v.copyId = s.copyId ∧ v.duplicateCondition = heard.duplicateCondition ∧
        v.peers.duplicate = s.peers.duplicate := by
    rw [State.takeFromPeer_ofr_of_post hk (by exact hr),
      State.takeOfr_of_post (by exact hr) (by exact hw) admitted (by exact htakes.sender_ne (.inl hr))]
    simp only [joined, heard, ← hclock]
    exact ⟨_, rfl, rfl, rfl, rfl, rfl, rfl, rfl, rfl, rfl⟩
  rw [hv] at step
  have vpost : v.straps.role = .post := by rw [vstraps, hr]
  have vwindow : v.van.window = some joined := by rw [vvan]
  have voffer : v.van.offer = .none_ := by rw [vvan, hnone]
  have length : joined.accepted.length = w.accepted.length + 1 := by simp [joined]
  have places : joined.places = w.places := rfl
  have serial : joined.serial = w.serial ∧ joined.mode = w.mode := ⟨rfl, rfl⟩
  clear_value joined heard
  have quiet (u : State) (hvan : u.van = v.van) (hline : v.line.tookFlt u.line) : silent (conclude u) := by
    refine ⟨by simp [hvan, voffer], fun q hq hkind => ?_⟩
    obtain ⟨x, hx, href, hxkind⟩ := mem_conclude_queue hq
    have before : x ∈ v.line.queue := hline.offers hx (hxkind.trans hkind)
    rw [vline, hqueue] at before
    exact ⟨x, before, href⟩
  refine ⟨fun hlast => ?full, fun hmore hfits haccepts hroom hrefs => ?fits, fun hmore hunfit hcondition => ?unfit⟩
  case full =>
    have closed : v.van.closedToOffers := .inr ⟨joined, vwindow, by omega⟩
    rw [State.evaluateOffer_of_closed closed] at step
    obtain ⟨hvan, hline⟩ := State.handOn_of_closed vpost closed f { s with clock := k, line := l }
    exact completes_of_answer step (quiet _ hvan hline)
  case unfit =>
    have offersNothing : v.evaluateOffer = v :=
      State.evaluateOffer_of_unranked vwindow (by rw [vcandidate, vrank, places]; exact hunfit)
    rw [offersNothing, State.handOn_unchanged vpost offersNothing (by rw [vcondition, vduplicate, hcondition])] at step
    exact completes_of_answer step (quiet v rfl (.inl rfl))
  case fits =>
    obtain ⟨hcandidate, hrank⟩ := hfits
    have accepts : v.refusesOffer .ofr = false := by
      simpa [State.refusesOffer, State.sends, State.barred, vstraps, vline, hclash] using haccepts
    have queued := State.evaluateOffer_queues vpost vwindow voffer (by rw [vcandidate, hcandidate]) (by omega)
      (by rw [vrank]; omega) accepts (by rw [vline, hqueue]; exact hroom)
    have held := State.newEntry_holdsOfr (s := v) (l := v.evaluateOffer.line) (by rw [queued]) (by rw [queued])
      (by rw [vline, hqueue, hnext]; exact hrefs)
    have closed : v.evaluateOffer.van.closedToOffers := .inl (by simp [queued])
    obtain ⟨hvan, hline⟩ := State.handOn_of_closed (by simpa using vpost) closed f { s with clock := k, line := l }
    obtain ⟨hoffer, hofferRef⟩ : v.evaluateOffer.van.offer = .queued ∧ v.evaluateOffer.van.offerRef = s.line.nextRef := by
      rw [queued, vline, hnext]
      exact ⟨rfl, rfl⟩
    rw [← hvan] at hoffer hofferRef
    refine completes_of_answer step ⟨by simpa using hoffer, by simpa using hofferRef, _, (hline.holdsOfr held).conclude,
      rfl, by simp [State.newEntry, vline, hnext], ?_⟩
    obtain ⟨hserial, hmode⟩ := serial
    rw [State.newEntry, ofrBody, State.offerBike_eq, vbike, vrank, hserial, hmode]

/-! ### The own OFR sent (R171, R172) -/

/-- The own OFR in the list (R172): ACCEPTED, and unless the void mark is set a van hold begins at a post that has a bike in
COLLECT, a deliver target at one that has none in DELIVER. -/
theorem State.offerAccepted_van (w : VanWindow) (s : State) :
    (s.offerAccepted w).van =
      { s.van with
        offer := .accepted
        hold := s.van.hold || (!s.van.voidMark && s.dock.docked && decide (w.mode = .collect))
        holdSerial :=
          if !s.van.voidMark && s.dock.docked && decide (w.mode = .collect) then w.serial else s.van.holdSerial
        target := s.van.target || (!s.van.voidMark && !s.dock.docked && decide (w.mode = .deliver)) } := by
  unfold State.offerAccepted
  cases s.van.voidMark <;> cases s.dock.docked <;> cases w.mode <;> simp

/-- SENT_INTACT of an OFR at a post hands it to the van window unit as its own. -/
theorem exec_sentIntact_ofr {s : State} {x : Transmission} {e : TxEntry} (hr : s.straps.role = .post)
    (hx : s.line.tx = some x) (he : s.line.txEntry = some e) (hrx : s.line.rx = none) (hk : e.kind = .ofr) :
    ∃ u : State, exec .sentIntact s = answerNext (u.takeOfr s.number e.body (some e.ref)) ∧ u.van = s.van ∧
      u.dock = s.dock ∧ u.straps = s.straps := by
  obtain ⟨c, hc⟩ := State.reachInstant_eq (x.start.plusUs (x.bytes.length * 11 * s.bitUs)) s
  refine ⟨(State.countSent e { s with clock := c }).hearSelf, ?_, rfl, rfl, rfl⟩
  have role : (State.countSent e { s with clock := c }).hearSelf.straps.role = .post := hr
  rw [exec_sentIntact hx he, hc, State.sentIntact, State.abandonForOwn_of_none (by exact hrx)]
  simp only [hk, State.answerSent, State.ownFrame, State.blocksTake, role, State.postTakes, reduceCtorEq, if_false]
  rfl

theorem ownOfferSentIsHeld : Claims.OwnOfferSentIsHeld := by
  intro s x e w hr hx he hrx hk hw hqueued href hserial h1 h30 hnew hmode
  obtain ⟨u, step, uvan, udock, ustraps⟩ := exec_sentIntact_ofr hr hx he hrx hk
  have uwindow : u.van.window = some w := by rw [uvan, hw]
  refine ⟨fun hplace => completes_of_answer step ?_, fun hfull => completes_of_answer step ?_⟩
  · have admitted := (w.admits_iff s.number e.body).2 ⟨hserial, h1, h30, hmode, hnew, hplace⟩
    have number : u.number = s.number := by simp [State.number, ustraps]
    have notVan : u.isVan = false := by simp [State.isVan, ustraps, hr]
    have taken : u.takeOfr s.number e.body (some e.ref) =
        State.offerAccepted w { u with van := { u.van with window := some (w.join s.number e.body u.clock.ms) } } := by
      simp [State.takeOfr, uwindow, admitted, State.appendOffer, notVan, number, VanWindow.join]
    rw [taken]
    simp only [conclude_frame, State.offerAccepted_van, uvan, udock, true_and]
    exact ⟨fun hvoid hdocked hcollect => by simp [hvoid, hdocked, hcollect], _, rfl, rfl⟩
  · have refused : w.admits s.number e.body = false := by
      simp [VanWindow.admits, Nat.not_lt.2 hfull]
    have sent : u.ownOfferSent (some e.ref) = true := by simp [State.ownOfferSent, uvan, hqueued, href]
    have taken : u.takeOfr s.number e.body (some e.ref) = { u with van := { u.van with offer := .notAccepted } } := by
      simp [State.takeOfr, uwindow, refused, sent]
    rw [taken]
    simp [uvan, hw]

/-! ### The retry (R170, R171) -/

theorem offerRetryOffersAgain : Claims.OfferRetryOffersAgain := by
  intro s due hdue
  obtain ⟨k, hk⟩ := s.reachMs_eq due
  generalize hv : ({ s with clock := k, van := { s.van with retryAt := none } } : State) = v
  have step : exec .offerRetryExpiry s = answerNext v.evaluateOffer := by
    show answerNext _ = _
    simp only [hdue, hk, ← hv]
  have untouched : ({} : Touched).frame s (conclude v.evaluateOffer) := by
    refine conclude_frame_of _ _ _ ?_
    have moved := v.evaluateOffer_untouched
    rw [← hv] at moved ⊢
    exact moved
  refine ⟨fun w hr hw ho hfree hc hrank hbarred hclash hroom hrefs => ?_, fun hnone => ?_⟩
  · have accepts : v.refusesOffer .ofr = false := by
      subst hv
      simp_all [State.refusesOffer, State.sends, strapSends, State.barred]
    have queued := State.evaluateOffer_queues (s := v) (w := w) (by subst hv; exact hr) (by subst hv; exact hw)
      (by subst hv; exact ho) (by subst hv; exact hc) hfree (by subst hv; exact hrank) accepts
      (by subst hv; exact hroom)
    have held := State.newEntry_holdsOfr (s := v) (l := v.evaluateOffer.line) (by rw [queued]) (by rw [queued])
      (by subst hv; exact hrefs)
    refine completes_of_answer step ⟨?_, ⟨_, held.conclude, rfl, ?_, ?_⟩, untouched⟩
    · simp only [conclude_frame, queued]
      subst hv
      rfl
    · subst hv
      rfl
    · subst hv
      rfl
  · have closed : v.evaluateOffer = v := v.evaluateOffer_of_none (.inl (by subst hv; exact hnone))
    refine completes_of_answer step ⟨?_, ?_, untouched⟩
    · subst hv
      simp [closed]
    · subst hv
      simp [closed]

/-- Settles O22: OFRs heard, with the peer change behind them, the own OFR sent, and the retry. -/
theorem offersAreHeardAndHeld : Obligations.OffersAreHeardAndHeld :=
  ⟨offerHeardJoinsTheList, offerIsAppliedBeforeThePeerChange, ownOfferSentIsHeld, offerRetryOffersAgain⟩

end Sys2Proof.Machine
end
section
/-! The time quality and the hire record at every step: what a station's blocks and its line controller do to the base pair
with its timers, and to the hire state with its record. -/

namespace Sys2Proof.Machine

/-! ### The relation -/

/-- What `State.timeSound` speaks of: the base pair, the quality and the two timers. -/
def Timebase.agreement (t : Timebase) := (t.base, t.quality, t.staleAt, t.carryAt)

/-- What `State.hireSound` speaks of: the hire state, and whether a record is held. -/
def HireController.agreement (h : HireController) := (h.state, h.record.isSome)

/-- From `s` to `t` the time quality stays in agreement with the base pair and its timers, and the hire state with the hire
record, each for itself. -/
structure Agrees (s t : State) : Prop where
  time : s.timeSound → t.timeSound
  hire : s.hireSound → t.hireSound

theorem Agrees.refl (s : State) : Agrees s s := ⟨id, id⟩

@[simp] theorem Timebase.setSlot_agreement (t : Timebase) (source : CaptureSource) (c : Option Capture) :
    (t.setSlot source c).agreement = t.agreement := by simp [Timebase.agreement]

@[simp] theorem State.stamp_agreement (source : CaptureSource) (s : State) :
    (s.stamp source).time.agreement = s.time.agreement := s.time.setSlot_agreement source _

@[simp] theorem State.consume_agreement (source : CaptureSource) (s : State) :
    (s.consume source).time.agreement = s.time.agreement := s.time.setSlot_agreement source _

@[simp] theorem State.backDate_agreement (base : BasePair) (s : State) :
    (s.backDate base).time.agreement = s.time.agreement := by simp [State.backDate, Timebase.agreement]

@[simp] theorem State.onRecord_agreement (f : HireRecord → HireRecord) (s : State) :
    (s.onRecord f).hire.agreement = s.hire.agreement := by simp [State.onRecord, HireController.agreement]

section
variable {s u t : State}

theorem Agrees.trans (h : Agrees s u) (k : Agrees u t) : Agrees s t := ⟨k.time ∘ h.time, k.hire ∘ h.hire⟩

theorem Agrees.ite {c : Prop} [Decidable c] {a b : State} (ha : Agrees s a) (hb : Agrees s b) :
    Agrees s (if c then a else b) := by
  split
  · exact ha
  · exact hb

/-- The quality moves with the base pair and the timers. -/
theorem State.timeSound_congr (h : t.time.agreement = u.time.agreement) : t.timeSound ↔ u.timeSound := by
  obtain ⟨hbase, hquality, hstale, hcarry⟩ : t.time.base = u.time.base ∧ t.time.quality = u.time.quality ∧
      t.time.staleAt = u.time.staleAt ∧ t.time.carryAt = u.time.carryAt := by simpa [Timebase.agreement] using h
  simp only [State.timeSound, hbase, hquality, hstale, hcarry]

/-- The hire record comes and goes with the hire state. -/
theorem State.hireSound_congr (h : t.hire.agreement = u.hire.agreement) : t.hireSound ↔ u.hireSound := by
  obtain ⟨hstate, hrecord⟩ : t.hire.state = u.hire.state ∧ t.hire.record.isSome = u.hire.record.isSome := by
    simpa [HireController.agreement] using h
  simp only [State.hireSound, hstate, hrecord]

/-- A step on what neither agreement speaks of. -/
theorem Agrees.edit (h : Agrees s u)
    (hs : t.time.agreement = u.time.agreement ∧ t.hire.agreement = u.hire.agreement) : Agrees s t :=
  h.trans ⟨(State.timeSound_congr hs.1).2, (State.hireSound_congr hs.2).2⟩

/-- A step of the hire controller that leaves a record with a hire state other than IDLE, or none with IDLE. -/
theorem Agrees.hired (h : Agrees s u) (hh : t.hireSound) (ht : t.time.agreement = u.time.agreement) :
    Agrees s t := h.trans ⟨(State.timeSound_congr ht).2, fun _ => hh⟩

/-- A step of the timebase that leaves the quality in agreement. -/
theorem Agrees.timed (h : Agrees s u) (ht : u.timeSound → t.timeSound) (hh : t.hire.agreement = u.hire.agreement) :
    Agrees s t := h.trans ⟨ht, (State.hireSound_congr hh).2⟩

/-- The state an offer leaves, as its answer is matched. -/
theorem Agrees.of_offer {kind : Kind} {body : List Byte} {r : Option Nat} (heq : u.offer kind body = (t, r))
    (h : Agrees s u) : Agrees s t := by
  have := h.edit (t := (u.offer kind body).1) (by simp)
  rwa [heq] at this

theorem State.hire_of_offer {kind : Kind} {body : List Byte} {r : Option Nat} (heq : u.offer kind body = (t, r)) :
    t.hire = u.hire := by simpa using (congrArg (fun p => p.1.hire) heq).symm

/-- The state a write request leaves, as its answer is matched. -/
theorem Agrees.of_requestWrite {contents : SectionContents} {requester : Requester} {r : RequestReply}
    (heq : u.requestWrite contents requester = (t, r)) (h : Agrees s u) : Agrees s t := by
  have := h.edit (t := (u.requestWrite contents requester).1) (by simp)
  rwa [heq] at this

theorem Agrees.foldl {α : Type} {f : State → α → State} (hf : ∀ u a, Agrees s u → Agrees s (f u a)) :
    ∀ (l : List α) {u : State}, Agrees s u → Agrees s (l.foldl f u)
  | [], _, h => h
  | a :: l, u, h => Agrees.foldl hf l (hf u a h)

/-- A record held with a hire state other than IDLE. -/
theorem State.hireSound_of_record (hr : t.hire.record.isSome = true) (hs : t.hire.state ≠ .idle) : t.hireSound :=
  ⟨fun _ => hs, fun _ => hr⟩

/-! ### Ends of a hire (R106, R114, R118, R119) -/

theorem Agrees.onRecord {f : HireRecord → HireRecord} (h : Agrees s u) : Agrees s (u.onRecord f) := h.edit (by simp)

theorem Agrees.hireIdle (h : Agrees s u) : Agrees s u.hireIdle := by
  refine h.hired ?_ (by simp)
  simp [State.hireSound, State.hireIdle]

theorem Agrees.refuse {group : Nat} (h : Agrees s u) : Agrees s (u.refuse group) := .hireIdle (h.edit (by simp))

theorem Agrees.withdrawClaim (h : Agrees s u) : Agrees s u.withdrawClaim := h.edit (by simp)

theorem Agrees.refuseWithdrawing {group : Nat} (h : Agrees s u) : Agrees s (u.refuseWithdrawing group) :=
  h.withdrawClaim.refuse

theorem Agrees.hireTakes (h : Agrees s u) : Agrees s u.hireTakes := by
  unfold State.hireTakes
  split
  · exact .hireIdle (h.edit (by simp))
  · exact h

/-! ### The bike leaves (R58, R83, R163, R173) -/

theorem Agrees.hireWriteLeft {ref : Nat} (h : Agrees s u) : Agrees s (u.hireWriteLeft ref) := by
  unfold State.hireWriteLeft
  split
  · split
    · split
      case h_1 => exact h.refuseWithdrawing
      case h_2 => exact h.hireTakes
      all_goals exact h
    · exact h
  · exact h

theorem Agrees.writeLeft {r : WriteRequest} (h : Agrees s u) : Agrees s (u.writeLeft r) := .ite h.hireWriteLeft h

@[simp] theorem State.dockLeaves_agreement (s : State) : s.dockLeaves.time.agreement = s.time.agreement :=
  s.consume_agreement .mouthOut

theorem Agrees.bikeLeaves (h : Agrees s u) : Agrees s u.bikeLeaves := by
  have left : Agrees s ((u.dockLeaves.tagLeaves.faultLeaves.duplicateLeaves.vanLeaves).evaluateSince u) :=
    h.edit (by simp)
  have answered := Agrees.foldl (f := State.writeLeft) (fun _ _ hw => hw.writeLeft) u.outstandingWrites left
  exact .ite (.ite answered.hireTakes answered) h

theorem Agrees.treatAsTaken (h : Agrees s u) : Agrees s u.treatAsTaken := h.hireTakes.bikeLeaves

/-! ### Cancelling and the settle procedure (R120 to R122) -/

theorem Agrees.cancelOver (h : Agrees s u) : Agrees s u.cancelOver := h.withdrawClaim.hireIdle

/-- A hire is cancelled with its record. -/
theorem Agrees.enterCancelling {group : Option Nat} (h : Agrees s u) (hr : u.hire.record.isSome = true) :
    Agrees s (u.enterCancelling group) := by
  have shown : ∀ v : State, v.time = u.time → v.hire = u.hire → Agrees s
      ({ v with hire := { v.hire with state := .cancelling } }.onRecord (fun r => { r with settleAt := none })) :=
    fun v ht hh => h.hired (State.hireSound_of_record (by simpa [State.onRecord, hh] using hr) (by simp)) (by simp [ht])
  unfold State.enterCancelling
  dsimp only
  have cancelling := shown (match group with | some n => u.showRefusal n | none => u)
    (by cases group <;> simp) (by cases group <;> simp)
  split
  · exact cancelling.cancelOver
  · split <;> rename_i heq
    · exact (cancelling.of_requestWrite heq).onRecord
    · exact (cancelling.of_requestWrite heq).hireTakes
    · exact (cancelling.of_requestWrite heq).cancelOver

theorem Agrees.startSettle (h : Agrees s u) : Agrees s u.startSettle := .ite h.treatAsTaken h.onRecord

/-- A timer read from the hire record shows that one is held. -/
theorem isSome_of_bind {α β : Type} {f : α → Option β} {o : Option α} (h : (o.bind f).isSome = true) :
    o.isSome = true := by
  cases o
  · cases h
  · rfl

theorem Agrees.hireSeated (h : Agrees s u) : Agrees s u.hireSeated := by
  unfold State.hireSeated
  split
  · rename_i hc
    simp only [State.settling, Bool.and_eq_true] at hc
    obtain ⟨⟨_, hsettle⟩, _⟩ := hc
    exact h.enterCancelling (isSome_of_bind hsettle)
  · exact h

/-! ### The bolt (R50 to R55, R71) -/

theorem Agrees.reportSeated (h : Agrees s u) : Agrees s u.reportSeated :=
  .ite (.hireSeated (h.edit (by simp))) (h.edit (by simp))

theorem Agrees.seat (h : Agrees s u) : Agrees s u.seat := .reportSeated (h.edit (by simp))

theorem Agrees.seatIfClosed (h : Agrees s u) : Agrees s u.seatIfClosed := .ite h h.seat

theorem Agrees.releaseTake (h : Agrees s u) : Agrees s u.releaseTake := by
  have left : Agrees s u.enterClosing.bikeLeaves := .bikeLeaves (h.edit (by simp))
  exact .seatIfClosed (.ite left.hireTakes left)

theorem Agrees.selfTestTake (h : Agrees s u) : Agrees s u.selfTestTake := by
  unfold State.selfTestTake
  split
  · exact h.bikeLeaves.edit (by simp)
  · exact h

theorem Agrees.takeWhileHeld (h : Agrees s u) : Agrees s u.takeWhileHeld :=
  .ite (.ite h.selfTestTake h) (.ite h.releaseTake h)

theorem Agrees.becomeHeld (h : Agrees s u) : Agrees s u.becomeHeld := by
  have held : Agrees s u.boltHeld := h.edit (by simp)
  exact .ite held.takeWhileHeld held

theorem Agrees.selfTestCloses (h : Agrees s u) : Agrees s u.selfTestCloses := by
  unfold State.selfTestCloses
  split
  · exact .seatIfClosed (h.edit (by simp))
  · exact h

theorem Agrees.boltDropped (h : Agrees s u) : Agrees s u.boltDropped := by
  have dropped : Agrees s (State.evaluateSince
      { u with dock := { u.dock.coilOff with bolt := .closed, release := false } } u) := h.edit (by simp)
  exact .ite (dropped.edit (by simp)) (.ite dropped.startSettle.hireSeated dropped)

theorem Agrees.abortDrive (h : Agrees s u) : Agrees s u.abortDrive := by
  have closing : Agrees s u.enterClosing := h.edit (by simp)
  exact .ite h.selfTestCloses (.ite closing.startSettle.seatIfClosed closing.seatIfClosed)

/-! ### The release request and the HIRE write (R51, R115 to R117, R123) -/

theorem Agrees.requestRelease (h : Agrees s u) (hr : u.hire.record.isSome = true) : Agrees s u.requestRelease := by
  have releasing : Agrees s { u with hire := { u.hire with state := .releasing } } :=
    h.hired (State.hireSound_of_record hr nofun) rfl
  exact .ite (releasing.enterCancelling hr) (releasing.edit (by simp))

theorem Agrees.requestHireWrite {written : HireSection} {summary : Option RideSummary} (h : Agrees s u)
    (hr : u.hire.record.isSome = true) : Agrees s (u.requestHireWrite written summary) := by
  have taken : Agrees s ({ u with hire := { u.hire with state := .tagging } }.onRecord (fun r =>
      { r with prior := u.copyHire, bike := u.copyId, written := some written, summary := summary })) :=
    h.hired (State.hireSound_of_record (by simpa [State.onRecord] using hr) (by simp)) rfl
  unfold State.requestHireWrite
  dsimp only
  split <;> rename_i heq
  · exact (taken.of_requestWrite heq).onRecord
  · exact (taken.of_requestWrite heq).refuseWithdrawing
  · exact (taken.of_requestWrite heq).refuseWithdrawing

theorem Agrees.hireWritten (h : Agrees s u) (hr : u.hire.record.isSome = true) : Agrees s u.hireWritten :=
  .ite (h.enterCancelling hr) (.ite (h.enterCancelling hr) (h.requestRelease hr))

theorem Agrees.hireWriteAnswered {ref : Nat} {answer : WriteAnswer} (h : Agrees s u) :
    Agrees s (u.hireWriteAnswered ref answer) := by
  unfold State.hireWriteAnswered
  split
  · rename_i hr
    split
    · split
      case h_1 =>
        split
        · exact h.hireWritten (by simp [hr])
        · exact h.refuseWithdrawing
        · exact h.refuseWithdrawing
      case h_2 => exact h.cancelOver
      all_goals exact h
    · exact h
  · exact h

/-! ### Claiming (R112, R113) -/

/-- The CLM is offered for a hire whose record holds an answer. -/
theorem Agrees.claim (h : Agrees s u) : Agrees s u.claim := by
  unfold State.claim
  split
  · rename_i hr
    split <;> rename_i heq
    · refine .onRecord ((h.of_offer heq).hired (State.hireSound_of_record ?_ nofun) rfl)
      simp [State.hire_of_offer heq, hr]
    · exact (h.of_offer heq).refuse
  · exact h

theorem Agrees.clmBusy {ref : Nat} (h : Agrees s u) : Agrees s (u.clmBusy ref) := .ite h.refuse (h.edit ⟨rfl, rfl⟩)

theorem Agrees.clmSent {ref : Nat} {serial : BitVec 8} {at_ : Ms} (h : Agrees s u) :
    Agrees s (u.clmSent ref serial at_) := by
  unfold State.clmSent
  split
  · exact h.onRecord
  · split
    · have forgotten : Agrees s
          { u with hire := { u.hire with unwanted := u.hire.unwanted.filter (fun v => decide (v.ref ≠ ref)) } } :=
        h.edit ⟨rfl, rfl⟩
      exact forgotten.edit (by simp)
    · exact h

theorem Agrees.answerBusy {e : TxEntry} (h : Agrees s u) : Agrees s (u.answerBusy e) := by
  unfold State.answerBusy
  split
  case h_1 => exact h.clmBusy
  case h_2 => exact .ite (h.edit (by simp)) h
  all_goals exact h

theorem Agrees.claimWindowEnds (h : Agrees s u) : Agrees s u.claimWindowEnds := by
  unfold State.claimWindowEnds
  split
  · rename_i hr
    split
    · exact h.refuseWithdrawing
    · exact h.requestHireWrite (by simp [hr])
  · exact h

/-! ### Eligibility and crew cards (R107 to R109, R123) -/

theorem Agrees.startLookup {card : CardRecord} (h : Agrees s u) (hr : u.hire.record.isSome = true) :
    Agrees s (u.startLookup card) := by
  refine h.hired (State.hireSound_of_record ?_ ?_) (by simp)
  · simpa [State.startLookup] using hr
  · simp [State.startLookup]

theorem Agrees.claimWith {a : Answer} (h : Agrees s u) : Agrees s (u.claimWith a) := h.onRecord.claim

theorem Agrees.checkReading {card : CardRecord} {reading : Option Answer} (h : Agrees s u)
    (hr : u.hire.record.isSome = true) : Agrees s (u.checkReading card reading) := by
  unfold State.checkReading
  split
  · exact .ite h.refuse (h.startLookup hr)
  · split
    · exact h.refuse
    · exact h.claimWith

theorem Agrees.checkMember {card : CardRecord} (h : Agrees s u) (hr : u.hire.record.isSome = true) :
    Agrees s (u.checkMember card) := by
  unfold State.checkMember
  split
  · exact h.refuse
  · have reading : Agrees s (u.cardReading card.member).1 := h.edit (by simp)
    exact reading.checkReading (by simpa using hr)

theorem Agrees.lookupAnswered {card : CardRecord} {a : Answer} (h : Agrees s u) : Agrees s (u.lookupAnswered card a) := by
  unfold State.lookupAnswered
  split
  · exact h.refuse
  · split
    · exact h.refuse
    · exact h.claimWith

theorem Agrees.lookupExpires {card : CardRecord} (h : Agrees s u) : Agrees s (u.lookupExpires card) := by
  unfold State.lookupExpires
  split
  · split
    · exact h.refuse
    · exact h.claimWith
  · exact h.refuse

theorem Agrees.checkCrew {card : CardRecord} (h : Agrees s u) (hr : u.hire.record.isSome = true) :
    Agrees s (u.checkCrew card) :=
  .ite (.ite h.refuse (.ite h.refuse (h.requestHireWrite hr))) (.hireIdle (h.edit (by simp)))

theorem Agrees.beginHire {card : CardRecord} (h : Agrees s u) : Agrees s (u.beginHire card) := by
  have check : ∀ kind, Agrees s
      { u with hire := { u.hire with state := .check, record := some (HireRecord.ofCard kind card) } } :=
    fun _ => h.hired (State.hireSound_of_record rfl nofun) rfl
  exact .ite ((check .crew).checkCrew rfl) ((check .member).checkMember rfl)

/-! ### Post restart (R70, R73, R124, R175) and cards at the hire controller (R105) -/

/-- The cancellation of R124 leaves the hire state and its record for the end that follows it. -/
@[simp] theorem State.cancelByState_agreement (s : State) : s.cancelByState.hire.agreement = s.hire.agreement := by
  unfold State.cancelByState
  (repeat' split) <;> simp [HireController.agreement]

theorem Agrees.cutShort (h : Agrees s u) : Agrees s u.cutShort :=
  .ite (h.edit (by simp)) (.hireIdle (h.edit (by simp)))

theorem Agrees.startSelfTest {crew : Nat} (h : Agrees s u) : Agrees s (u.startSelfTest crew) := by
  have running : Agrees s { u with dock := { u.dock with selfTest := some { phase := .pullIn, crew := crew } } } :=
    h.edit (by simp)
  exact running.cutShort.edit ⟨by simp, by simp [State.startSelfTest]⟩

theorem Agrees.takeCard {card : CardRecord} {held : Bool} (h : Agrees s u) : Agrees s (u.takeCard card held) :=
  .ite h (.ite h.startSelfTest (.ite h.beginHire (.ite (h.edit (by simp)) h)))

end

end Sys2Proof.Machine
end

section
/-! The time quality and the hire record under the tag port, the dock mechanism, the listening blocks and the line, and at
every command. -/

namespace Sys2Proof.Machine

section
variable {s u t : State}

/-! ### What moves neither agreement -/

theorem Agrees.dock {d : Dock} (h : Agrees s u) : Agrees s { u with dock := d } := h.edit (by simp)

theorem Agrees.line {l : Line} (h : Agrees s u) : Agrees s { u with line := l } := h.edit (by simp)

theorem Agrees.reachMs {due : Ms} (h : Agrees s u) : Agrees s (u.reachMs due) := h.edit (by simp)

theorem Agrees.reachInstant {due : Instant} (h : Agrees s u) : Agrees s (u.reachInstant due) := h.edit (by simp)

theorem Agrees.consume {source : CaptureSource} (h : Agrees s u) : Agrees s (u.consume source) := h.edit (by simp)

theorem Agrees.evaluateSince {before : State} (h : Agrees s u) : Agrees s (u.evaluateSince before) := h.edit (by simp)

theorem Agrees.raisePost {f : PostFault} (h : Agrees s u) : Agrees s (u.raisePost f) := h.edit (by simp)

theorem Agrees.jam (h : Agrees s u) : Agrees s u.jam := h.edit (by simp)

theorem Agrees.endSelfTest (h : Agrees s u) : Agrees s u.endSelfTest := h.edit (by simp)

theorem Agrees.beginWrite (h : Agrees s u) : Agrees s u.beginWrite := h.edit (by simp)

theorem Agrees.appendEvent {e : Event} (h : Agrees s u) : Agrees s (u.appendEvent e) := h.edit (by simp)

theorem Agrees.handOn {f : Frame} {before : State} (h : Agrees s u) : Agrees s (u.handOn f before) := h.edit (by simp)

theorem Agrees.offerHeld (h : Agrees s u) : Agrees s u.offerHeld := h.edit (by simp)

theorem Agrees.takeUnreadable (h : Agrees s u) : Agrees s u.takeUnreadable := h.edit (by simp)

theorem Agrees.respond {status : PortStatus} (h : Agrees s u) : Agrees s (u.respond status) := h.edit (by simp)

theorem Agrees.respondOffer {kind : Kind} {body : List Byte} (h : Agrees s u) : Agrees s (u.respondOffer kind body) :=
  (h.edit (by simp))

theorem Agrees.goSilent {n : Nat} (h : Agrees s u) : Agrees s (u.goSilent n) := by
  obtain ⟨_, _, _, _, _, htime, _, _, _, _, hhire, _⟩ := u.goSilent_frame n
  exact h.edit ⟨by rw [htime rfl], by rw [hhire rfl]⟩

/-! ### Outcomes of tag operations and docking (R56, R74 to R82) -/

theorem Agrees.writeAnswered {r : WriteRequest} {answer : WriteAnswer} (h : Agrees s u) :
    Agrees s (u.writeAnswered r answer) := by
  unfold State.writeAnswered
  split
  · exact h.hireWriteAnswered
  · exact h.edit (by simp)
  · exact h.edit (by simp)
  · exact h.edit (by simp)

theorem Agrees.finishWrite {r : WriteRequest} {answer : WriteAnswer} (h : Agrees s u) :
    Agrees s (u.finishWrite r answer) := by
  have idle : Agrees s { u with tag := { u.tag with operation := .idle } } := h.edit (by simp)
  refine .beginWrite (.writeAnswered ?_)
  split
  · exact idle.edit (by simp)
  · exact idle.edit (by simp)
  · exact idle.edit (by simp)

@[simp] theorem State.dockBike_agreement (c : Capture) (s : State) :
    (s.dockBike c).time.agreement = s.time.agreement := by
  simp [State.dockBike]

@[simp] theorem State.startUpDocking_agreement (released : Ms) (s : State) :
    (s.startUpDocking released).time.agreement = s.time.agreement := by
  simp [State.startUpDocking]

theorem Agrees.dockingTest (h : Agrees s u) : Agrees s u.dockingTest := by
  have consumed : Agrees s (u.consume .boltClosed) := h.edit (by simp)
  unfold State.dockingTest
  dsimp only
  split
  · exact .ite (consumed.edit (by simp)) consumed
  · exact consumed

theorem Agrees.tagAnswers (h : Agrees s u) : Agrees s u.tagAnswers := by
  unfold State.tagAnswers
  split
  · exact .ite (h.edit (by simp)) (h.edit (by simp))
  · exact h.edit (by simp)
  · exact h
  · exact h
  · exact h

theorem Agrees.tagSilent (h : Agrees s u) : Agrees s u.tagSilent := by
  unfold State.tagSilent
  split
  · exact .ite (h.edit (by simp)) (h.edit (by simp))
  · exact .finishWrite (h.edit (by simp))
  · exact h
  · exact h
  · exact h

theorem Agrees.sectionRead {bytes : List Byte} (h : Agrees s u) : Agrees s (u.sectionRead bytes) := by
  unfold State.sectionRead
  split
  · exact .ite (h.edit (by simp)) (h.edit (by simp))
  · exact .ite (.finishWrite (h.edit (by simp))) (.ite (.finishWrite (h.edit (by simp))) (h.edit (by simp)))
  · exact h
  · exact h

theorem Agrees.gatheringEnds {name : SlotName} {r : ReturnRecord} {time tariff : Bool} (h : Agrees s u) :
    Agrees s (u.gatheringEnds name r time tariff) := by
  have unrated : ∀ reason, Agrees s (u.settleUnrated name r reason) := fun _ =>
    h.edit (by simp [State.settleUnrated])
  exact .ite (unrated _) (.ite (unrated _) (h.edit (by simp)))

/-! ### The analog sweep (R65 to R69) -/

theorem Agrees.requestPeriodic (h : Agrees s u) : Agrees s u.requestPeriodic := by
  unfold State.requestPeriodic
  split
  · exact h.dock
  · exact h.dock
  · exact h.dock

theorem Agrees.requestEvent (h : Agrees s u) : Agrees s u.requestEvent := by
  unfold State.requestEvent
  split
  · exact h.dock
  · exact h.dock
  · exact h.dock

theorem Agrees.nextBurst (h : Agrees s u) : Agrees s u.nextBurst := by
  unfold State.nextBurst
  split
  · exact h.dock.dock
  · exact h.dock.dock
  · exact h.dock

theorem Agrees.takeCh0 {pullIn : Nat} {code : BitVec 10} (h : Agrees s u) : Agrees s (u.takeCh0 pullIn code) := by
  have taken : Agrees s { u with dock := { u.dock with ch0 := Channel.judged code } } := h.dock
  exact .ite (.ite (.abortDrive (taken.edit (by simp))) (.ite (.abortDrive (taken.edit (by simp))) taken)) taken

theorem Agrees.takeCh1 {code : BitVec 10} (h : Agrees s u) : Agrees s (u.takeCh1 code) := by
  have taken : Agrees s { u with dock := { u.dock with ch1 := Channel.judged code } } := h.dock
  unfold State.takeCh1 State.judgeCh1
  dsimp only
  refine .ite (taken.edit ?_) h
  (repeat' split) <;> simp

theorem Agrees.takeCh2 {code : BitVec 10} (h : Agrees s u) : Agrees s (u.takeCh2 code) :=
  .ite (h.edit (by simp)) (.ite (h.edit (by simp)) h.dock)

theorem Agrees.takeCh3 {lit : Bool} {code : BitVec 10} (h : Agrees s u) : Agrees s (u.takeCh3 lit code) :=
  .ite (h.edit (by simp)) h.dock

theorem Agrees.takeBurst {b : Burst} {code0 code1 code2 code3 : BitVec 10} (h : Agrees s u) :
    Agrees s (u.takeBurst b code0 code1 code2 code3) := by
  unfold State.takeBurst
  split
  · exact h.takeCh0
  · exact h.takeCh1.takeCh2.takeCh3
  · exact h.takeCh2.takeCh3

/-! ### The bolt's edges and timers (R49 to R57, R71) -/

theorem Agrees.openEdgeAct (h : Agrees s u) : Agrees s u.openEdgeAct := by
  have consumed : Agrees s (u.consume .boltOpen) := h.edit (by simp)
  unfold State.openEdgeAct
  split
  · exact consumed.dock
  · exact .ite consumed.dock.becomeHeld consumed.dock
  · exact h
  · exact h
  · exact consumed

theorem Agrees.boltOpens (h : Agrees s u) : Agrees s u.boltOpens :=
  .openEdgeAct (.dock (h.edit (t := u.stamp .boltOpen) (by simp)))

theorem Agrees.closedEdgeAct (h : Agrees s u) : Agrees s u.closedEdgeAct := by
  have consumed : Agrees s (u.consume .boltClosed) := h.edit (by simp)
  unfold State.closedEdgeAct
  split
  · exact h.dock.dockingTest
  · exact .ite consumed.boltDropped h
  · exact consumed.boltDropped
  · exact h.seat.dockingTest
  · exact h.dockingTest

theorem Agrees.boltCloses (h : Agrees s u) : Agrees s u.boltCloses :=
  .closedEdgeAct (.dock (h.edit (t := u.stamp .boltClosed) (by simp)))

theorem Agrees.pullInEnds (h : Agrees s u) : Agrees s u.pullInEnds := by
  unfold State.pullInEnds
  split
  · exact .ite h.reachMs.dock.becomeHeld h.reachMs.dock
  · exact h

theorem Agrees.openCheckFails (h : Agrees s u) : Agrees s u.openCheckFails := by
  have jammed : Agrees s u.jam := h.edit (by simp)
  exact .ite (jammed.edit (by simp)) (.ite jammed.dock.startSettle jammed)

theorem Agrees.openCheckDue (h : Agrees s u) : Agrees s u.openCheckDue := by
  unfold State.openCheckDue
  split
  · exact .ite h.reachMs.dock.openCheckFails h.reachMs.dock
  · exact h

theorem Agrees.takeWindowDue (h : Agrees s u) : Agrees s u.takeWindowDue := by
  unfold State.takeWindowDue
  split
  · exact .ite (.seatIfClosed (.startSettle (h.edit (by simp)))) h.reachMs.dock
  · exact h

theorem Agrees.closeCheckDue (h : Agrees s u) : Agrees s u.closeCheckDue := by
  unfold State.closeCheckDue
  split
  · rename_i due _
    have taken : Agrees s { u.reachMs due with dock := { (u.reachMs due).dock with closeCheckAt := none } } :=
      h.reachMs.dock
    exact .ite taken.jam.dock.endSelfTest taken
  · exact h

theorem Agrees.pushAsideDue (h : Agrees s u) : Agrees s u.pushAsideDue := by
  unfold State.pushAsideDue
  split
  · exact .ite (h.edit (by simp)) h.reachMs.dock
  · exact h

/-! ### The mouth and the button (R58 to R62) -/

theorem Agrees.mouthEmpties (h : Agrees s u) : Agrees s u.mouthEmpties := by
  have stamped : Agrees s (u.stamp .mouthOut) := h.edit (by simp)
  have kept := Agrees.ite (c := u.dock.docked = true) stamped
    (stamped.edit (t := ((u.stamp .mouthOut).consume .mouthOut).consume .mouthIn) (by simp))
  exact .ite kept.takeWhileHeld (.ite kept.bikeLeaves kept)

theorem Agrees.countUp (h : Agrees s u) : Agrees s u.countUp := .ite (h.edit (by simp)) h.dock

theorem Agrees.countDown (h : Agrees s u) : Agrees s u.countDown := .ite h.dock.mouthEmpties h.dock

theorem Agrees.beamNoise (h : Agrees s u) : Agrees s u.beamNoise := .ite h (.ite (h.edit (by simp)) h.dock)

theorem Agrees.beamsChange {a b : Bool} (h : Agrees s u) : Agrees s (u.beamsChange a b) :=
  .ite h (.ite h.dock.countUp (.ite h.dock.countDown h.dock.beamNoise))

theorem Agrees.buttonPressed (h : Agrees s u) : Agrees s u.buttonPressed :=
  .dock (h.edit (t := (u.stamp .button).consume .button) (by simp))

theorem Agrees.burstEnds (h : Agrees s u) : Agrees s u.burstEnds := by
  unfold State.burstEnds
  split
  · exact .ite h.reachMs.dock (h.edit (by simp))
  · exact h

/-! ### The timers of the hire controller (R101, R109, R112, R121) -/

theorem Agrees.lookupDue (h : Agrees s u) : Agrees s u.lookupDue := by
  unfold State.lookupDue
  split
  · rename_i l _
    have ended : Agrees s { u.reachMs l.expiresAt with view := { (u.reachMs l.expiresAt).view with lookup := none } } :=
      (h.edit (by simp))
    exact .ite ended.lookupExpires ended
  · exact h

theorem Agrees.settleEnds (h : Agrees s u) (hr : u.hire.record.isSome = true) : Agrees s u.settleEnds :=
  .ite (h.enterCancelling hr) h.treatAsTaken

/-- The settle procedure runs with a hire record. -/
theorem State.settleDue_record {due : Ms} (h : s.settleDue = some due) : s.hire.record.isSome = true := by
  unfold State.settleDue at h
  split at h
  · exact isSome_of_bind (by rw [h]; rfl)
  · cases h

/-! ### The timebase (R39 to R42, R47) -/

/-- An adoption leaves a base pair, the quality SET, the staleness timer running and no carry due, whatever was before. -/
@[simp] theorem State.adoptTime_agreement (schemeMs : Nat) (s : State) :
    (s.adoptTime schemeMs).time.agreement =
      (some { localMs := s.clock.ms, schemeMs := schemeMs }, .set, some (s.clock.ms + dayMs), none) := by
  unfold State.adoptTime
  dsimp only
  split
  · rw [State.backDate_agreement]; rfl
  · rfl

theorem Agrees.adoptTime {schemeMs : Nat} (h : Agrees s u) : Agrees s (u.adoptTime schemeMs) := by
  refine h.timed (fun _ => ?_) (by simp)
  have adopted := u.adoptTime_agreement schemeMs
  simp only [Timebase.agreement, Prod.mk.injEq] at adopted
  obtain ⟨hbase, hquality, hstale, hcarry⟩ := adopted
  simp [State.timeSound, hbase, hquality, hstale, hcarry]

theorem Agrees.takeTim {body : List Byte} (h : Agrees s u) : Agrees s (u.takeTim body) := .ite h.adoptTime h

/-- The staleness timer runs with a base pair, which is carried. -/
theorem Agrees.becomeStale (h : Agrees s u) : Agrees s u.becomeStale := by
  unfold State.becomeStale
  split
  · rename_i due hdue
    refine h.timed (fun ⟨hbase, hstale, _⟩ => ?_) (by simp [State.carryBase])
    have set : u.time.quality = .set := hstale.1 (by simp [hdue])
    simp [State.timeSound, State.carryBase, hbase, set]
  · exact h

theorem Agrees.carryDue (h : Agrees s u) : Agrees s u.carryDue := by
  unfold State.carryDue
  split
  · rename_i due hdue
    refine h.timed (fun ⟨hbase, hstale, hcarry⟩ => ?_) (by simp [State.carryBase])
    have stale : u.time.quality = .stale := hcarry.1 (by simp [hdue])
    simp_all [State.timeSound, State.carryBase]
  · exact h

theorem Agrees.setHeldCapture {holder : PendingHolder} {c : Capture} (h : Agrees s u) :
    Agrees s (u.setHeldCapture holder c) := by
  cases holder
  case slot source => exact h.edit ⟨u.time.setSlot_agreement source _, rfl⟩
  case dockingCapture => exact h.edit ⟨rfl, rfl⟩
  case dockedSince => exact h.edit ⟨rfl, rfl⟩

theorem Agrees.pendingLapses {holder : PendingHolder} (h : Agrees s u) : Agrees s (u.pendingLapses holder) := by
  unfold State.pendingLapses
  split
  · exact .ite h.reachMs.setHeldCapture h
  · exact h

theorem Agrees.slotLapses {source : CaptureSource} (h : Agrees s u) : Agrees s (u.slotLapses source) := by
  unfold State.slotLapses
  split
  · exact h.reachMs.consume
  · exact h

/-! ### The listening blocks -/

theorem Agrees.takeClm {sender : Nat} {serial : BitVec 8} {body : List Byte} (h : Agrees s u) :
    Agrees s (u.takeClm sender serial body) := .ite h (h.edit ⟨rfl, rfl⟩)

theorem Agrees.takeMbr {body : List Byte} (h : Agrees s u) : Agrees s (u.takeMbr body) := by
  have viewed : ∀ view, Agrees s { u with view := view } := fun _ => h.edit (by simp)
  unfold State.takeMbr
  split
  · dsimp only
    split
    · exact .ite (.ite (viewed _).lookupAnswered (viewed _)) (viewed _)
    · exact viewed _
  · exact h

theorem Agrees.postTakes {f : Frame} {own : Option Nat} (h : Agrees s u) : Agrees s (u.postTakes f own) := by
  unfold State.postTakes
  split
  case h_1 => exact h.takeClm
  case h_2 => exact h.edit ⟨rfl, rfl⟩
  case h_3 => exact h.edit (by simp)
  case h_4 => exact h.edit ⟨rfl, rfl⟩
  case h_5 => exact h.edit (by simp)
  case h_7 => exact .ite (h.edit (by simp)) h
  case h_9 => exact .ite h.takeMbr h
  case h_10 => exact .ite (h.edit (by simp)) h
  case h_12 => exact .ite (h.edit (by simp)) h
  case h_14 => exact .ite h.takeTim h
  case h_15 => exact .ite (h.edit (by simp)) h
  all_goals exact h

theorem Agrees.vanTakes {f : Frame} (h : Agrees s u) : Agrees s (u.vanTakes f) := by
  unfold State.vanTakes
  split
  case h_3 => exact h.edit (by simp)
  case h_10 => exact .ite (h.edit (by simp)) h
  case h_11 => exact h.edit (by simp)
  case h_12 => exact .ite (h.edit (by simp)) h
  case h_14 => exact .ite h.takeTim h
  all_goals exact h

theorem Agrees.monitorTakes {f : Frame} (h : Agrees s u) : Agrees s (u.monitorTakes f) :=
  .appendEvent (.ite h.takeTim h)

theorem Agrees.blocksTake {f : Frame} {own : Option Nat} (h : Agrees s u) : Agrees s (u.blocksTake f own) := by
  unfold State.blocksTake
  split
  · exact h.postTakes
  · exact h.edit (by simp)
  · exact h.vanTakes
  · exact h.monitorTakes

theorem Agrees.takeFromPeer {f : Frame} (h : Agrees s u) : Agrees s (u.takeFromPeer f) := by
  have heard : Agrees s (u.peerHears f) := h.edit (by simp)
  have handed : Agrees s ((u.peerHears f).handOn f u) := heard.edit (by simp)
  exact .ite heard.blocksTake.handOn handed.blocksTake

/-! ### The line controller (R2 to R6, R9 to R19) -/

theorem Agrees.removeBusy {e : TxEntry} (h : Agrees s u) : Agrees s (u.removeBusy e) := h.line.answerBusy

theorem Agrees.endContended (h : Agrees s u) : Agrees s u.endContended := by
  unfold State.endContended
  split
  · exact .ite (.ite h.line.removeBusy.offerHeld h.line.removeBusy) (.ite (h.edit (by simp)) h.line)
  · exact h.line

theorem Agrees.setClash (h : Agrees s u) : Agrees s u.setClash :=
  .raisePost (Agrees.foldl (f := fun s e => s.removeBusy e) (fun _ _ hv => hv.removeBusy) _ h.line)

theorem Agrees.takeFrame {f : Frame} (h : Agrees s u) : Agrees s (u.takeFrame f) :=
  .ite h.line.setClash h.line.takeFromPeer

theorem Agrees.frameEnds {bytes : List Byte} (h : Agrees s u) : Agrees s (u.frameEnds bytes) := by
  unfold State.frameEnds
  dsimp only
  split
  · exact h.line.takeFrame
  · exact h.edit (by simp)

theorem Agrees.receiveChar {c : LineChar} (h : Agrees s u) : Agrees s (u.receiveChar c) := by
  unfold State.receiveChar
  split
  · exact h.edit (by simp)
  · exact h
  · exact h.edit (by simp)
  · exact h.edit (by simp)
  · exact .ite (h.edit (by simp)) (.ite h.frameEnds (h.edit (by simp)))
  · exact h

theorem Agrees.lineReceives {c : LineChar} (h : Agrees s u) : Agrees s (u.lineReceives c) := by
  have ended : Agrees s (u.characterEnds c) := h.edit (by simp)
  unfold State.lineReceives
  split
  · exact .ite (h.edit (by simp)) h
  · exact ended.receiveChar

theorem Agrees.echoFails {bit : Nat} (h : Agrees s u) : Agrees s (u.echoFails bit) := by
  unfold State.echoFails
  split
  · rename_i x _
    refine .ite (.endContended (h.edit ?_)) h
    unfold State.keepOwnCharacters
    dsimp only
    split <;> simp
  · exact h

theorem Agrees.answerSent {e : TxEntry} {serial : BitVec 8} (h : Agrees s u) : Agrees s (u.answerSent e serial) :=
  .ite h.clmSent h

theorem Agrees.sentIntact {x : Transmission} {e : TxEntry} (h : Agrees s u) : Agrees s (u.sentIntact x e) := by
  have counted : Agrees s ((u.abandonForOwn x).countSent e) := (h.edit (t := u.abandonForOwn x) (by simp)).line
  have heard : Agrees s ((u.abandonForOwn x).countSent e).hearSelf := counted.edit (by simp)
  have answered := (heard.blocksTake (f := u.ownFrame e) (own := some e.ref)).answerSent (e := e) (serial := u.line.serial)
  exact .ite (answered.edit (by simp)) answered

theorem Agrees.transmissionEnds (h : Agrees s u) : Agrees s u.transmissionEnds := by
  unfold State.transmissionEnds
  split
  · exact .sentIntact (h.edit (by simp))
  · exact h

theorem Agrees.detectStuck (h : Agrees s u) : Agrees s u.detectStuck := .endContended (h.edit (by simp))

theorem Agrees.deadlinePasses (h : Agrees s u) : Agrees s u.deadlinePasses := by
  unfold State.deadlinePasses
  split
  · exact .ite h.reachMs h.reachMs.removeBusy
  · exact h

/-! ### The card port (R88 to R91) -/

theorem Agrees.recordUnreadable (h : Agrees s u) : Agrees s u.recordUnreadable := by
  have counted : Agrees s { u with card := { u.card with unreadableRun := min (u.card.unreadableRun + 1) 8 } } :=
    h.edit (by simp)
  exact .takeUnreadable (.ite counted.raisePost counted)

theorem Agrees.recordEnds (h : Agrees s u) : Agrees s u.recordEnds := by
  have idle : Agrees s u.assemblerIdle := h.edit ⟨rfl, rfl⟩
  have consumed : Agrees s (u.assemblerIdle.consume .card) := idle.edit (by simp)
  unfold State.recordEnds
  split
  · exact idle
  · exact idle.recordUnreadable
  · exact idle.recordUnreadable
  · split
    · exact .takeCard (consumed.edit (by simp))
    · exact consumed.recordUnreadable

theorem Agrees.assemble {c : CardChar} (h : Agrees s u) : Agrees s (u.assemble c) := by
  have collected : Agrees s (u.collectCharacter c.data) := .ite (h.edit (by simp)) (h.edit (by simp))
  have voided : ∀ reason, Agrees s (u.voidRecord reason) := fun _ => h.edit ⟨rfl, rfl⟩
  unfold State.assemble
  split
  · exact collected
  · exact collected
  · exact voided _
  · exact voided _
  · exact (voided _).consume
  · exact h

/-! ### The local port (R180 to R188) -/

theorem Agrees.requestTimeSet {body : List Byte} (h : Agrees s u) : Agrees s (u.requestTimeSet body) := by
  have restarted : ∀ scheme store, Agrees s { u.adoptTime scheme with terminal := store } :=
    fun scheme _ => (h.adoptTime (schemeMs := scheme)).edit ⟨rfl, rfl⟩
  exact .ite h.respond (.ite (restarted _ _).respond (restarted _ _).respondOffer)

/-- A TIME_SET apart, a request moves neither the timebase nor the hire controller. -/
theorem Agrees.requestOf {k : RequestKind} {body : List Byte} (h : Agrees s u) : Agrees s (requestOf k body u) := by
  cases k
  case timeSet => exact h.requestTimeSet
  all_goals exact h.edit (by simp [Machine.requestOf])

theorem Agrees.takeRequest {k : RequestKind} {body : List Byte} (h : Agrees s u) :
    Agrees s (u.takeRequest k (Machine.requestOf k) body) := by
  have shifted : Agrees s (u.shiftFiller (4 + body.length)) := h.edit (by simp)
  exact .ite (.ite shifted.requestOf (shifted.edit (by simp))) h

theorem Agrees.takeRecord {bytes : List Byte} (h : Agrees s u) : Agrees s (u.takeRecord bytes) := by
  have shifted : Agrees s (u.shiftFiller bytes.length) := h.edit (by simp)
  refine .ite (.ite (shifted.edit (by simp)) ?_) h
  split
  · exact shifted.edit (by simp)
  · exact h.takeRequest

theorem Agrees.takeTransaction {bytes : List Byte} (h : Agrees s u) : Agrees s (u.takeTransaction bytes) := by
  unfold State.takeTransaction
  split
  · exact h
  · exact .ite (.ite (h.edit (by simp)) h) h.takeRecord

end

/-! ### Every command -/

/-- A command that answers by the conclusion of a state in agreement. -/
theorem Agrees.of_answer {s u t : State} (h : Agrees s u) (heq : answerNext u = .next t) : Agrees s t := by
  obtain rfl : conclude u = t := by simpa [answerNext] using heq
  exact h.edit (by rw [conclude_eq]; exact ⟨rfl, rfl⟩)

/-- Every command but FULL_RESET keeps the agreements. -/
theorem exec_agrees {i : Instr} {s t : State} (hi : ∀ straps o a b, i ≠ .fullReset straps o a b)
    (heq : exec i s = .next t) : Agrees s t := by
  have start := Agrees.refl s
  cases i
  case fullReset => exact absurd rfl (hi _ _ _ _)
  all_goals refine .of_answer ?_ heq
  case quiet =>
    obtain ⟨c, hc⟩ := s.reachQuiet_eq
    refine .ite (start.edit ?_) start
    simp [State.becomeQuiet, hc, State.endStuck_eq]
  case accessWaitExpiry =>
    unfold State.accessWaitEnds
    split
    · exact start.edit (by simp)
    · exact start
  case echoCheckFail => exact start.echoFails
  case sentIntact => exact start.transmissionEnds
  case frameReceived =>
    split
    · exact .ite start.lineReceives start
    · exact start
  case frameAbandoned =>
    split
    · exact .ite start.lineReceives start
    · exact start
  case receiveGapExpiry =>
    unfold State.receiveGap
    split
    · exact .ite (start.edit (by simp)) start
    · exact start
  case stuckLine => exact .ite start.detectStuck start
  case lineClear =>
    unfold State.lineClears
    split
    · exact start.edit (by simp)
    · exact start
  case deadlineExpiry => exact start.deadlinePasses
  case startBit => exact .ite start.line start
  case lineCharacter => exact start.lineReceives
  case beaconTimerExpiry =>
    unfold State.beaconDue
    split
    · exact start.edit (by simp)
    · exact start
  case silenceTimerExpiry =>
    unfold State.silenceDue
    split
    · exact .ite start start.reachMs.goSilent
    · exact start
  case duplicateHoldExpiry =>
    unfold State.duplicateHoldEnds
    split
    · exact start.edit (by simp)
    · exact start
  case stalenessExpiry => exact start.becomeStale
  case carry => exact start.carryDue
  case pendingLapse => exact start.pendingLapses
  case captureSlotLapse => exact start.slotLapses
  case openEdge => exact .ite start.boltOpens start
  case closedEdge => exact .ite start.boltCloses start
  case pullInEnd => exact start.pullInEnds
  case openCheckExpiry => exact start.openCheckDue
  case takeWindowExpiry => exact start.takeWindowDue
  case closeCheckExpiry => exact start.closeCheckDue
  case pushAsideLimitExpiry => exact start.pushAsideDue
  case holdPhaseEnd =>
    split
    · exact start.reachMs.selfTestCloses
    · exact start
  case beamEdge => exact .ite start.beamsChange start
  case buttonPress => exact .ite start.buttonPressed start
  case buttonRelease => exact .ite start.dock start
  case burstEndExpiry => exact start.burstEnds
  case flashPhaseExpiry =>
    unfold State.flashPhaseEnds
    split
    · exact start.reachMs.dock
    · exact start
  case refusalDisplayEnd | crewAcknowledgementEnd =>
    split
    · exact start.reachMs.dock
    · exact start
  case periodicTimerExpiry =>
    split
    · exact .requestPeriodic start.reachMs.dock
    · exact start
  case ch0Request =>
    split
    · exact .requestEvent start.reachMs.dock
    · exact start
  case converterWakeEnd =>
    split
    · exact start.edit (by simp)
    · exact start
    · exact start
  case burstComplete =>
    split
    · exact .nextBurst (.takeBurst (start.reachInstant))
    · exact start
    · exact start
  case tagAnswer => exact start.tagAnswers
  case noTag => exact start.tagSilent
  case sectionReadComplete => exact .ite start.tagAnswers.sectionRead start
  case sectionWriteComplete =>
    split
    · exact start.edit (by simp)
    · exact start
    · exact start
    · exact start
  case cardCharacter =>
    refine .ite (.assemble ?_) start
    exact start.edit ⟨rfl, rfl⟩
  case recordGap =>
    split
    · exact start.reachMs.recordEnds
    · exact start
  case lookupTimerExpiry => exact start.lookupDue
  case claimAgeExpiry =>
    split
    · exact start.reachMs.edit ⟨rfl, rfl⟩
    · exact start
  case claimWindowExpiry =>
    split
    · exact start.reachMs.onRecord.claimWindowEnds
    · exact start
  case settleTimerExpiry =>
    split
    · rename_i due hdue
      exact start.reachMs.settleEnds (by simpa using State.settleDue_record hdue)
    · exact start
  case gatheringExpiry =>
    split
    · exact start.reachMs.gatheringEnds
    · exact start
  case status | peerRead | stationSet | timeSet | tariffLoad | tariffCommit | memberPush | faultClear |
      vanOpen | vanClose | eventRead => exact start.takeRequest
  case ratingComplete | stlRetryExpiry | stlAbandon | reportingWindowExpiry | windowExpiry | offerRetryExpiry |
      timTimerExpiry | trfCycleExpiry =>
    split
    · exact start.edit (by simp)
    · exact start
  case unknownRequest => exact start.takeTransaction
  case readTransaction => exact .ite (start.edit (by simp)) start

/-- What a step is: a full reset, or a state of which the agreements are kept. -/
theorem step_agrees {s t : State} (heq : step s = .next t) :
    (∃ straps o a b p, t = State.atRelease straps o a b p) ∨ Agrees s t := by
  unfold step at heq
  split at heq
  · obtain rfl : s.tick = t := by simpa using heq
    exact .inr ((Agrees.refl s).edit (by simp))
  · rename_i c rest _
    by_cases hc : ∃ straps o a b, c = .fullReset straps o a b
    · obtain ⟨straps, o, a, b, rfl⟩ := hc
      exact .inl ⟨straps, o, a, b, rest, by simpa [exec, execFullReset] using heq.symm⟩
    · simp only [not_exists] at hc
      exact .inr (.trans (u := { s with pending := rest }) ⟨id, id⟩ (exec_agrees hc heq))

/-- Settles O12: an adoption, the staleness timer and the carry move the quality with the base pair and its timers, and the
hire controller takes a record with a hire state other than IDLE and discards it with IDLE. -/
theorem everyStepKeepsTimeAndHire : Obligations.EveryStepKeepsTimeAndHire := by
  refine ⟨?_, ?_⟩ <;> intro s t hs heq <;> rcases step_agrees heq with ⟨straps, o, a, b, p, rfl⟩ | hk
  · simp [State.timeSound, State.atRelease, Timebase.afterReset]
  · exact hk.time hs
  · simp [State.hireSound, State.atRelease, HireController.afterReset]
  · exact hk.hire hs

end Sys2Proof.Machine
end

section
/-! The adoption of time: a TIM of the terminal, the back-dating of every holder, and the rating it starts. -/

namespace Sys2Proof.Machine

/-! ### Back-dating (R47) -/

/-- A pending conversion is made, and a made or lapsed one stays. -/
theorem Capture.convert_eq (base : BasePair) (c : Capture) :
    c.convert base =
      if c.scheme = .pending then { c with scheme := .known (schemeFrom base c.ms) } else c := by
  obtain ⟨ms, scheme, startUp⟩ := c
  cases scheme <;> rfl

/-- The first adoption converts what each holder holds, and a later one leaves it. -/
theorem State.adoptTime_heldCapture (schemeMs : Nat) (s : State) (holder : PendingHolder) :
    (s.adoptTime schemeMs).heldCapture holder =
      if s.timeUnset then
        (s.heldCapture holder).map (Capture.convert { localMs := s.clock.ms, schemeMs := schemeMs })
      else s.heldCapture holder := by
  unfold State.adoptTime
  dsimp only
  split
  · cases holder
    case slot source => cases source <;> simp [State.backDate, State.heldCapture, Timebase.slot]
    case dockingCapture => simp [State.backDate, State.heldCapture]
    case dockedSince => simp [State.backDate, State.heldCapture]
  · cases holder
    case slot source => cases source <;> rfl
    case dockingCapture => rfl
    case dockedSince => rfl

/-! ### A TIM of a peer -/

/-- A peer change touches no settlement slot and no station id. -/
theorem State.handOn_settle (f : Frame) (s before : State) :
    (s.handOn f before).settle = s.settle ∧ (s.handOn f before).peers.adoptedId = s.peers.adoptedId := by
  unfold State.handOn State.peerChange
  split
  · split <;> simp
  · exact ⟨rfl, rfl⟩

/-- What a frame of a peer leaves for the blocks that take it. -/
structure State.LeftToBlocks (s u : State) : Prop where
  straps : u.straps = s.straps
  time : u.time = s.time
  dock : u.dock = s.dock
  tag : u.tag = s.tag
  settle : u.settle = s.settle
  adoptedId : u.peers.adoptedId = s.peers.adoptedId

theorem State.LeftToBlocks.heldCapture {s u : State} (h : s.LeftToBlocks u) (holder : PendingHolder) :
    u.heldCapture holder = s.heldCapture holder := by
  cases holder
  case slot source => simp [State.heldCapture, h.time]
  case dockingCapture => simp [State.heldCapture, h.tag]
  case dockedSince => simp [State.heldCapture, h.dock]

/-- A TIM of a peer reaches the blocks at its end, after the peer table and the peer change. -/
theorem State.takes.tim {c : LineChar} {f : Frame} {s : State} (h : s.takes c f) (hk : f.kind = .tim) :
    ∃ u, exec (.frameReceived c) s = answerNext (u.blocksTake f none) ∧ u.clock.ms = s.heardAt c ∧ s.LeftToBlocks u := by
  obtain ⟨k, l, step, hclock, _⟩ := h.step
  obtain ⟨v, hv⟩ : ∃ v : State, v = { s with clock := k, line := l } := ⟨_, rfl⟩
  rw [← hv] at step
  have heard : v.peerHears f = v.hearFrom f.sender v.clock.ms := v.peerHears_of_notice (by simp [hk])
  obtain ⟨settle, adopted⟩ := (v.peerHears f).handOn_settle f v
  refine ⟨(v.peerHears f).handOn f v, by simpa [State.takeFromPeer, hk] using step, by simp [hv, hclock], ?_⟩
  constructor
  case settle => rw [settle, heard, hv]; rfl
  case adoptedId => rw [adopted, heard, hv]; rfl
  all_goals simp [hv]

/-- A post, the van and a monitor take the TIM of the terminal, and no other TIM. -/
theorem State.blocksTake_tim {f : Frame} (hk : f.kind = .tim) (u : State) (hr : u.straps.role ≠ .terminal)
    (own : Option Nat) :
    (u.blocksTake f own).time = (if f.sender = 0 then u.takeTim f.body else u).time ∧
      (u.blocksTake f own).dock = (if f.sender = 0 then u.takeTim f.body else u).dock ∧
      (u.blocksTake f own).tag = (if f.sender = 0 then u.takeTim f.body else u).tag ∧
      (u.blocksTake f own).settle = (if f.sender = 0 then u.takeTim f.body else u).settle := by
  unfold State.blocksTake
  split
  · simp [State.postTakes, hk]
  · rename_i h; exact absurd h hr
  · simp [State.vanTakes, hk]
  · simp [State.monitorTakes, hk]

theorem timeNoticeIsAdopted : Claims.TimeNoticeIsAdopted := by
  intro c f s htakes hk hr seconds millis now
  obtain ⟨u, step, hclock, left⟩ := htakes.tim hk
  obtain ⟨htime, hdock, htag, _⟩ := u.blocksTake_tim hk (by rw [left.straps]; exact hr) none
  refine ⟨fun hsender hmillis => completes_of_answer step ?_, fun hother => completes_of_answer step ?_⟩
  · have taken : (if f.sender = 0 then u.takeTim f.body else u) = u.adoptTime (seconds * 1000 + millis) := by
      rw [if_pos hsender]; exact if_pos hmillis
    rw [taken] at htime hdock htag
    have adopted := u.adoptTime_agreement (seconds * 1000 + millis)
    rw [← htime, show u.clock.ms = now from hclock] at adopted
    simp only [Timebase.agreement, Prod.mk.injEq] at adopted
    obtain ⟨hbase, hquality, hstale, hcarry⟩ := adopted
    have kept : ∀ holder, (conclude (u.blocksTake f none)).heldCapture holder =
        if s.timeUnset then
          (s.heldCapture holder).map (Capture.convert { localMs := now, schemeMs := seconds * 1000 + millis })
        else s.heldCapture holder := by
      intro holder
      have adopted := u.adoptTime_heldCapture (seconds * 1000 + millis) holder
      rw [left.heldCapture holder, show u.timeUnset = s.timeUnset by simp [State.timeUnset, left.time],
        show u.clock.ms = now from hclock] at adopted
      rw [← adopted]
      cases holder
      case slot source => simp [State.heldCapture, htime]
      case dockingCapture => simp [State.heldCapture, htag]
      case dockedSince => simp [State.heldCapture, hdock]
    refine ⟨by simpa using hbase, by simpa using hquality, by simpa [dayMs] using hstale, by simpa using hcarry, ?_⟩
    intro held
    have reads : ∀ v holder, held v holder = v.heldCapture holder := fun v holder => by cases holder <;> rfl
    refine ⟨fun hset holder => ?_, fun hunset holder hnone => ?_, fun hunset holder capture hsome => ?_⟩
    · rw [reads, reads, kept, if_neg (by simp [hset])]
    · rw [reads, kept, if_pos hunset, ← reads, hnone]
      rfl
    · rw [reads, kept, if_pos hunset, ← reads, hsome, Option.map_some, Capture.convert_eq]
  · have taken : (if f.sender = 0 then u.takeTim f.body else u) = u := by
      rcases hother with h | h
      · exact if_neg h
      · rw [State.takeTim, if_neg (Nat.not_le.2 h)]
        exact ite_self u
    rw [taken] at htime
    simp [htime, left.time]

/-- A station's number and adopted id fix whether a return began at it. -/
theorem State.LeftToBlocks.atStartPost {s u : State} (h : s.LeftToBlocks u) (r : ReturnRecord) :
    u.atStartPost r = s.atStartPost r := by
  unfold State.atStartPost State.number
  rw [h.adoptedId, h.straps]

/-- The GATHERING slot whose last mark goes while its end is known enters RATING (R132, R133, R139). -/
theorem State.markSlot_rates {s : State} {r : ReturnRecord} {at_ : Ms} {plan : PlanRecord} {ms : Nat}
    {f : ReturnRecord → Bool × Bool × Bool → Bool × Bool × Bool} {time tariff station : Bool}
    (hslot : s.settle.slotA = some { record := r, phase := .gathering time tariff station at_ })
    (hf : f r (time, tariff, station) = (false, false, false)) (hend : r.end_ = .known ms)
    (hplan : s.settle.active.planRecord r.plan = some plan) :
    (s.markSlot f .a).settle =
      { s.settle with
        slotA := some
          { record := r
            phase := .rating
              { start := r.start, end_ := ms / 1000, plan := plan, bands := s.settle.active.bandTable
                version := s.settle.active.version, startSpend := r.startSpend, ebike := r.ebike
                atStartPost := s.atStartPost r } (s.clock.ms + 2) } } := by
  simp [State.markSlot, SettlementUnit.slot, hslot, hf, State.setPhase, State.setSlot, State.leaveGathering,
    State.enterRating, State.ratingInputs, hend, hplan]
  rfl

/-- A FREE slot has no marks. -/
theorem State.markSlot_of_free {f : ReturnRecord → Bool × Bool × Bool → Bool × Bool × Bool} {name : SlotName} {s : State}
    (h : s.settle.slot name = none) : s.markSlot f name = s := by
  rw [State.markSlot, h]

/-- With the other slot FREE the marks of a return are those of slot A. -/
theorem State.markSlots_settle {f : ReturnRecord → Bool × Bool × Bool → Bool × Bool × Bool} {s : State}
    {settle : SettlementUnit} (ha : (s.markSlot f .a).settle = settle) (hb : settle.slotB = none) :
    (s.markSlots f).settle = settle := by
  rw [State.markSlots, State.markSlot_of_free (by rw [ha]; exact hb), ha]

/-- The first adoption gives a return that lacks TIME alone its end, and with it the slot enters RATING. -/
theorem State.adoptTime_rates {schemeMs : Nat} {s : State} {r : ReturnRecord} {at_ : Ms} {plan : PlanRecord}
    (hunset : s.timeUnset = true)
    (hslotA : s.settle.slotA = some { record := r, phase := .gathering true false false at_ })
    (hslotB : s.settle.slotB = none) (hend : r.end_ = .pending)
    (hplan : s.settle.active.planRecord r.plan = some plan) :
    let end_ := schemeFrom { localMs := s.clock.ms, schemeMs := schemeMs } r.capture
    (s.adoptTime schemeMs).settle =
      { s.settle with
        slotA := some
          { record := { r with end_ := .known end_ }
            phase := .rating
              { start := r.start, end_ := end_ / 1000, plan := plan, bands := s.settle.active.bandTable
                version := s.settle.active.version, startSpend := r.startSpend, ebike := r.ebike
                atStartPost := s.atStartPost r } (s.clock.ms + 2) } } := by
  intro end_
  unfold State.adoptTime
  dsimp only
  rw [if_pos hunset, State.backDate]
  refine State.markSlots_settle ((State.markSlot_rates (r := { r with end_ := .known end_ }) (at_ := at_)
    (plan := plan) (ms := end_) (time := true) (tariff := false) (station := false) ?_ (by rfl) rfl
    (by exact hplan)).trans ?_) ?_
  · simp [hslotA, Slot.convert, hend, end_]
    rfl
  · simp [hslotB]
    rfl
  · exact hslotB

theorem firstTimeStartsTheRating : Claims.FirstTimeStartsTheRating := by
  intro c f s r at_ plan htakes hr hk hsender hmillis hunset hslotA hslotB hend hplan now end_
  obtain ⟨u, step, hclock, left⟩ := htakes.tim hk
  obtain ⟨_, _, _, hsettle⟩ := u.blocksTake_tim hk (by rw [left.straps, hr]; nofun) none
  rw [if_pos hsender, State.takeTim, if_pos hmillis] at hsettle
  have unset : u.timeUnset = true := by simpa [State.timeUnset, left.time] using hunset
  have base : u.clock.ms = now := hclock
  have rates := State.adoptTime_rates (schemeMs := fieldAt f.body 0 4 * 1000 + fieldAt f.body 4 2) unset
    (left.settle ▸ hslotA) (left.settle ▸ hslotB) hend (left.settle ▸ hplan)
  rw [left.settle, left.atStartPost, base] at rates
  refine completes_of_answer step ?_
  simp only [conclude_frame, hsettle, rates]
  exact ⟨rfl, hslotB⟩

/-- Settles O24: the TIM reaches `adoptTime` after the peer table, which touches no holder of a conversion; each holder is
converted alone, and slot A's return leaves GATHERING with its end. -/
theorem timeIsAdopted : Obligations.TimeIsAdopted := ⟨timeNoticeIsAdopted, firstTimeStartsTheRating⟩

end Sys2Proof.Machine
end

section
/-! Commands without effect: idling, a timer's instant, and commands that find nothing to act on. -/

namespace Sys2Proof.Machine

/-! ### Idling and instants -/

theorem idleStepIsOneMicrosecond : Claims.IdleStepIsOneMicrosecond := by
  intro s hidle
  have tick : step s = .next s.tick := by simp only [step, hidle]
  rw [tick, State.tick]
  exact ⟨fun h => by rw [if_pos h], fun h => by rw [if_neg (Nat.not_lt.2 h)]⟩

theorem timersAreTakenAtTheirInstant : Claims.TimersAreTakenAtTheirInstant := by
  intro due s
  refine ⟨fun h => if_pos h, fun h => if_neg (by simp [h]), ?_⟩
  unfold State.reachMs
  split
  · assumption
  · simp [msReached]

/-! ### Commands that find nothing -/

/-- A command that leaves a settled state to the conclusion leaves it as it is. -/
theorem exec_stays {i : Instr} {s u : State} (hs : s.settled) (he : exec i s = answerNext u) (hu : u = s) :
    exec i s = .next s := by
  rw [he, hu, answerNext, conclude_of_settled s hs]

/-- A GATHERING, RATING or DONE slot is what the settlement timers act on. -/
theorem settlementTimers_stay {s : State} (hs : s.settled) {name : SlotName} (h : s.settle.slot name = none) :
    exec (.gatheringExpiry name) s = .next s ∧ exec (.ratingComplete name) s = .next s ∧
      exec (.stlRetryExpiry name) s = .next s ∧ exec (.stlAbandon name) s = .next s := by
  refine ⟨exec_stays hs rfl ?_, exec_stays hs rfl ?_, exec_stays hs rfl ?_, exec_stays hs rfl ?_⟩ <;> simp only [h]

/-- The tag's answers end a read or a write in progress. -/
theorem tagCommands_stay {s : State} (hs : s.settled) (h : s.tag.operation = .idle) :
    exec .tagAnswer s = .next s ∧ exec .noTag s = .next s ∧ exec .sectionWriteComplete s = .next s ∧
      ∀ bytes, exec (.sectionReadComplete bytes) s = .next s := by
  refine ⟨exec_stays hs rfl ?_, exec_stays hs rfl ?_, exec_stays hs rfl ?_, fun bytes => exec_stays hs rfl ?_⟩
  · simp only [State.tagAnswers, h]
  · simp only [State.tagSilent, h]
  · simp only [h]
  · rw [h]; rfl

/-- Frames end in the receiver, and a gap is one inside a frame. -/
theorem receiverCommands_stay {s : State} (hs : s.settled) (h : s.line.rx = none) :
    exec .receiveGapExpiry s = .next s ∧
      ∀ c, exec (.frameReceived c) s = .next s ∧ exec (.frameAbandoned c) s = .next s := by
  refine ⟨exec_stays hs rfl ?_, fun c => ⟨exec_stays hs rfl ?_, exec_stays hs rfl ?_⟩⟩
  · simp only [State.receiveGap, h]
  · simp only [h]
  · simp only [h]

/-- The silence timer of an entry runs while it is LIVE. -/
theorem State.silenceDue_of_none {s : State} {n : Nat} (h : (s.storedPeer n).silenceAt = none) : s.silenceDue n = s := by
  unfold State.silenceDue
  rw [h]
  split <;> simp_all

theorem stoppedTimersChangeNothing : Claims.StoppedTimersChangeNothing := by
  intro s hs
  have stays {i : Instr} {u : State} (he : exec i s = answerNext u) (hu : u = s) : exec i s = .next s :=
    exec_stays hs he hu
  refine ⟨fun h => stays rfl ?wait, fun h => ⟨stays rfl ?sent, fun _ => stays rfl ?echo⟩, receiverCommands_stay hs,
    fun h => stays rfl ?line, fun h => stays rfl ?deadline, fun h => stays rfl ?beacon,
    fun n h => stays rfl (State.silenceDue_of_none h), fun h => stays rfl ?duplicate, fun h => stays rfl ?stale,
    fun h => stays rfl ?carry, fun source h => stays rfl ?slot, fun h => stays rfl ?pullIn,
    fun h => stays rfl ?openCheck, fun h => stays rfl ?take, fun h => stays rfl ?closeCheck,
    fun h => stays rfl ?pushAside, fun h => stays rfl ?hold, fun h => stays rfl ?burst, fun h => stays rfl ?flash,
    fun h => stays rfl ?refusal, fun h => stays rfl ?crew, fun h => stays rfl ?periodic, fun h => stays rfl ?ch0,
    fun h => ⟨stays rfl ?wake, fun _ _ _ _ => stays rfl ?complete⟩, tagCommands_stay hs, fun h => stays rfl ?gap,
    fun h => stays rfl ?lookup, fun h => stays rfl ?claimAge, fun h => stays rfl ?claimWindow,
    fun h => stays rfl ?settle, fun _ => settlementTimers_stay hs, fun h => stays rfl ?reporting,
    fun h => stays rfl ?window, fun h => stays rfl ?retry, fun h => stays rfl ?tim, fun h => stays rfl ?trf⟩
  case wait => simp [State.accessWaitEnds, h]
  case sent => simp [State.transmissionEnds, h]
  case echo => simp [State.echoFails, h]
  case line => simp [State.lineClears, h]
  case deadline => simp [State.deadlinePasses, State.deadlinesRunning, earliestDeadline, h]
  case beacon => simp [State.beaconDue, h]
  case duplicate => simp [State.duplicateHoldEnds, h]
  case stale => simp [State.becomeStale, h]
  case carry => simp [State.carryDue, h]
  case slot => simp [State.slotLapses, h]
  case pullIn => simp [State.pullInEnds, h]
  case openCheck => simp [State.openCheckDue, h]
  case take => simp [State.takeWindowDue, h]
  case closeCheck => simp [State.closeCheckDue, h]
  case pushAside => simp [State.pushAsideDue, h]
  case burst => simp [State.burstEnds, h]
  case flash => simp [State.flashPhaseEnds, h]
  case lookup => simp [State.lookupDue, h]
  case claimWindow => simp [State.claimWindow, h]
  case settle => simp [State.settleDue, h]
  all_goals simp only [h]

/-! ### Stations without a dock -/

theorem otherRolesHaveNoDock : Claims.OtherRolesHaveNoDock := by
  intro s hs hpost
  refine ⟨exec_stays hs rfl ?_, exec_stays hs rfl ?_, fun a b => exec_stays hs rfl ?_, exec_stays hs rfl ?_,
    exec_stays hs rfl ?_, fun c => exec_stays hs rfl ?_⟩ <;> simp [hpost]

/-- Settles O2: each arm's condition fails, so the command leaves the state to the conclusion, and a settled state is its
own conclusion. -/
theorem commandsWithoutEffect : Obligations.CommandsWithoutEffect :=
  ⟨idleStepIsOneMicrosecond, timersAreTakenAtTheirInstant, stoppedTimersChangeNothing, otherRolesHaveNoDock⟩

end Sys2Proof.Machine
end

section
/-! Stale time: the carry of the base pair, and the lapse of captures and pending conversions. -/

namespace Sys2Proof.Machine

/-- A base pair a day later by both halves reads an instant a day closer. -/
theorem toNat_sub_carried (i base : Ms) :
    (i - (base + 86400000)).toNat = ((i - base).toNat + (2 ^ 32 - 86400000)) % 2 ^ 32 := by bv_omega

theorem staleTimeIsCarriedByDays : Claims.StaleTimeIsCarried := by
  intro s due carried
  obtain ⟨c, hc⟩ := s.reachMs_eq due
  have base : s.time.base.map BasePair.carried = carried := rfl
  refine ⟨fun h => ?_, fun h => ?_⟩
  · have stale : s.becomeStale = { s.reachMs due with
        time := { s.time with
          quality := .stale, staleAt := none, base := carried, carryAt := some (due + 86400000) } } := by
      simp only [State.becomeStale, h, State.carryBase, hc, base, dayMs]
    rw [← stale]; rfl
  · have carry : s.carryDue = { s.reachMs due with
        time := { s.time with base := carried, carryAt := some (due + 86400000) } } := by
      simp only [State.carryDue, h, State.carryBase, hc, base, dayMs]
    rw [← carry]; rfl

theorem carryKeepsConversions : Claims.CarryKeepsConversions := by
  intro b i d hlimit hreach
  have closer := toNat_sub_carried i b.localMs
  have small : d < 2 ^ 32 := (i - b.localMs).isLt
  simp only [schemeFrom, closer, lastSchemeMs, show (i - b.localMs).toNat = d from rfl]
  rcases hreach with near | far
  · rcases Nat.lt_or_ge d 86400000 with earlier | later
    · rw [if_pos near, if_neg (by omega)]; omega
    · rw [if_pos near, if_pos (by omega)]; omega
  · rw [if_neg (by omega), if_neg (by omega)]; omega

/-- A pending conversion lapses while the quality is UNSET. -/
theorem State.pendingLapses_of_pending {s : State} {holder : PendingHolder} {c : Capture}
    (hheld : s.heldCapture holder = some c) (hpending : c.scheme = .pending) (hunset : s.time.quality = .unset) :
    s.pendingLapses holder =
      (s.reachMs (c.ms + 1073741824)).setHeldCapture holder { c with scheme := .unknown } := by
  simp [State.pendingLapses, hheld, hpending, State.timeUnset, hunset, lapseMs]

theorem State.pendingLapses_of_known {s : State} {holder : PendingHolder} (h : s.time.quality ≠ .unset) :
    s.pendingLapses holder = s := by
  unfold State.pendingLapses
  split <;> simp [State.timeUnset, h]

theorem capturesLapse : Claims.CapturesLapse := by
  intro s c
  obtain ⟨k, hk⟩ := s.reachMs_eq (c.ms + 1073741824)
  have lapses {holder : PendingHolder} {u : State} (hu : s.pendingLapses holder = u) :
      exec (.pendingLapse holder) s = .next (conclude u) := by rw [← hu]; rfl
  refine ⟨fun source h => ?slot, fun source h hp hq => lapses ?pendingSlot, fun h hp hq => lapses ?docking,
    fun h hp hq => lapses ?since, fun holder hq hs => exec_stays hs rfl (State.pendingLapses_of_known hq)⟩
  case slot =>
    have lapse : s.slotLapses source =
        { s.reachMs (c.ms + 1073741824) with time := s.time.setSlot source none } := by
      simp only [State.slotLapses, h, State.consume, lapseMs, hk]
    rw [← lapse]; rfl
  case pendingSlot =>
    rw [State.pendingLapses_of_pending (holder := .slot source) h hp hq, hk]; rfl
  case docking =>
    rw [State.pendingLapses_of_pending (holder := .dockingCapture) h hp hq, hk]; rfl
  case since =>
    rw [State.pendingLapses_of_pending (holder := .dockedSince) h hp hq, hk]; rfl

/-- Settles O32: an instant on either side of both base pairs keeps its distance to the carried one, and each timer's
command writes the fields it names on the state at its instant. -/
theorem staleTimeIsCarried : Obligations.StaleTimeIsCarried :=
  ⟨staleTimeIsCarriedByDays, carryKeepsConversions, capturesLapse⟩

end Sys2Proof.Machine
end

section
/-! The bolt sensor's opening, by the bolt state. -/

namespace Sys2Proof.Machine

/-- The sensor's opening at a post stamps the bolt-open slot and acts by the bolt state. -/
theorem exec_openEdge {s u : State} (hpost : s.isPost = true) (hclosed : s.dock.sensorOpen = false)
    (hu : s.boltOpens = u) : exec .openEdge s = .next (conclude u) := by
  rw [← hu]
  exact congrArg answerNext (by simp [hpost, hclosed])

/-- Neither the captures nor the sensor are among R170's causes of an evaluation. -/
theorem State.evaluateSince_seenOpen (s after : State) (time : Timebase) (sensorOpen seenOpen : Bool) :
    after.evaluateSince { s with time := time, dock := { s.dock with sensorOpen := sensorOpen, seenOpen := seenOpen } } =
      after.evaluateSince s := rfl

/-- OPENING gives way to HELD with a bike in the mouth and no self-test. -/
theorem State.becomeHeld_of_mouth {s : State} (htest : s.dock.selfTest = none) (hcount : s.dock.count ≠ 0) :
    s.becomeHeld = State.evaluateSince { s with dock := { s.dock with bolt := .held } } s := by
  simp [State.becomeHeld, State.boltHeld, htest, hcount]

/-- A bolt seen open in OPENING is HELD once the pull-in has ended. -/
theorem State.openEdgeAct_opening {s : State} (h : s.dock.bolt = .opening) :
    s.openEdgeAct =
      let seen : State :=
        { s with time := s.time.setSlot .boltOpen none, dock := { s.dock with seenOpen := true } }
      if s.dock.pullInEndAt.isNone then seen.becomeHeld else seen := by
  rw [State.openEdgeAct, h]
  rfl

/-- Settles O33: the edge stamps its slot, and each bolt state's arm gives the rest. -/
theorem openEdgeByBoltState : Obligations.OpenEdgeByBoltState := by
  intro s hpost hclosed stamped gone
  have opens {u : State} (hu : s.boltOpens = u) : exec .openEdge s = .next (conclude u) :=
    exec_openEdge hpost hclosed hu
  refine ⟨fun hbolt => opens ?closed, fun hbolt hpull => opens ?opening, fun hbolt hpull htest hcount => opens ?held,
    fun hbolt => opens ?kept, fun hbolt => opens ?jammed⟩
  case closed => simp only [State.boltOpens, State.openEdgeAct, hbolt]; rfl
  case opening =>
    exact (State.openEdgeAct_opening (by exact hbolt)).trans (if_neg (by simp [Option.isSome_iff_ne_none.1 hpull]))
  case held =>
    have held := State.becomeHeld_of_mouth
      (s := { s with time := gone, dock := { s.dock with sensorOpen := true, seenOpen := true } }) htest hcount
    rw [State.evaluateSince_seenOpen] at held
    exact (State.openEdgeAct_opening (by exact hbolt)).trans ((if_pos (by simp [hpull])).trans held)
  case kept =>
    rcases hbolt with hbolt | hbolt <;> simp only [State.boltOpens, State.openEdgeAct, hbolt] <;> rfl
  case jammed => simp only [State.boltOpens, State.openEdgeAct, hbolt]; rfl

end Sys2Proof.Machine
end

section
/-! The mouth: beam edges count the bike in and out, and an empty mouth is judged by the sensor. -/

namespace Sys2Proof.Machine

/-! ### The phase of the beams (R59, R60) -/

theorem beamPhase_lt (a b : Bool) : beamPhase a b < 4 := by
  cases a <;> cases b <;> decide

section
variable {a b : Bool} {s : State}

/-- A phase one step forward counts up (R59). -/
theorem State.beamsChange_forward (h : beamPhase a b = (beamPhase s.dock.beamA s.dock.beamB + 1) % 4) :
    s.beamsChange a b = State.countUp { s with dock := { s.dock with beamA := a, beamB := b } } := by
  have := beamPhase_lt a b
  simp only [State.beamsChange]
  rw [if_neg (by omega), if_pos h]

/-- A phase one step backward counts down. -/
theorem State.beamsChange_backward (h : beamPhase s.dock.beamA s.dock.beamB = (beamPhase a b + 1) % 4) :
    s.beamsChange a b = State.countDown { s with dock := { s.dock with beamA := a, beamB := b } } := by
  have := beamPhase_lt a b
  simp only [State.beamsChange]
  rw [if_neg (by omega), if_neg (by omega), if_pos h]

/-- A phase two steps away is noise. -/
theorem State.beamsChange_double (h : beamPhase a b = (beamPhase s.dock.beamA s.dock.beamB + 2) % 4) :
    s.beamsChange a b = State.beamNoise { s with dock := { s.dock with beamA := a, beamB := b } } := by
  have := beamPhase_lt a b
  have := beamPhase_lt s.dock.beamA s.dock.beamB
  simp only [State.beamsChange]
  rw [if_neg (by omega), if_neg (by omega), if_neg (by omega)]

theorem exec_beamEdge {u : State} (hpost : s.isPost = true) (hu : s.beamsChange a b = u) :
    exec (.beamEdge a b) s = answerNext u := by
  rw [← hu]
  exact congrArg answerNext (if_pos hpost)

end

/-! ### The counts -/

theorem State.countUp_of_passing {s : State} (h : s.dock.count ≠ 5) :
    s.countUp = { s with dock := { s.dock with count := min (s.dock.count + 1) 15 } } := if_neg h

theorem State.countUp_of_five {s : State} (h : s.dock.count = 5) :
    s.countUp = State.stamp .mouthIn { s with dock := { s.dock with count := 6 } } := by
  simp [State.countUp, h]

theorem State.countDown_of_passing {s : State} (h : s.dock.count ≠ 1) :
    s.countDown = { s with dock := { s.dock with count := s.dock.count - 1 } } := if_neg h

theorem State.countDown_of_one {s : State} (h : s.dock.count = 1) :
    s.countDown = State.mouthEmpties { s with dock := { s.dock with count := 0 } } := by
  simp [State.countDown, h]

theorem State.beamNoise_of_raised {s : State} (h : PostFault.sensor ∈ s.fault.raised) : s.beamNoise = s := by
  simp [State.beamNoise, h]

theorem State.beamNoise_below {s : State} (h : PostFault.sensor ∉ s.fault.raised) (hn : s.dock.noise < 15) :
    s.beamNoise = { s with dock := { s.dock with noise := s.dock.noise + 1 } } := by
  have counted : min (s.dock.noise + 1) 16 = s.dock.noise + 1 := by omega
  have below : s.dock.noise + 1 ≠ 16 := by omega
  simp [State.beamNoise, h, counted, below]

theorem State.beamNoise_last {s : State} (h : PostFault.sensor ∉ s.fault.raised) (hn : s.dock.noise = 15) :
    s.beamNoise = State.raisePost .sensor { s with dock := { s.dock with noise := 16 } } := by
  simp [State.beamNoise, h, hn]

/-- A post fault newly raised joins those raised, and nothing else of the fault unit changes. -/
theorem State.raisePost_fault {s : State} {f : PostFault} (hpost : s.isPost = true) (h : f ∉ s.fault.raised) :
    (s.raisePost f).fault = { s.fault with raised := s.fault.raised ++ [f] } := by
  simp [State.raisePost, hpost, h]

theorem beamEdgesCount : Claims.BeamEdgesCount := by
  intro a b s hpost before after moved
  have edge {u : State} (hu : s.beamsChange a b = u) := exec_beamEdge hpost hu
  refine ⟨fun h hc => ?passes, fun h hc => ?enters, fun h hc => ?falls, fun h hr hn => ?noise, fun h hr hn => ?sensor,
    fun h hr => ?known⟩
  case passes => exact edge ((State.beamsChange_forward h).trans (State.countUp_of_passing hc))
  case enters => exact edge ((State.beamsChange_forward h).trans (State.countUp_of_five hc))
  case falls => exact edge ((State.beamsChange_backward h).trans (State.countDown_of_passing hc))
  case noise => exact edge ((State.beamsChange_double h).trans (State.beamNoise_below hr hn))
  case known => exact edge ((State.beamsChange_double h).trans (State.beamNoise_of_raised hr))
  case sensor =>
    refine completes_of_answer (edge ((State.beamsChange_double h).trans (State.beamNoise_last hr hn))) ?_
    have raised := State.raisePost_fault (s := { s with dock := { moved with noise := 16 } }) hpost hr
    have touches := State.raisePost_touches .sensor { s with dock := { moved with noise := 16 } }
    refine ⟨by simp, by simp, by simp, by simp, by simpa using raised, conclude_frame_of _ _ _ ?_⟩
    simpa [Touched.frame] using touches

/-! ### The empty mouth (R58, R83, R163) -/

/-- A write that ends FAILED LEFT is no matter of the hire controller's while IDLE. -/
theorem State.writeLefts_of_idle {s : State} (h : s.hire.state = .idle) (writes : List WriteRequest) :
    writes.foldl State.writeLeft s = s := by
  have left (r : WriteRequest) : s.writeLeft r = s := by
    simp only [State.writeLeft, State.hireWriteLeft, h, ite_self]
    split
    · split <;> rfl
    · rfl
  induction writes with
  | nil => rfl
  | cons r rest ih => rw [List.foldl_cons, left, ih]

/-- A docked bike leaves an IDLE hire as it is. -/
theorem State.bikeLeaves_of_idle {s : State} (hdocked : s.dock.docked = true) (hidle : s.hire.state = .idle) :
    s.bikeLeaves = s.dockLeaves.tagLeaves.faultLeaves.duplicateLeaves.vanLeaves.evaluateSince s := by
  have idle : (s.dockLeaves.tagLeaves.faultLeaves.duplicateLeaves.vanLeaves.evaluateSince s).hire.state = .idle := by
    simpa using hidle
  simp only [State.bikeLeaves, hdocked, State.writeLefts_of_idle idle]
  simp [State.settling, hidle]

/-- No bike leaves where none is docked. -/
theorem State.bikeLeaves_of_undocked {s : State} (h : s.dock.docked = false) : s.bikeLeaves = s := by
  simp [State.bikeLeaves, h]

/-- An entry without a docking is discarded. -/
theorem State.mouthEmpties_undocked {s : State} (hbolt : s.dock.bolt ≠ .held) (hdocked : s.dock.docked = false) :
    s.mouthEmpties = { s with time := { s.time with mouthOut := none, mouthIn := none } } := by
  have stays := State.bikeLeaves_of_undocked
    (s := { s with time := { s.time with mouthOut := none, mouthIn := none } }) hdocked
  simp [State.mouthEmpties, hdocked, hbolt, State.stamp, State.consume, Timebase.setSlot, stays]

/-- A docked bike at a bolt that is not HELD is judged by the sensor. -/
theorem State.mouthEmpties_docked {s : State} (hbolt : s.dock.bolt ≠ .held) (hdocked : s.dock.docked = true) :
    s.mouthEmpties = if s.dock.sensorOpen then (s.stamp .mouthOut).bikeLeaves else s.stamp .mouthOut := by
  simp [State.mouthEmpties, hdocked, hbolt]

theorem emptyMouthByTheSensor : Claims.EmptyMouthByTheSensor := by
  intro a b s hpost hcount hback hbolt emptied
  have edge {u : State} (hu : State.mouthEmpties { s with dock := emptied } = u) :
      exec (.beamEdge a b) s = answerNext u :=
    exec_beamEdge hpost
      ((State.beamsChange_backward hback).trans ((State.countDown_of_one (by exact hcount)).trans hu))
  have docked := State.mouthEmpties_docked (s := { s with dock := emptied }) hbolt
  refine ⟨fun hdocked => edge (State.mouthEmpties_undocked hbolt hdocked),
    fun hdocked hopen => edge ((docked hdocked).trans (if_neg (by simp [emptied, hopen]))), fun hdocked hopen hidle => ?_⟩
  refine completes_of_answer (edge ((docked hdocked).trans
    ((if_pos (by exact hopen)).trans (State.bikeLeaves_of_idle (by exact hdocked) (by exact hidle))))) ?_
  simp [State.vanLeaves, State.duplicateLeaves, State.faultLeaves, State.tagLeaves, State.dockLeaves, State.bikeLevel,
    TagCopy.none_, State.consume, Timebase.setSlot, emptied]

/-- Settles O37: the beam phase moves by one, back by one or by two, the counts pass or meet their bounds, and a docked bike
that leaves while the hire is IDLE leaves the hire as it is. -/
theorem mouthIsCounted : Obligations.MouthIsCounted := ⟨beamEdgesCount, emptyMouthByTheSensor⟩

end Sys2Proof.Machine
end

section
/-! The terminal and the van at their hosts: requests answered, notices queued, and the terminal's send timers. -/

namespace Sys2Proof.Machine

/-! ### Requests (R181) -/

/-- A request of the station's role acts while the transaction shifts filler out. -/
theorem State.takeRequest_of_allowed {k : RequestKind} {request : List Byte → State → State} {body : List Byte}
    {s : State} (hpost : s.straps.role ≠ .post) (hk : k.allows s.straps.role = true) :
    s.takeRequest k request body = request body (s.shiftFiller (4 + body.length)) := by
  simp [State.takeRequest, State.portWorks, State.isPost, hpost, hk]

/-- A terminal and a van drive the line, and only a post is barred. -/
theorem State.refusesOffer_of_host {s : State} {kind : Kind} (hr : s.straps.role = .terminal ∨ s.straps.role = .van)
    (hk : kind.cls ≠ 0) : s.refusesOffer kind = false := by
  rcases hr with hr | hr <;>
    simp [State.refusesOffer, State.sends, strapSends, State.barred, strapBarred, hr, hk]

/-- The answer's response, kept to the end of the step. -/
theorem conclude_respond_port (status : PortStatus) (s : State) :
    (conclude (s.respond status)).port.response = some { bytes := responseBytes status [], carried := .nothing } := by
  simp [State.respond, State.respondCarrying]

/-! ### Notices queued (R8, R181) -/

section
variable {s : State} {kind : Kind} {body : List Byte}

/-- The entries keep their kinds and references to the end of the step. -/
theorem conclude_keeps_kind {e : TxEntry} (he : e ∈ s.line.queue) :
    ∃ q ∈ (conclude s).line.queue, q.kind = e.kind ∧ q.ref = e.ref := by
  obtain ⟨refs, kinds⟩ := s.followHead_refs
  obtain ⟨i, hi⟩ := List.mem_iff_getElem?.1 he
  have ref := congrArg (·[i]?) refs
  have kind := congrArg (·[i]?) kinds
  rw [conclude, State.chooseLamp_eq]
  simp only [List.getElem?_map, hi, Option.map_some, Option.map_eq_some_iff] at ref kind
  obtain ⟨q, hq, hqref⟩ := ref
  obtain ⟨q', hq', hqkind⟩ := kind
  obtain rfl : q = q' := Option.some.inj (hq.symm.trans hq')
  exact ⟨q, List.mem_of_getElem? hq, hqkind, hqref⟩

/-- A new entry waits at the end of the step. -/
theorem conclude_holds_new {u : State} (hu : u.line.queue = insertEntry (s.newEntry kind body) s.line.queue) :
    ∃ q ∈ (conclude u).line.queue, q.kind = kind ∧ q.ref = s.line.nextRef :=
  conclude_keeps_kind (s := u) (e := s.newEntry kind body) (by simp [hu])

/-- A new entry, but for a TIM, waits with the body it was offered with. -/
theorem conclude_holds_new_body {u : State} (hu : u.line.queue = insertEntry (s.newEntry kind body) s.line.queue)
    (hk : kind ≠ .tim) (hrefs : ∀ e ∈ s.line.queue, e.ref < s.line.nextRef) :
    ∃ q ∈ (conclude u).line.queue, q.kind = kind ∧ q.body = body ∧ q.ref = s.line.nextRef := by
  refine ⟨s.newEntry kind body, conclude_keeps u _ (by simp [hu]) hk fun x hx hxref => ?_, rfl, rfl, rfl⟩
  rw [hu, mem_insertEntry] at hx
  rcases hx with hx | hx
  · exact hx
  · exact absurd hxref (Nat.ne_of_lt (hrefs x hx))

/-- A notice with room in the queue is queued, and its request answered OK. -/
theorem State.respondOffer_room (hr : s.refusesOffer kind = false) (hk : kind ≠ .bcn) (hroom : s.line.queue.length < 8) :
    s.respondOffer kind body =
      State.respond .ok
        { s with
          line := { s.line with
            queue := insertEntry (s.newEntry kind body) s.line.queue, nextRef := s.line.nextRef + 1 } } := by
  rw [State.respondOffer, State.offer_room kind body s hr hk hroom]

/-- A notice sent with room in the queue is queued. -/
theorem State.send_room (hr : s.refusesOffer kind = false) (hk : kind ≠ .bcn) (hroom : s.line.queue.length < 8) :
    s.send kind body =
      { s with
        line := { s.line with
          queue := insertEntry (s.newEntry kind body) s.line.queue, nextRef := s.line.nextRef + 1 } } :=
  congrArg Prod.fst (State.offer_room kind body s hr hk hroom)

/-- A request whose notice has room is answered OK, and leaves the notice queued. -/
theorem exec_notice {i : Instr} {u : State} (he : exec i s = answerNext (u.respondOffer kind body))
    (hr : u.straps.role = .terminal ∨ u.straps.role = .van) (hcls : kind.cls ≠ 0) (hk : kind ≠ .bcn)
    (hroom : u.line.queue.length < 8) :
    ∃ line : Line, exec i s = answerNext (State.respond .ok { u with line := line }) ∧
      line.queue = insertEntry (u.newEntry kind body) u.line.queue :=
  ⟨_, by rw [he, State.respondOffer_room (State.refusesOffer_of_host hr hcls) hk hroom], rfl⟩

/-- Eight entries of the last class leave no room, and none to displace. -/
theorem State.respondOffer_full (hr : s.refusesOffer kind = false) (hk : kind ≠ .bcn)
    (hfull : s.line.queue.length = 8) (hlast : ∀ e ∈ s.line.queue, e.kind.cls = kind.cls) :
    s.respondOffer kind body = s.respond .lineBusy := by
  have none_ : s.line.displaceable kind.cls = none := by
    rw [Line.displaceable, List.getLast?_eq_none_iff, List.filter_eq_nil_iff]
    intro e he
    simp [hlast e he]
  simp [State.respondOffer, State.offer, hr, hk, State.enqueue, hfull, none_]

end

/-! ### STATION_SET and TIME_SET (R183) -/

theorem stationSetOnce : Claims.StationSetOnce := by
  intro id s hr hid answered
  have field : fieldAt (be2 id) 0 2 = id := (fieldAt_be2_last id).trans (Nat.mod_eq_of_lt hid)
  have asks {u : State} (hu : (s.shiftFiller 6).requestStationSet (be2 id) = u) :
      exec (.stationSet (be2 id)) s = .next (conclude u) := by
    rw [← hu]
    exact congrArg answerNext (State.takeRequest_of_allowed (by simp [hr]) (by simp [RequestKind.allows, hr]))
  refine ⟨fun hset hfree => asks ?_, fun hset hheld => asks ?_, fun hzero => asks ?_⟩
  · rw [State.requestStationSet, field, if_neg (by simp [hset]), if_neg (by exact not_not.2 hfree)]
    rfl
  · rw [State.requestStationSet, field, if_neg (by simp [hset]), if_pos (by exact hheld)]
    rfl
  · rw [State.requestStationSet, field, if_pos (by simp [hzero])]
    rfl

/-- A TIME-SET in range adopts its time and restarts the TIM timer, and asks for a TIM where none waits. -/
theorem State.requestTimeSet_eq {seconds millis : Nat} {s : State} (hs : seconds < 2 ^ 32) (hm : millis ≤ 999) :
    ∃ u : State, s.requestTimeSet (be4 seconds ++ be2 millis) =
        (if u.timQueued then u.respond .ok else u.respondOffer .tim timToFill) ∧
      u.time.agreement =
        (some { localMs := s.clock.ms, schemeMs := seconds * 1000 + millis }, .set, some (s.clock.ms + dayMs), none) ∧
      u.terminal = { s.terminal with timAt := some (s.clock.ms + timPeriod) } ∧ u.line = s.line ∧
      u.straps = s.straps := by
  have second : fieldAt (be4 seconds ++ be2 millis) 0 4 = seconds :=
    (fieldAt_be4 _ _).trans (Nat.mod_eq_of_lt hs)
  have milli : fieldAt (be4 seconds ++ be2 millis) 4 2 = millis := by
    rw [fieldAt_behind_be4 _ _ _ (Nat.le_refl 4)]
    exact (fieldAt_be2_last millis).trans (Nat.mod_eq_of_lt (by omega))
  refine ⟨{ s.adoptTime (seconds * 1000 + millis) with
    terminal := { s.terminal with timAt := some (s.clock.ms + timPeriod) } }, ?_,
    s.adoptTime_agreement (seconds * 1000 + millis), rfl, by simp, by simp⟩
  rw [State.requestTimeSet, second, milli, if_neg (by simp; omega)]
  simp

theorem timeSetIsAdopted : Claims.TimeSetIsAdopted := by
  intro seconds millis s hr hseconds hmillis adopted answer
  obtain ⟨u, asked, agrees, terminal, line, straps⟩ :=
    (s.shiftFiller 10).requestTimeSet_eq hseconds hmillis
  have asks {v : State} (hv : (s.shiftFiller 10).requestTimeSet (be4 seconds ++ be2 millis) = v) :
      exec (.timeSet (be4 seconds ++ be2 millis)) s = answerNext v := by
    rw [← hv]
    exact congrArg answerNext (State.takeRequest_of_allowed (by simp [hr]) (by simp [RequestKind.allows, hr]))
  have queued : u.timQueued = s.timQueued := by rw [State.timQueued, line]; rfl
  have accepts : u.refusesOffer .tim = false :=
    State.refusesOffer_of_host (.inl (by rw [straps]; exact hr)) (by decide)
  simp only [Timebase.agreement, Prod.mk.injEq] at agrees
  obtain ⟨base, quality, stale, _⟩ := agrees
  have keeps {v : State} (ht : v.time = u.time) (hv : v.terminal = u.terminal) : adopted (conclude v) := by
    refine ⟨?_, ?_, ?_, ?_⟩ <;> simp only [conclude_frame, ht, hv]
    · exact base
    · exact quality
    · exact stale
    · exact terminal
  refine ⟨fun hwaits => ?waits, fun hfree hroom => ?room, fun hfree hfull hlast => ?full⟩
  case waits =>
    refine completes_of_answer (asks (asked.trans (if_pos (queued.trans hwaits)))) ⟨keeps (by simp) (by simp), ?_⟩
    exact conclude_respond_port .ok u
  case room =>
    rw [if_neg (by simp [queued, hfree]), State.respondOffer_room accepts (by decide) (by rw [line]; exact hroom)] at asked
    refine completes_of_answer (asks asked) ⟨keeps (by simp) (by simp), conclude_respond_port .ok _, ?_⟩
    exact (congrArg Line.nextRef line : u.line.nextRef = s.line.nextRef) ▸
      conclude_holds_new (body := timToFill) (by simp)
  case full =>
    rw [if_neg (by simp [queued, hfree]), State.respondOffer_full accepts (by decide) (by rw [line]; exact hfull)
      (by rw [line]; exact hlast)] at asked
    exact completes_of_answer (asks asked) ⟨keeps (by simp) (by simp), conclude_respond_port .lineBusy u⟩

/-! ### The terminal's send timers (R183, R184) -/

section
variable {s u : State} {due : Ms}

/-- The TIM timer runs on, and sends a TIM while the quality is SET and none waits. -/
theorem exec_timTimerExpiry (hdue : s.terminal.timAt = some due)
    (hu : u = { s.reachMs due with terminal := { s.terminal with timAt := some (due + 10000) } }) :
    exec .timTimerExpiry s =
      answerNext (if s.time.quality = .set ∧ s.timQueued = false then u.send .tim timToFill else u) := by
  obtain ⟨c, hc⟩ := s.reachMs_eq due
  refine congrArg answerNext ?_
  simp only [hdue, State.timTimerExpires, hc, timPeriod, hu]
  simp [State.timQueued]

/-- The cycle runs on, and sends the active tariff's piece at its index. -/
theorem exec_trfCycleExpiry {piece : Piece} (hdue : s.terminal.trfAt = some due)
    (hpiece : s.terminal.active.pieces.getD s.terminal.trfIndex none = some piece)
    (hu : u = { s.reachMs due with
      terminal := { s.terminal with trfAt := some (due + 6000), trfIndex := (s.terminal.trfIndex + 1) % 9 } }) :
    exec .trfCycleExpiry s =
      answerNext (u.send .trf (trfBody s.terminal.active.version s.terminal.trfIndex piece)) := by
  obtain ⟨c, hc⟩ := s.reachMs_eq due
  refine congrArg answerNext ?_
  simp only [hdue, State.trfCycleExpires, hc, hpiece, trfPeriod, hu]

end

theorem terminalTimersSend : Claims.TerminalTimersSend := by
  intro s due hr hroom hrefs
  obtain ⟨c, hc⟩ := s.reachMs_eq due
  refine ⟨fun hdue hset hfree => ?tim, fun hdue hidle => ?kept, fun piece hdue hpiece => ?trf⟩
  case tim =>
    obtain ⟨u, hu⟩ : ∃ u : State, u =
        { s.reachMs due with terminal := { s.terminal with timAt := some (due + 10000) } } := ⟨_, rfl⟩
    have step := exec_timTimerExpiry hdue hu
    rw [hc] at hu
    have accepts : u.refusesOffer .tim = false := State.refusesOffer_of_host (.inl (by simp [hu, hr])) (by decide)
    rw [if_pos ⟨hset, hfree⟩, State.send_room accepts (by decide) (by simpa [hu] using hroom)] at step
    refine completes_of_answer step ⟨by simp [hu], ?_, conclude_frame_of _ _ _ (by simp [Touched.frame, hu])⟩
    exact (show u.line.nextRef = s.line.nextRef by simp [hu]) ▸ conclude_holds_new (body := timToFill) rfl
  case kept =>
    have idle : ¬ (s.time.quality = .set ∧ s.timQueued = false) := by
      rintro ⟨hset, hfree⟩
      rcases hidle with h | h
      · exact h hset
      · simp [hfree] at h
    have step := exec_timTimerExpiry hdue rfl
    rw [if_neg idle] at step
    exact step
  case trf =>
    obtain ⟨u, hu⟩ : ∃ u : State, u =
        { s.reachMs due with
          terminal := { s.terminal with trfAt := some (due + 6000), trfIndex := (s.terminal.trfIndex + 1) % 9 } } :=
      ⟨_, rfl⟩
    have step := exec_trfCycleExpiry hdue hpiece hu
    rw [hc] at hu
    have accepts : u.refusesOffer .trf = false := State.refusesOffer_of_host (.inl (by simp [hu, hr])) (by decide)
    rw [State.send_room accepts (by decide) (by simpa [hu] using hroom)] at step
    refine completes_of_answer step ⟨by simp [hu], ?_, conclude_frame_of _ _ _ (by simp [Touched.frame, hu])⟩
    exact (conclude_holds_new_body (s := u) (by rfl) (by decide) (by simpa [hu] using hrefs)).imp
      fun q ⟨hq, hkind, hbody, _⟩ => ⟨hq, hkind, hbody⟩

/-! ### The tariff (R184) -/

/-- A piece above the active version and not below the staging one is stored, in an emptied staging where it is above. -/
theorem stagePiece_of_newer {active staging : Tariff} {v : TrfValues} (ha : active.version < v.version)
    (hs : staging.version ≤ v.version) :
    stagePiece active staging v = some
      { version := v.version
        pieces := (if staging.version < v.version then List.replicate 9 none else staging.pieces).set v.index
          (some v.piece) } := by
  rw [stagePiece, if_neg (by omega)]
  split
  · rfl
  · have same : v.version = staging.version := by omega
    rw [if_pos same, same]
    rfl

theorem stagePiece_of_older {active staging : Tariff} {v : TrfValues}
    (h : v.version ≤ active.version ∨ v.version < staging.version) : stagePiece active staging v = none := by
  rw [stagePiece]
  split
  · rfl
  · rw [if_neg (by omega), if_neg (by omega)]

/-- A request answered without a notice, by a change of the terminal's store alone. -/
theorem completes_respond {i : Instr} {s u : State} {status : PortStatus} {terminal : TerminalStore}
    (he : exec i s = answerNext (u.respond status)) {port : LocalPort}
    (hu : u = { s with terminal := terminal, port := port }) {P : State → Prop}
    (hp : ∀ t : State, t.port.response = some { bytes := responseBytes status [], carried := .nothing } →
      t.terminal = terminal → ({ terminal := true, port := true } : Touched).frame s t → P t) :
    completes i s P :=
  completes_of_answer he
    (hp _ (conclude_respond_port status u) (by simp [hu]) (conclude_frame_of _ _ _ (by simp [Touched.frame, hu])))

theorem tariffIsLoadedAndCommitted : Claims.TariffIsLoadedAndCommitted := by
  intro body s hr answer
  have post := State.not_post_of_terminal hr
  have loads {u : State} (hu : (s.shiftFiller (4 + body.length)).requestTariffLoad body = u) :
      exec (.tariffLoad body) s = answerNext u := by
    rw [← hu]
    exact congrArg answerNext (State.takeRequest_of_allowed post (by simp [RequestKind.allows, hr]))
  have commits {u : State} (hu : (s.shiftFiller 4).requestTariffCommit [] = u) :
      exec (.tariffCommit []) s = answerNext u := by
    rw [← hu]
    exact congrArg answerNext (State.takeRequest_of_allowed post (by simp [RequestKind.allows, hr]))
  refine ⟨fun hbody => ?range, fun v hbody hold => ?old, fun v hbody ha hs hroom => ?staged, fun hfull => ?full,
    fun hpart => ?part⟩
  case range =>
    refine completes_respond (loads (u := (s.shiftFiller (4 + body.length)).respond .refusedRange) ?_) rfl
      fun t response terminal _ => ⟨response, terminal⟩
    simp only [State.requestTariffLoad, hbody]
  case old =>
    refine completes_respond (loads (u := (s.shiftFiller (4 + body.length)).respond .refusedState) ?_) rfl
      fun t response terminal _ => ⟨response, terminal⟩
    have older : stagePiece (s.shiftFiller (4 + body.length)).terminal.active
      (s.shiftFiller (4 + body.length)).terminal.staging v = none := stagePiece_of_older hold
    simp only [State.requestTariffLoad, hbody, older]
  case staged =>
    obtain ⟨staging, hstaging⟩ : ∃ staging : Tariff, staging =
        { version := v.version
          pieces := (if s.terminal.staging.version < v.version then List.replicate 9 none
            else s.terminal.staging.pieces).set v.index (some v.piece) } := ⟨_, rfl⟩
    have newer : stagePiece (s.shiftFiller (4 + body.length)).terminal.active
        (s.shiftFiller (4 + body.length)).terminal.staging v = some staging :=
      (stagePiece_of_newer ha hs).trans (congrArg some hstaging.symm)
    obtain ⟨u, hu⟩ : ∃ u : State, u =
        { s.shiftFiller (4 + body.length) with terminal := { s.terminal with staging := staging } } := ⟨_, rfl⟩
    have step : exec (.tariffLoad body) s = answerNext (u.respondOffer .trf (trfBody v.version v.index v.piece)) :=
      loads (by simp only [State.requestTariffLoad, hbody, newer, hu]; rfl)
    have line : u.line = s.line := by rw [hu]; rfl
    obtain ⟨queued, step, hqueue⟩ := exec_notice step (.inl (by rw [hu]; exact hr)) (by decide) (by decide)
      (by rw [line]; exact hroom)
    refine completes_of_answer step ⟨conclude_respond_port .ok _, by simp [hu, hstaging], ?_,
      conclude_frame_of _ _ _ (by simp [Touched.frame, hu])⟩
    exact line ▸ conclude_holds_new (s := u) (body := trfBody v.version v.index v.piece) (by simpa using hqueue)
  case full =>
    refine completes_respond (commits ((if_neg (not_not.2 rfl)).trans (if_pos (by exact hfull)))) rfl
      fun t response terminal frame => ⟨response, terminal.trans ?_, frame⟩
    cases h : s.terminal.trfAt <;> simp [State.shiftFiller, Tariff.empty, trfPeriod, h]
  case part =>
    refine completes_of_answer (commits ((if_neg (not_not.2 rfl)).trans (if_neg (by simp [State.shiftFiller, hpart]))))
      ⟨conclude_respond_port _ _, by simp, conclude_frame_of _ _ _ (by simp [Touched.frame])⟩

/-! ### Requests that queue a notice (R185, R186) -/

/-- What a request with room for its notice leaves: the answer OK, and the notice with its body and reference. -/
theorem completes_notice {i : Instr} {s u : State} {kind : Kind} {sent : List Byte} {P : State → Prop}
    (he : exec i s = answerNext (u.respondOffer kind sent)) (hline : u.line = s.line)
    (hr : u.straps.role = .terminal ∨ u.straps.role = .van) (hcls : kind.cls ≠ 0) (hk : kind ≠ .bcn ∧ kind ≠ .tim)
    (hroom : s.line.queue.length < 8) (hrefs : ∀ e ∈ s.line.queue, e.ref < s.line.nextRef)
    (hp : ∀ line, P (conclude (State.respond .ok { u with line := line }))) :
    completes i s (fun t =>
      t.port.response = some { bytes := responseBytes .ok [], carried := .nothing } ∧
      (∃ q ∈ t.line.queue, q.kind = kind ∧ q.body = sent ∧ q.ref = s.line.nextRef) ∧ P t) := by
  obtain ⟨line, step, hqueue⟩ := exec_notice he hr hcls hk.1 (by rw [hline]; exact hroom)
  refine completes_of_answer step ⟨conclude_respond_port .ok _, ?_, hp line⟩
  exact hline ▸ conclude_holds_new_body (s := u) (body := sent) (by simpa using hqueue) hk.2 (by rw [hline]; exact hrefs)

/-- A FAULT-CLEAR in range is sent as it came. -/
theorem State.requestFaultClear_eq {bike cls : Nat} (s : State) (hbike : bike ≠ 0) (hsmall : bike < 2 ^ 32)
    (hcls : cls ∈ [0, 1, 2, 3, 4, 5, 8, 9, 10, 11]) :
    s.requestFaultClear (be4 bike ++ be1 cls) = s.respondOffer .fcl (be4 bike ++ be1 cls) := by
  have clearable : clearableClass cls = true ∧ cls < 2 ^ 8 :=
    (by decide : ∀ c ∈ [0, 1, 2, 3, 4, 5, 8, 9, 10, 11], clearableClass c = true ∧ c < 2 ^ 8) cls hcls
  have bikeField : fieldAt (be4 bike ++ be1 cls) 0 4 = bike := (fieldAt_be4 _ _).trans (Nat.mod_eq_of_lt hsmall)
  have clsField : fieldAt (be4 bike ++ be1 cls) 4 1 = cls := by
    rw [fieldAt_behind_be4 _ _ _ (Nat.le_refl 4)]
    exact (fieldAt_be1_last cls).trans (Nat.mod_eq_of_lt clearable.2)
  rw [State.requestFaultClear, bikeField, clsField]
  exact if_pos (by simp [hbike, clearable.1])

/-- A VAN-OPEN in range is sent, but for the serial of the window that is open. -/
theorem State.requestVanOpen_eq {body : List Byte} {v : VopValues} {s : State} (hv : vopOf body = some v)
    (hother : ∀ w, s.van.window = some w → w.serial ≠ v.serial) :
    s.requestVanOpen body = s.respondOffer .vop (vopBody v) := by
  have closed : s.windowIs v.serial = false := by
    unfold State.windowIs
    split
    · rename_i w hw
      exact decide_eq_false (hother w hw)
    · rfl
  simp [State.requestVanOpen, hv, closed]

/-- A VAN-CLOSE of the open window is sent. -/
theorem State.requestVanClose_eq {w : VanWindow} {s : State} (hw : s.van.window = some w) (hsmall : w.serial < 256) :
    s.requestVanClose (be1 w.serial) = s.respondOffer .vcl (be1 w.serial) := by
  have field : fieldAt (be1 w.serial) 0 1 = w.serial := (fieldAt_be1_last _).trans (Nat.mod_eq_of_lt hsmall)
  simp [State.requestVanClose, State.windowIs, field, hw, vclBody]

theorem requestsQueueTheirNotice : Claims.RequestsQueueTheirNotice := by
  intro body s hroom hrefs done
  obtain ⟨shifted, hshifted⟩ : ∃ u : State, u = s.shiftFiller (4 + body.length) := ⟨_, rfl⟩
  have asks {i : Instr} {k : RequestKind} {request : List Byte → State → State} {u : State}
      (he : exec i s = answerNext (s.takeRequest k request body)) (hpost : s.straps.role ≠ .post)
      (hk : k.allows s.straps.role = true) (hu : request body shifted = u) : exec i s = answerNext u := by
    rw [he, State.takeRequest_of_allowed hpost hk, ← hshifted, hu]
  have line : shifted.line = s.line := by rw [hshifted]; rfl
  have straps : shifted.straps = s.straps := by rw [hshifted]; rfl
  have window : shifted.van.window = s.van.window := by rw [hshifted]; rfl
  refine ⟨fun e hr he => ?push, fun bike cls hr hbody hbike hsmall hcls => ?clear, fun v hr hv hother => ?open_,
    fun w hr hw hbody hsmall => ?close⟩
  case push =>
    have step := asks (i := .memberPush body) (k := .memberPush) (u := State.respondOffer .mbr (mbrBody e)
      { shifted with view := s.view.put e }) rfl (by simp [hr]) (by simp [RequestKind.allows, hr])
      (by simp only [State.requestMemberPush, he, hshifted]; rfl)
    exact completes_notice step line (.inl (by rw [straps]; exact hr)) (by decide) (by decide) hroom hrefs
      fun line => ⟨by simp, conclude_frame_of _ _ _ (by simp [Touched.frame, hshifted])⟩
  case clear =>
    have step := asks (i := .faultClear body) (k := .faultClear) (u := shifted.respondOffer .fcl body) rfl
      (by simp [hr]) (by simp [RequestKind.allows, hr])
      (by rw [hbody]; exact shifted.requestFaultClear_eq hbike hsmall hcls)
    exact completes_notice step line (.inl (by rw [straps]; exact hr)) (by decide) (by decide) hroom hrefs
      fun line => ⟨trivial, conclude_frame_of _ _ _ (by simp [Touched.frame, hshifted])⟩
  case open_ =>
    have step := asks (i := .vanOpen body) (k := .vanOpen) (u := shifted.respondOffer .vop (vopBody v)) rfl
      (by simp [hr]) (by simp [RequestKind.allows, hr]) (State.requestVanOpen_eq hv (by rw [window]; exact hother))
    exact completes_notice step line (.inr (by rw [straps]; exact hr)) (by decide) (by decide) hroom hrefs
      fun line => ⟨by simp [window], conclude_frame_of _ _ _ (by simp [Touched.frame, hshifted])⟩
  case close =>
    have step := asks (i := .vanClose body) (k := .vanClose) (u := shifted.respondOffer .vcl body) rfl
      (by simp [hr]) (by simp [RequestKind.allows, hr])
      (by rw [hbody]; exact State.requestVanClose_eq (window.trans hw) hsmall)
    exact completes_notice step line (.inr (by rw [straps]; exact hr)) (by decide) (by decide) hroom hrefs
      fun line => ⟨by simp [window, hw], conclude_frame_of _ _ _ (by simp [Touched.frame, hshifted])⟩

/-- Settles O59: each request of the station's role acts behind the filler of its transaction, a notice with room is
queued with the next reference, and the conclusion of the step keeps it. -/
theorem terminalHoldsTheStation : Obligations.TerminalHoldsTheStation :=
  ⟨stationSetOnce, timeSetIsAdopted, terminalTimersSend, tariffIsLoadedAndCommitted, requestsQueueTheirNotice⟩

end Sys2Proof.Machine
end

section
/-! The coil at every step (R50, R52): the bolt's operations move the bolt state, the coil and the one-shot together, and every
other operation leaves the three as they were. -/

namespace Sys2Proof.Machine

/-! ### What the invariant speaks of -/

/-- What `State.coilSafe` speaks of: the bolt state, the coil drive and the one-shot. -/
def Dock.drive (d : Dock) := (d.bolt, d.coil, d.pullInEndAt)

theorem Dock.drive_eq_iff {d : Dock} {bolt : BoltState} {coil : CoilDrive} {due : Option Ms} :
    d.drive = (bolt, coil, due) ↔ d.bolt = bolt ∧ d.coil = coil ∧ d.pullInEndAt = due := by
  simp [Dock.drive]

/-- The lamp is no part of the drive. -/
theorem Dock.drive_of_sansLamp {d e : Dock} (h : d.sansLamp = e.sansLamp) : d.drive = e.drive := by
  have drives : d.sansLamp.drive = e.sansLamp.drive := by rw [h]
  exact drives

section
variable {s t u : State} {bolt : BoltState} {due : Ms}

/-- A step on what the invariant does not speak of. -/
theorem State.coilSafe.edit (h : u.coilSafe) (hd : t.dock.drive = u.dock.drive) : t.coilSafe := by
  obtain ⟨hbolt, hcoil, hpull⟩ := Dock.drive_eq_iff.1 hd
  simpa only [State.coilSafe, hbolt, hcoil, hpull] using h

theorem State.coilSafe.ite {c : Prop} [Decidable c] {a b : State} (ha : a.coilSafe) (hb : b.coilSafe) :
    (if c then a else b).coilSafe := by
  split
  · exact ha
  · exact hb

theorem State.coilSafe.foldl {α : Type} {f : State → α → State} (hf : ∀ u a, u.coilSafe → (f u a).coilSafe) :
    ∀ (l : List α) {u : State}, u.coilSafe → (l.foldl f u).coilSafe
  | [], _, h => h
  | a :: l, u, h => State.coilSafe.foldl hf l (hf u a h)

/-- A coil that is OFF, without a one-shot, goes with a bolt that is not drawn. -/
theorem State.coilSafe_of_off (hd : s.dock.drive = (bolt, .off, none)) (hbolt : bolt.drawn = false) : s.coilSafe := by
  obtain ⟨rfl, hcoil, hpull⟩ := Dock.drive_eq_iff.1 hd
  simp [State.coilSafe, hcoil, hpull, hbolt]

/-- A pull-in goes with an OPENING bolt and the one-shot. -/
theorem State.coilSafe_of_pullIn (hd : s.dock.drive = (.opening, .pullIn, some due)) : s.coilSafe := by
  obtain ⟨hbolt, hcoil, hpull⟩ := Dock.drive_eq_iff.1 hd
  simp [State.coilSafe, hbolt, hcoil, hpull, BoltState.drawn]

/-- The hold drive, without a one-shot, goes with a bolt that is drawn. -/
theorem State.coilSafe_of_hold (hd : s.dock.drive = (bolt, .hold, none)) (hbolt : bolt.drawn = true) : s.coilSafe := by
  obtain ⟨rfl, hcoil, hpull⟩ := Dock.drive_eq_iff.1 hd
  simp [State.coilSafe, hbolt, hcoil, hpull]

/-- Under a bolt that is not drawn the coil is OFF. -/
theorem State.coilSafe.off (h : s.coilSafe) (hbolt : s.dock.bolt.drawn = false) :
    s.dock.drive = (s.dock.bolt, .off, none) := by
  obtain ⟨driven, oneShot, _⟩ := h
  have hcoil : s.dock.coil = .off := by simpa [hbolt] using driven
  exact Dock.drive_eq_iff.2 ⟨rfl, hcoil, by simpa [hcoil] using oneShot⟩

/-- The one-shot runs in PULL-IN, the bolt OPENING. -/
theorem State.coilSafe.opening (h : s.coilSafe) (hdue : s.dock.pullInEndAt = some due) : s.dock.bolt = .opening := by
  obtain ⟨_, oneShot, opening⟩ := h
  exact opening (oneShot.2 (by simp [hdue]))

/-- A drawn bolt whose one-shot has ended is held by the hold drive. -/
theorem State.coilSafe.hold (h : s.coilSafe) (hbolt : s.dock.bolt.drawn = true) (hpull : s.dock.pullInEndAt = none) :
    s.dock.drive = (s.dock.bolt, .hold, none) := by
  obtain ⟨driven, oneShot, _⟩ := h
  refine Dock.drive_eq_iff.2 ⟨rfl, ?_, hpull⟩
  have hoff : s.dock.coil ≠ .off := driven.2 hbolt
  have hpullIn : s.dock.coil ≠ .pullIn := fun hc => by simpa [hpull] using oneShot.1 hc
  cases hcoil : s.dock.coil <;> simp_all

/-! ### The bolt's operations (R50 to R55, R71) -/

/-- The entry to CLOSING (R54) puts the coil OFF and starts the close check of 300 ms. -/
@[simp] theorem State.enterClosing_dock (s : State) :
    s.enterClosing.dock = { s.dock.coilOff with bolt := .closing, closeCheckAt := some (s.clock.ms + 300) } := by
  simp [State.enterClosing]

/-- A JAMMED bolt has the coil OFF, and no check runs. -/
@[simp] theorem State.jam_dock (s : State) :
    s.jam.dock = { s.dock.coilOff with bolt := .jammed, closeCheckAt := none, pushAsideAt := none } := by
  simp [State.jam]

/-- The seated bolt is CLOSED, the coil as it was. -/
theorem State.seat_drive (s : State) : s.seat.dock.drive = (.closed, s.dock.coil, s.dock.pullInEndAt) := by
  simp [State.seat, Dock.drive]

theorem State.boltHeld_drive (s : State) : s.boltHeld.dock.drive = (.held, s.dock.coil, s.dock.pullInEndAt) := by
  unfold State.boltHeld
  split <;> simp [Dock.drive]

theorem State.coilSafe_jam (s : State) : s.jam.coilSafe :=
  State.coilSafe_of_off (bolt := .jammed) (by simp [Dock.drive, Dock.coilOff]) rfl

/-- A bolt that is not drawn may seat. -/
theorem State.coilSafe.seat (h : u.coilSafe) (hbolt : u.dock.bolt.drawn = false) : u.seat.coilSafe := by
  obtain ⟨_, hcoil, hpull⟩ := Dock.drive_eq_iff.1 (h.off hbolt)
  exact State.coilSafe_of_off (u.seat_drive.trans (by rw [hcoil, hpull])) rfl

/-- From the entry to CLOSING on the coil is OFF, whether the bolt seats at once or not. -/
theorem State.coilSafe_seatIfClosed (hd : u.dock.drive = (.closing, .off, none)) : u.seatIfClosed.coilSafe := by
  have closing : u.coilSafe := State.coilSafe_of_off hd rfl
  obtain ⟨hbolt, _⟩ := Dock.drive_eq_iff.1 hd
  exact closing.ite (closing.seat (by rw [hbolt]; rfl))

theorem State.enterClosing_drive (s : State) : s.enterClosing.dock.drive = (.closing, .off, none) := by
  simp [Dock.drive, Dock.coilOff]

theorem State.coilSafe_releaseTake (s : State) : s.releaseTake.coilSafe := by
  refine State.coilSafe_seatIfClosed ?_
  split <;> simp [Dock.drive, Dock.coilOff]

theorem State.coilSafe.takeWhileHeld (h : u.coilSafe) : u.takeWhileHeld.coilSafe :=
  .ite (.ite (h.edit (by simp [Dock.drive])) h) (.ite u.coilSafe_releaseTake h)

/-- A drawn bolt may become HELD once the one-shot has ended. -/
theorem State.coilSafe.becomeHeld (h : u.coilSafe) (hbolt : u.dock.bolt.drawn = true) (hpull : u.dock.pullInEndAt = none) :
    u.becomeHeld.coilSafe := by
  obtain ⟨_, hcoil, _⟩ := Dock.drive_eq_iff.1 (h.hold hbolt hpull)
  have held : u.boltHeld.coilSafe := State.coilSafe_of_hold (u.boltHeld_drive.trans (by rw [hcoil, hpull])) rfl
  exact held.takeWhileHeld.ite held

theorem State.coilSafe.selfTestCloses (h : u.coilSafe) : u.selfTestCloses.coilSafe := by
  unfold State.selfTestCloses
  split
  · exact State.coilSafe_seatIfClosed (State.enterClosing_drive _)
  · exact h

theorem State.coilSafe_boltDropped (s : State) : s.boltDropped.coilSafe := by
  have dropped : State.coilSafe (State.evaluateSince
      { s with dock := { s.dock.coilOff with bolt := .closed, release := false } } s) :=
    State.coilSafe_of_off (bolt := .closed) (by simp [Dock.coilOff, Dock.drive]) rfl
  exact .ite (dropped.edit (by simp [Dock.drive])) (.ite (dropped.edit (by simp [Dock.drive])) dropped)

theorem State.coilSafe.abortDrive (h : u.coilSafe) : u.abortDrive.coilSafe :=
  .ite h.selfTestCloses
    (.ite (State.coilSafe_seatIfClosed (by simp [Dock.drive, Dock.coilOff]))
      (State.coilSafe_seatIfClosed u.enterClosing_drive))

/-! ### The pull-ins of a release and of a self-test (R51, R70, R117) -/

theorem State.coilSafe.requestRelease (h : u.coilSafe) : u.requestRelease.coilSafe :=
  .ite (h.edit (by simp [Dock.drive])) (State.coilSafe_of_pullIn rfl)

theorem State.coilSafe.hireWritten (h : u.coilSafe) : u.hireWritten.coilSafe :=
  .ite (h.edit (by simp [Dock.drive])) (.ite (h.edit (by simp [Dock.drive])) h.requestRelease)

theorem State.coilSafe.hireWriteAnswered {ref : Nat} {answer : WriteAnswer} (h : u.coilSafe) :
    (u.hireWriteAnswered ref answer).coilSafe := by
  unfold State.hireWriteAnswered
  split
  · split
    · split
      case h_1 =>
        split
        · exact h.hireWritten
        all_goals exact h.edit (by simp [Dock.drive])
      case h_2 => exact h.edit (by simp [Dock.drive])
      all_goals exact h
    · exact h
  · exact h

theorem State.coilSafe_startSelfTest (crew : Nat) (s : State) : (s.startSelfTest crew).coilSafe :=
  State.coilSafe_of_pullIn rfl

theorem State.coilSafe.takeCard {card : CardRecord} {held : Bool} (h : u.coilSafe) : (u.takeCard card held).coilSafe :=
  .ite h (.ite (u.coilSafe_startSelfTest _)
    (.ite (h.edit (by simp [Dock.drive])) (.ite (h.edit (by simp [Dock.drive])) h)))

theorem State.coilSafe.recordUnreadable (h : u.coilSafe) : u.recordUnreadable.coilSafe := by
  refine h.edit ?_
  unfold State.recordUnreadable
  dsimp only
  split <;> simp [Dock.drive]

theorem State.coilSafe.recordEnds (h : u.coilSafe) : u.recordEnds.coilSafe := by
  have idle : u.assemblerIdle.coilSafe := h
  have consumed : (u.assemblerIdle.consume .card).coilSafe := h
  unfold State.recordEnds
  split
  · exact idle
  · exact idle.recordUnreadable
  · exact idle.recordUnreadable
  · split
    · exact .takeCard (consumed.edit (by simp [Dock.drive]))
    · exact consumed.recordUnreadable

/-! ### The tag port (R74 to R82) -/

theorem State.coilSafe.finishWrite {r : WriteRequest} {answer : WriteAnswer} (h : u.coilSafe) :
    (u.finishWrite r answer).coilSafe := by
  have answered {v : State} (hv : v.coilSafe) : (v.writeAnswered r answer).beginWrite.coilSafe := by
    refine State.coilSafe.edit (u := v.writeAnswered r answer) ?_ (by simp)
    unfold State.writeAnswered
    split
    · exact hv.hireWriteAnswered
    all_goals exact hv.edit (by simp)
  refine answered ?_
  split <;> exact h.edit (by simp)

theorem State.coilSafe.tagSilent (h : u.coilSafe) : u.tagSilent.coilSafe := by
  unfold State.tagSilent
  split
  · exact .ite (h.edit (by simp)) (h.edit (by simp))
  · exact .finishWrite (h.edit (by simp))
  all_goals exact h

theorem State.coilSafe.sectionRead {bytes : List Byte} (h : u.coilSafe) : (u.sectionRead bytes).coilSafe := by
  unfold State.sectionRead
  split
  · exact .ite (h.edit (by simp)) (h.edit (by simp))
  · exact .ite (.finishWrite (h.edit (by simp))) (.ite (.finishWrite (h.edit (by simp))) (h.edit (by simp)))
  all_goals exact h

/-! ### The bolt's edges and timers (R49 to R57, R67, R71) -/

theorem State.coilSafe.boltOpens (h : u.coilSafe) : u.boltOpens.coilSafe := by
  unfold State.boltOpens State.openEdgeAct
  split <;> rename_i hbolt
  case h_2 =>
    dsimp only
    split <;> rename_i hpull
    · exact .becomeHeld (h.edit rfl) (congrArg BoltState.drawn hbolt) (by simpa using hpull)
    · exact h.edit rfl
  all_goals exact h.edit rfl

theorem State.coilSafe.boltCloses (h : u.coilSafe) : u.boltCloses.coilSafe := by
  unfold State.boltCloses State.closedEdgeAct
  have closes : State.coilSafe { u.stamp .boltClosed with dock := { u.dock with sensorOpen := false } } := h
  split <;> rename_i hbolt
  · exact closes.edit (by simp [Dock.drive])
  · exact .ite (State.coilSafe_boltDropped _) closes
  · exact State.coilSafe_boltDropped _
  · exact (closes.seat (congrArg BoltState.drawn hbolt)).edit (by simp [Dock.drive])
  · exact closes.edit (by simp [Dock.drive])

theorem State.coilSafe.pullInEnds (h : u.coilSafe) : u.pullInEnds.coilSafe := by
  unfold State.pullInEnds
  split
  · rename_i due hdue
    obtain ⟨k, hk⟩ := u.reachMs_eq due
    have drawn : u.dock.bolt.drawn = true := by rw [h.opening hdue]; rfl
    have holding : State.coilSafe { u with
        clock := k, dock := { u.dock with pullInEndAt := none, coil := .hold, holdDutyFrom := some (k.ms + 1) } } :=
      State.coilSafe_of_hold rfl drawn
    rw [hk]
    exact .ite (holding.becomeHeld drawn rfl) holding
  · exact h

theorem State.coilSafe.openCheckDue (h : u.coilSafe) : u.openCheckDue.coilSafe := by
  have fails (v : State) : v.openCheckFails.coilSafe :=
    .ite (v.coilSafe_jam.edit (by simp [Dock.drive]))
      (.ite (v.coilSafe_jam.edit (by simp [Dock.drive])) v.coilSafe_jam)
  unfold State.openCheckDue
  split
  · exact .ite (fails _) (h.edit (by simp [Dock.drive]))
  · exact h

theorem State.coilSafe.takeWindowDue (h : u.coilSafe) : u.takeWindowDue.coilSafe := by
  unfold State.takeWindowDue
  split
  · exact .ite (State.coilSafe_seatIfClosed (by simp [Dock.drive, Dock.coilOff])) (h.edit (by simp [Dock.drive]))
  · exact h

theorem State.coilSafe.closeCheckDue (h : u.coilSafe) : u.closeCheckDue.coilSafe := by
  unfold State.closeCheckDue
  split
  · exact .ite (State.coilSafe_of_off (bolt := .jammed) (by simp [Dock.drive, Dock.coilOff]) rfl) (h.edit (by simp [Dock.drive]))
  · exact h

theorem State.coilSafe.pushAsideDue (h : u.coilSafe) : u.pushAsideDue.coilSafe := by
  unfold State.pushAsideDue
  split
  · exact .ite (State.coilSafe_jam _) (h.edit (by simp [Dock.drive]))
  · exact h

theorem State.coilSafe.takeCh0 {pullIn : Nat} {code : BitVec 10} (h : u.coilSafe) : (u.takeCh0 pullIn code).coilSafe := by
  have taken : State.coilSafe { u with dock := { u.dock with ch0 := Channel.judged code } } := h
  exact .ite (.ite (.abortDrive (taken.edit (by simp))) (.ite (.abortDrive (taken.edit (by simp))) taken)) taken

/-! ### The line controller and the timebase -/

/-- What the listening blocks touch outside the dock mechanism leaves the coil. -/
theorem State.coilSafe.of_frame {b : Touched} (h : u.coilSafe) (hf : b.frame u t) (hb : b.dock = false) : t.coilSafe := by
  obtain ⟨_, _, _, _, hdock, _⟩ := hf
  exact h.edit (Dock.drive_of_sansLamp (hdock hb))

theorem State.coilSafe.endContended (h : u.coilSafe) : u.endContended.coilSafe := h.edit (by simp [Dock.drive])

theorem State.coilSafe.echoFails {bit : Nat} (h : u.coilSafe) : (u.echoFails bit).coilSafe := by
  unfold State.echoFails
  split
  · refine .ite (.endContended (h.edit ?_)) h
    unfold State.keepOwnCharacters
    dsimp only
    split <;> simp
  · exact h

theorem State.coilSafe.sentIntact {x : Transmission} {e : TxEntry} (h : u.coilSafe) : (u.sentIntact x e).coilSafe := by
  have answered : ((((u.abandonForOwn x).countSent e).hearSelf.blocksTake (u.ownFrame e) (some e.ref)).answerSent e
      u.line.serial).coilSafe :=
    .ite (h.edit (by simp [State.countSent, Dock.drive])) (h.edit (by simp [State.countSent, Dock.drive]))
  exact .ite (answered.edit (by simp)) answered

theorem State.coilSafe.transmissionEnds (h : u.coilSafe) : u.transmissionEnds.coilSafe := by
  unfold State.transmissionEnds
  split
  · exact .sentIntact (h.edit (by simp))
  · exact h

theorem State.coilSafe.deadlinePasses (h : u.coilSafe) : u.deadlinePasses.coilSafe := by
  unfold State.deadlinePasses
  split
  · exact .ite (h.edit (by simp)) (h.edit (by simp [Dock.drive]))
  · exact h

theorem State.coilSafe.pendingLapses {holder : PendingHolder} (h : u.coilSafe) : (u.pendingLapses holder).coilSafe := by
  unfold State.pendingLapses
  split
  · refine .ite (h.edit ?_) h
    cases holder <;> simp [State.setHeldCapture, Dock.drive]
  · exact h

/-! ### The mouth, the analog sweep and the local port -/

theorem State.coilSafe.mouthEmpties (h : u.coilSafe) : u.mouthEmpties.coilSafe := by
  have kept : State.coilSafe
      (if u.dock.docked then u.stamp .mouthOut else ((u.stamp .mouthOut).consume .mouthOut).consume .mouthIn) := .ite h h
  exact .ite kept.takeWhileHeld (.ite (kept.edit (by simp [Dock.drive])) kept)

theorem State.coilSafe.beamsChange {a b : Bool} (h : u.coilSafe) : (u.beamsChange a b).coilSafe := by
  have phased : State.coilSafe { u with dock := { u.dock with beamA := a, beamB := b } } := h
  refine .ite h (.ite (.ite h h) (.ite (.ite (.mouthEmpties h) h) (.ite phased (.ite (h.edit ?_) h))))
  simp [Dock.drive]

theorem State.coilSafe.takeCh1 {code : BitVec 10} (h : u.coilSafe) : (u.takeCh1 code).coilSafe := by
  unfold State.takeCh1 State.judgeCh1
  dsimp only
  refine .ite (h.edit ?_) h
  (repeat' split) <;> simp [Dock.drive]

theorem State.coilSafe.takeBurst {b : Burst} {code0 code1 code2 code3 : BitVec 10} (h : u.coilSafe) :
    (u.takeBurst b code0 code1 code2 code3).coilSafe := by
  have ch2 {v : State} (hv : v.coilSafe) : (v.takeCh2 code2).coilSafe :=
    .ite (hv.edit (by simp [Dock.drive])) (.ite (hv.edit (by simp [Dock.drive])) hv)
  have ch3 {v : State} {lit : Bool} (hv : v.coilSafe) : (v.takeCh3 lit code3).coilSafe :=
    .ite (hv.edit (by simp [Dock.drive])) hv
  unfold State.takeBurst
  split
  · exact h.takeCh0
  · exact ch3 (ch2 h.takeCh1)
  · exact ch3 (ch2 h)

theorem State.coilSafe.requestPeriodic (h : u.coilSafe) : u.requestPeriodic.coilSafe := by
  unfold State.requestPeriodic
  split <;> exact h

theorem State.coilSafe.requestEvent (h : u.coilSafe) : u.requestEvent.coilSafe := by
  unfold State.requestEvent
  split <;> exact h

theorem State.coilSafe.nextBurst (h : u.coilSafe) : u.nextBurst.coilSafe := by
  unfold State.nextBurst
  split <;> exact h

theorem State.coilSafe.takeRequest {k : RequestKind} {body : List Byte} (h : u.coilSafe) :
    (u.takeRequest k (Machine.requestOf k) body).coilSafe := by
  refine .ite (.ite (h.edit ?_) (h.edit (by simp))) h
  cases k <;> simp [Machine.requestOf, Dock.drive]

theorem State.coilSafe.takeTransaction {bytes : List Byte} (h : u.coilSafe) : (u.takeTransaction bytes).coilSafe := by
  unfold State.takeTransaction
  split
  · exact h
  · refine .ite (.ite (h.edit (by simp)) h) (.ite (.ite (h.edit (by simp)) ?_) h)
    split
    · exact h.edit (by simp)
    · exact h.takeRequest

end

/-! ### Every command -/

/-- A command that answers by the conclusion of a safe state. -/
theorem State.coilSafe.of_answer {t u : State} (h : u.coilSafe) (heq : answerNext u = .next t) : t.coilSafe := by
  obtain rfl : conclude u = t := by simpa [answerNext] using heq
  exact h.edit (by simp [Dock.drive])

/-- Every command but FULL_RESET keeps the coil safe. -/
theorem exec_coilSafe {i : Instr} {s t : State} (h : s.coilSafe) (hi : ∀ straps o a b, i ≠ .fullReset straps o a b)
    (heq : exec i s = .next t) : t.coilSafe := by
  cases i
  case fullReset => exact absurd rfl (hi _ _ _ _)
  all_goals refine .of_answer ?_ heq
  case quiet =>
    obtain ⟨c, hc⟩ := s.reachQuiet_eq
    refine .ite (h.edit ?_) h
    simp [State.becomeQuiet, hc, State.endStuck_eq]
  case accessWaitExpiry =>
    unfold State.accessWaitEnds
    split
    · exact h.edit (by simp)
    · exact h
  case echoCheckFail => exact h.echoFails
  case sentIntact => exact h.transmissionEnds
  case frameReceived | frameAbandoned =>
    split
    · exact .ite (h.edit (by simp [Dock.drive])) h
    · exact h
  case receiveGapExpiry =>
    unfold State.receiveGap
    split
    · exact .ite (h.edit (by simp)) h
    · exact h
  case stuckLine => exact .ite (.endContended (h.edit (by simp))) h
  case lineClear =>
    unfold State.lineClears
    split
    · exact h.edit (by simp)
    · exact h
  case deadlineExpiry => exact h.deadlinePasses
  case startBit => exact .ite h h
  case lineCharacter => exact h.edit (by simp [Dock.drive])
  case beaconTimerExpiry =>
    unfold State.beaconDue
    split
    · exact h.edit (by simp)
    · exact h
  case silenceTimerExpiry =>
    unfold State.silenceDue
    split
    · obtain ⟨_, _, touched⟩ := State.goSilent_frame _ (s.reachMs _)
      exact .ite h (.of_frame (h.edit (by simp)) touched rfl)
    · exact h
  case duplicateHoldExpiry =>
    unfold State.duplicateHoldEnds
    split
    · exact h.edit (by simp)
    · exact h
  case stalenessExpiry =>
    unfold State.becomeStale
    split
    · exact h.edit (by simp [State.carryBase])
    · exact h
  case carry =>
    unfold State.carryDue
    split
    · exact h.edit (by simp [State.carryBase])
    · exact h
  case pendingLapse => exact h.pendingLapses
  case captureSlotLapse =>
    unfold State.slotLapses
    split
    · exact h.edit (by simp)
    · exact h
  case openEdge => exact .ite h.boltOpens h
  case closedEdge => exact .ite h.boltCloses h
  case pullInEnd => exact h.pullInEnds
  case openCheckExpiry => exact h.openCheckDue
  case takeWindowExpiry => exact h.takeWindowDue
  case closeCheckExpiry => exact h.closeCheckDue
  case pushAsideLimitExpiry => exact h.pushAsideDue
  case holdPhaseEnd =>
    split
    · exact .selfTestCloses (h.edit (by simp))
    · exact h
  case beamEdge => exact .ite h.beamsChange h
  case buttonPress => exact .ite h h
  case buttonRelease => exact .ite h h
  case burstEndExpiry =>
    unfold State.burstEnds
    split
    · exact .ite (h.edit (by simp [Dock.drive])) (h.edit (by simp [Dock.drive]))
    · exact h
  case flashPhaseExpiry =>
    unfold State.flashPhaseEnds
    split
    · exact h.edit (by simp [Dock.drive])
    · exact h
  case refusalDisplayEnd | crewAcknowledgementEnd =>
    split
    · exact h.edit (by simp [Dock.drive])
    · exact h
  case periodicTimerExpiry =>
    split
    · exact .requestPeriodic (h.edit (by simp [Dock.drive]))
    · exact h
  case ch0Request =>
    split
    · exact .requestEvent (h.edit (by simp [Dock.drive]))
    · exact h
  case converterWakeEnd =>
    split
    · exact h.edit (by simp [Dock.drive])
    · exact h
    · exact h
  case burstComplete =>
    split
    · exact .nextBurst (.takeBurst (h.edit (by simp)))
    · exact h
    · exact h
  case tagAnswer => exact h.edit (by simp [Dock.drive])
  case noTag => exact h.tagSilent
  case sectionReadComplete => exact .ite (.sectionRead (h.edit (by simp [Dock.drive]))) h
  case sectionWriteComplete =>
    split
    · exact h.edit (by simp)
    all_goals exact h
  case cardCharacter =>
    refine .ite ?_ h
    unfold State.cardReceives State.assemble
    split
    case h_1 | h_2 => exact .ite h h
    all_goals exact h
  case recordGap =>
    split
    · exact .recordEnds (h.edit (by simp))
    · exact h
  case lookupTimerExpiry =>
    unfold State.lookupDue
    split
    · exact .ite (h.edit (by simp [Dock.drive])) (h.edit (by simp))
    · exact h
  case claimAgeExpiry =>
    split
    · exact h.edit (by simp)
    · exact h
  case claimWindowExpiry =>
    split
    · exact h.edit (by simp [Dock.drive])
    · exact h
  case settleTimerExpiry =>
    split
    · exact .ite (h.edit (by simp [Dock.drive])) (h.edit (by simp [Dock.drive]))
    · exact h
  case gatheringExpiry =>
    split
    · exact .ite (h.edit (by simp [State.settleUnrated])) (.ite (h.edit (by simp [State.settleUnrated])) (h.edit (by simp)))
    · exact h
  case status | peerRead | stationSet | timeSet | tariffLoad | tariffCommit | memberPush | faultClear |
      vanOpen | vanClose | eventRead => exact h.takeRequest
  case ratingComplete | stlRetryExpiry | stlAbandon | reportingWindowExpiry | windowExpiry | offerRetryExpiry |
      timTimerExpiry | trfCycleExpiry =>
    split
    · exact h.edit (by simp)
    · exact h
  case unknownRequest => exact h.takeTransaction
  case readTransaction => exact .ite (h.edit (by simp)) h

/-- Settles O9: a full reset leaves the coil OFF with no one-shot, the bolt CLOSED or CLOSING, and every other command keeps
the three in step. -/
theorem everyStepKeepsTheCoilSafe : Obligations.EveryStepKeepsTheCoilSafe := by
  intro s t hs heq
  unfold step at heq
  split at heq
  · obtain rfl : s.tick = t := by simpa using heq
    exact hs.edit (by simp)
  · rename_i c rest _
    by_cases hc : ∃ straps o a b, c = .fullReset straps o a b
    · obtain ⟨straps, o, a, b, rfl⟩ := hc
      obtain rfl : State.atRelease straps o a b rest = t := by simpa [exec, execFullReset] using heq
      exact State.coilSafe_of_off (bolt := if o then .closing else .closed) rfl (by cases o <;> rfl)
    · simp only [not_exists] at hc
      exact exec_coilSafe (s := { s with pending := rest }) hs hc heq

end Sys2Proof.Machine
end

section
/-! The lamp's timers and the converter's bursts. -/

namespace Sys2Proof.Machine

/-! ### The lamp (R64) -/

theorem lampTimersExpire : Claims.LampTimersExpire := by
  intro s due
  refine ⟨fun hdue hrow => congrArg answerNext ?_, fun d hdue hrow hd => congrArg answerNext ?_,
    fun d hd => congrArg answerNext ?_, fun hdue => congrArg answerNext ?_⟩
  · simp [State.flashPhaseEnds, hdue, hrow]
  · simp [State.flashPhaseEnds, hdue, hrow, hd]
  · simp [hd]
  · simp [hdue]

/-! ### The converter (R65, Table 4-5) -/

section
variable {s : State}

/-- An IDLE converter starts the periodic burst; a busy one holds it. -/
theorem State.requestPeriodic_of_idle (h : s.dock.converter = .idle) :
    s.requestPeriodic =
      { s with dock := { s.dock with converter := .pend (.periodic s.ebikeDocked) (s.clock.plusUs 40) } } := by
  simp [State.requestPeriodic, h, State.startBurst, State.periodicBurst]

theorem State.requestPeriodic_of_busy (h : s.dock.converter ≠ .idle) :
    s.requestPeriodic = { s with dock := { s.dock with pendingPeriodic := true } } := by
  cases hc : s.dock.converter <;> simp_all [State.requestPeriodic]

theorem State.requestEvent_of_idle (h : s.dock.converter = .idle) :
    s.requestEvent =
      { s with dock := { s.dock with converter := .pend (.event s.dock.pullIns) (s.clock.plusUs 40) } } := by
  simp [State.requestEvent, h, State.startBurst]

/-- A busy converter holds the event burst of the latest pull-in (log 26). -/
theorem State.requestEvent_of_busy (h : s.dock.converter ≠ .idle) :
    s.requestEvent = { s with dock := { s.dock with pendingEvent := some s.dock.pullIns } } := by
  cases hc : s.dock.converter <;> simp_all [State.requestEvent]

theorem exec_periodicTimerExpiry {due : Ms} (h : s.dock.periodicAt = some due) :
    exec .periodicTimerExpiry s =
      answerNext (State.requestPeriodic
        { s.reachMs due with dock := { s.dock with periodicAt := some (due + 500) } }) := by
  show answerNext _ = _
  simp only [h, State.reachMs_frame]

theorem exec_ch0Request {due : Ms} (h : s.dock.ch0At = some due) :
    exec .ch0Request s =
      answerNext (State.requestEvent { s.reachMs due with dock := { s.dock with ch0At := none } }) := by
  show answerNext _ = _
  simp only [h, State.reachMs_frame]

end

theorem converterTakesBursts : Claims.ConverterTakesBursts := by
  intro s due r
  refine ⟨fun hdue hc => ?_, fun hdue hc => ?_, fun hdue hc => ?_, fun hdue hc => ?_, fun burst i hc => ?_⟩
  · rw [exec_periodicTimerExpiry hdue, State.requestPeriodic_of_idle (by exact hc)]
    simp [answerNext, r, State.ebikeDocked, State.copyId]
  · rw [exec_periodicTimerExpiry hdue, State.requestPeriodic_of_busy (by exact hc)]
    rfl
  · rw [exec_ch0Request hdue, State.requestEvent_of_idle (by exact hc)]
    rfl
  · rw [exec_ch0Request hdue, State.requestEvent_of_busy (by exact hc)]
    rfl
  · refine congrArg answerNext ?_
    simp only [hc, State.reachInstant_frame]
    rcases burst with (_ | _) | _ <;> rfl

/-- Settles O40: each timer's arm written out, and the converter's requests by whether it is IDLE. -/
theorem lampAndConverterTimers : Obligations.LampAndConverterTimers := ⟨lampTimersExpire, converterTakesBursts⟩

end Sys2Proof.Machine
end

section
/-! The bolt's timers: the pull-in's end, the take window's end and the hold phase's end. -/

namespace Sys2Proof.Machine

section
variable {s : State}

/-- An evaluation offers nothing: no window is open, or the post hires or tests itself (R168, R170). -/
def State.offersNothing (s : State) : Prop := s.van.window = none ∨ s.hire.state ≠ .idle ∨ s.dock.selfTest ≠ none

theorem State.offersNothing.evaluateSince (h : s.offersNothing) (before : State) : s.evaluateSince before = s :=
  s.evaluateSince_of_none before (by rcases h with h | h | h <;> simp [h])

/-- The entry to CLOSING (R54) without an offer. -/
theorem State.offersNothing.enterClosing (h : s.offersNothing) :
    s.enterClosing =
      { s with dock := { s.dock.coilOff with bolt := .closing, closeCheckAt := some (s.clock.ms + 300) } } :=
  State.offersNothing.evaluateSince
    (s := { s with dock := { s.dock.coilOff with bolt := .closing, closeCheckAt := some (s.clock.ms + 300) } }) h s

/-- A sensor that reads open seats no bolt. -/
theorem State.seatIfClosed_of_open (h : s.dock.sensorOpen = true) : s.seatIfClosed = s := if_pos h

/-- The settle procedure waits 2,000 ms with a bike in the mouth (R121). -/
theorem State.startSettle_of_mouth (h : s.dock.count ≠ 0) :
    s.startSettle = s.onRecord (fun r => { r with settleAt := some (s.clock.ms + 2000) }) := if_neg h

/-- HELD in a self-test begins its hold phase (R71). -/
theorem State.boltHeld_of_test {test : SelfTest} (htest : s.dock.selfTest = some test) :
    s.boltHeld =
      { s with
        dock := { s.dock with
          bolt := .held, selfTest := some { test with phase := .hold }, holdEndAt := some (s.clock.ms + 2000) } } := by
  simp only [State.boltHeld, htest]
  exact State.offersNothing.evaluateSince (.inr (.inr (by simp))) s

theorem State.becomeHeld_of_test {test : SelfTest} (htest : s.dock.selfTest = some test) (hcount : s.dock.count ≠ 0) :
    s.becomeHeld =
      { s with
        dock := { s.dock with
          bolt := .held, selfTest := some { test with phase := .hold }, holdEndAt := some (s.clock.ms + 2000) } } := by
  rw [State.becomeHeld, State.boltHeld_of_test htest]
  exact if_neg hcount

/-- PULL_IN_END gives way to the hold drive, and HELD follows where the bolt has been seen open (R50, R52). -/
theorem exec_pullInEnd {due : Ms} (hdue : s.dock.pullInEndAt = some due) :
    let holding : State :=
      { s.reachMs due with
        dock := { s.dock with
          pullInEndAt := none, coil := .hold, holdDutyFrom := some ((s.reachMs due).clock.ms + 1) } }
    exec .pullInEnd s = answerNext (if s.dock.seenOpen then holding.becomeHeld else holding) := by
  show answerNext s.pullInEnds = _
  simp [State.pullInEnds, hdue]

theorem pullInEndHoldsTheBolt : Claims.PullInEndHoldsTheBolt := by
  intro s due hdue r holding
  have step : exec .pullInEnd s =
      answerNext (if s.dock.seenOpen then State.becomeHeld { r with dock := holding } else { r with dock := holding }) :=
    exec_pullInEnd hdue
  refine ⟨fun hseen => ?_, fun hseen hcount htest => ?_, fun test hseen hcount htest => ?_⟩
  · rw [step, if_neg (by simp [hseen])]
    rfl
  · rw [step, if_pos hseen, State.becomeHeld_of_mouth (by exact htest) (by exact hcount)]
    have cause (after : State) : after.evaluateSince { r with dock := holding } = after.evaluateSince s := by
      obtain ⟨k, hk⟩ : ∃ k, r = { s with clock := k } := s.reachMs_eq due
      rw [hk]
      rfl
    rw [cause]
    rfl
  · rw [step, if_pos hseen, State.becomeHeld_of_test (by exact htest) (by exact hcount)]
    rfl

theorem takeWindowExpiryClosesTheBolt : Claims.TakeWindowExpiryClosesTheBolt := by
  intro s due h hdue hbolt hcount hopen hstate hrecord r
  obtain ⟨k, hk⟩ : ∃ k, r = { s with clock := k } := s.reachMs_eq due
  have hr : s.reachMs due = r := rfl
  refine congrArg answerNext ?_
  rw [State.takeWindowDue, hdue]
  simp only [hr, hk, hbolt, if_true]
  rw [State.offersNothing.enterClosing (.inr (.inl (by simp [hstate]))), State.startSettle_of_mouth (by exact hcount),
    State.seatIfClosed_of_open (by exact hopen)]
  simp [State.onRecord, hrecord, Dock.coilOff]

/-- A self-test's hold gives way to its close phase, the sensor reading open. -/
theorem State.selfTestCloses_of_open {test : SelfTest} (htest : s.dock.selfTest = some test)
    (hopen : s.dock.sensorOpen = true) :
    s.selfTestCloses =
      { s with
        dock := { s.dock.coilOff with
          selfTest := some { test with phase := .close }, bolt := .closing
          closeCheckAt := some (s.clock.ms + 300) } } := by
  simp only [State.selfTestCloses, htest]
  rw [State.offersNothing.enterClosing (.inr (.inr (by simp))), State.seatIfClosed_of_open (by exact hopen)]
  rfl

theorem holdPhaseEndClosesTheBolt : Claims.HoldPhaseEndClosesTheBolt := by
  intro s due test hdue htest hopen r
  refine congrArg answerNext ?_
  simp only [hdue]
  rw [State.selfTestCloses_of_open (test := test) (by simpa using htest) (by simpa using hopen)]
  simp [r, Dock.coilOff]

end

/-- Settles O35: of the three timers' changes the bolt's becoming HELD for a release alone may call for an evaluation. -/
theorem boltTimersRun : Obligations.BoltTimersRun :=
  ⟨pullInEndHoldsTheBolt, takeWindowExpiryClosesTheBolt, holdPhaseEndClosesTheBolt⟩

end Sys2Proof.Machine
end

section
/-! The three checks that jam a bolt. -/

namespace Sys2Proof.Machine

/-! ### What a step touches -/

/-- Every block that `c` leaves alone `b` leaves alone. -/
@[reducible] def Touched.within (b c : Touched) : Prop :=
  (c.peers = false → b.peers = false) ∧ (c.time = false → b.time = false) ∧ (c.dock = false → b.dock = false) ∧
    (c.tag = false → b.tag = false) ∧ (c.card = false → b.card = false) ∧ (c.view = false → b.view = false) ∧
    (c.hire = false → b.hire = false) ∧ (c.settle = false → b.settle = false) ∧ (c.fault = false → b.fault = false) ∧
    (c.van = false → b.van = false) ∧ (c.port = false → b.port = false) ∧ (c.terminal = false → b.terminal = false)

theorem Touched.frame.mono {b c : Touched} {s t : State} (h : b.frame s t) (hbc : b.within c) : c.frame s t := by
  obtain ⟨straps, pending, h1, h2, h3, h4, h5, h6, h7, h8, h9, h10, h11, h12⟩ := h
  obtain ⟨k1, k2, k3, k4, k5, k6, k7, k8, k9, k10, k11, k12⟩ := hbc
  exact ⟨straps, pending, h1 ∘ k1, h2 ∘ k2, h3 ∘ k3, h4 ∘ k4, h5 ∘ k5, h6 ∘ k6, h7 ∘ k7, h8 ∘ k8, h9 ∘ k9, h10 ∘ k10,
    h11 ∘ k11, h12 ∘ k12⟩

theorem Touched.frame.refl (b : Touched) (s : State) : b.frame s s := by simp [Touched.frame]

/-! ### The jammed bolt (R52, R54, R55) -/

section
variable {s : State}

/-- A post fault raised is held. -/
theorem State.mem_raisePost (hpost : s.isPost = true) (f : PostFault) : f ∈ (s.raisePost f).fault.raised := by
  by_cases h : f ∈ s.fault.raised
  · simp [State.raisePost, h]
  · simp [State.raisePost_fault hpost h]

theorem State.mem_jam (hpost : s.isPost = true) : .jam ∈ s.jam.fault.raised :=
  State.mem_raisePost (by simpa [State.isPost] using hpost) .jam

theorem State.jam_touches (s : State) : ({ dock := true, fault := true } : Touched).frame s s.jam :=
  .trans (.trans (by simp [Touched.frame]) (State.evaluateSince_touches _ _ _))
    ((State.raisePost_touches _ _).mono (by decide))

/-- The end of a self-test leaves the rest of the dock mechanism as it was (R71). -/
theorem State.endSelfTest_dock (s : State) :
    s.endSelfTest.dock =
      if s.dock.selfTest.isSome then { s.dock with selfTest := none, holdEndAt := none } else s.dock := by
  unfold State.endSelfTest
  split
  · rename_i htest
    simp [htest]
  · rename_i htest
    simp [htest]

theorem State.endSelfTest_touches (s : State) : ({ dock := true } : Touched).frame s s.endSelfTest := by
  unfold State.endSelfTest
  split
  · exact .trans (by simp [Touched.frame]) ((State.evaluateOffer_untouched _).mono (by decide))
  · exact .refl _ s

theorem State.endSelfTest_selfTest (s : State) : s.endSelfTest.dock.selfTest = none := by
  rw [State.endSelfTest_dock]
  split
  · rfl
  · rename_i htest
    simpa using htest

/-- A bolt JAMMED with the coil OFF, its timers cancelled, and JAM held. -/
structure State.Jammed (t : State) : Prop where
  bolt : t.dock.bolt = .jammed
  coil : t.dock.coil = .off
  pullIn : t.dock.pullInEndAt = none
  takeWindow : t.dock.takeWindowAt = none
  ch0 : t.dock.ch0At = none
  raised : .jam ∈ t.fault.raised

theorem State.jammed_jam (hpost : s.isPost = true) : s.jam.Jammed :=
  ⟨by simp, by simp [Dock.coilOff], by simp [Dock.coilOff], by simp [Dock.coilOff], by simp [Dock.coilOff],
    State.mem_jam hpost⟩

/-- The end of a self-test, and the report to the requester, undo no jam. -/
theorem State.Jammed.endSelfTest (h : s.Jammed) : s.endSelfTest.Jammed := by
  obtain ⟨bolt, coil, pullIn, takeWindow, ch0, raised⟩ := h
  refine ⟨?_, ?_, ?_, ?_, ?_, by simpa using raised⟩ <;> rw [State.endSelfTest_dock] <;> split <;> assumption

/-- The conclusion of the step undoes no jam, and a jam is what the obligation says. -/
theorem State.Jammed.conclude (h : s.Jammed) :
    let t := Machine.conclude s
    t.dock.bolt = .jammed ∧ t.dock.coil = .off ∧ t.dock.pullInEndAt = none ∧ t.dock.takeWindowAt = none ∧
      t.dock.ch0At = none ∧ .jam ∈ t.fault.raised := by
  obtain ⟨bolt, coil, pullIn, takeWindow, ch0, raised⟩ := h
  simp [bolt, coil, pullIn, takeWindow, ch0, raised]

/-! ### The checks -/

/-- ABORTED JAM: a self-test ends, and a release, whose bike in the mouth is given the settle time (R52, R71, R120). -/
theorem State.openCheckFails_outcome (hpost : s.isPost = true) (hcount : 0 < s.dock.count) :
    s.openCheckFails.Jammed ∧ s.openCheckFails.dock.selfTest = none ∧
      (s.dock.selfTest = none → s.openCheckFails.dock.release = false) ∧
      ({ dock := true, fault := true, hire := true } : Touched).frame s s.openCheckFails := by
  have jammed := State.jammed_jam hpost
  have touches := s.jam_touches.mono (c := { dock := true, fault := true, hire := true }) (by decide)
  have hmouth : s.dock.count ≠ 0 := by omega
  by_cases htest : s.dock.selfTest = none
  · by_cases hrelease : s.dock.release = true
    · have settles : s.openCheckFails = State.onRecord (fun r => { r with settleAt := some (s.clock.ms + 2000) })
          { s.jam with dock := { s.jam.dock with release := false } } := by
        simp [State.openCheckFails, htest, hrelease, State.startSettle, hmouth, Dock.coilOff]
      obtain ⟨bolt, coil, pullIn, takeWindow, ch0, raised⟩ := jammed
      rw [settles]
      exact ⟨⟨bolt, coil, pullIn, takeWindow, ch0, raised⟩, by simp [Dock.coilOff, htest], fun _ => rfl,
        touches.trans (by simp [Touched.frame])⟩
    · have stays : s.openCheckFails = s.jam := by simp [State.openCheckFails, htest, hrelease, Dock.coilOff]
      rw [stays]
      exact ⟨jammed, by simp [Dock.coilOff, htest], fun _ => by simpa [Dock.coilOff] using hrelease, touches⟩
  · have ends : s.openCheckFails = s.jam.endSelfTest := by
      simp [State.openCheckFails, Option.isSome_iff_ne_none, htest, Dock.coilOff]
    rw [ends]
    exact ⟨jammed.endSelfTest, State.endSelfTest_selfTest _, fun h => absurd h htest,
      touches.trans (s.jam.endSelfTest_touches.mono (by decide))⟩

/-- NOT-SEATED ends a release and a self-test, and tells the hire nothing (R54). -/
theorem State.closeCheckFails_outcome (hpost : s.isPost = true) :
    let t := State.endSelfTest { s.jam with dock := { s.jam.dock with release := false } }
    t.Jammed ∧ t.dock.release = false ∧ t.dock.selfTest = none ∧
      ({ dock := true, fault := true } : Touched).frame s t := by
  obtain ⟨bolt, coil, pullIn, takeWindow, ch0, raised⟩ := State.jammed_jam hpost
  have released : State.Jammed { s.jam with dock := { s.jam.dock with release := false } } :=
    ⟨bolt, coil, pullIn, takeWindow, ch0, raised⟩
  refine ⟨released.endSelfTest, ?_, State.endSelfTest_selfTest _, s.jam_touches.trans ?_⟩
  · rw [State.endSelfTest_dock]
    split <;> rfl
  · exact .trans (by simp [Touched.frame]) ((State.endSelfTest_touches _).mono (by decide))

end

/-- Settles O36: the three checks jam the bolt where they find it as the statement says, and otherwise end alone. -/
theorem failedChecksJamTheBolt : Obligations.FailedChecksJamTheBolt := by
  intro s due hpost jammed
  have touch {b : Touched} {d : Dock} (hb : b.dock = true) : b.frame s { s.reachMs due with dock := d } := by
    simp [Touched.frame, hb]
  have post (d : Dock) : State.isPost { s.reachMs due with dock := d } = true := by simpa [State.isPost] using hpost
  refine ⟨fun hdue hbolt hseen hcount => ?open_, fun hdue h => congrArg answerNext ?seen, fun hdue hbolt => ?close,
    fun hdue hbolt hopen => ?aside, fun hdue hopen => congrArg answerNext ?back⟩
  case open_ =>
    have step : exec .openCheckExpiry s =
        answerNext (State.openCheckFails { s.reachMs due with dock := { s.dock with openCheckAt := none } }) := by
      refine congrArg answerNext ?_
      simp [State.openCheckDue, hdue, hbolt, hseen]
    obtain ⟨jam, test, release, touches⟩ := State.openCheckFails_outcome (post { s.dock with openCheckAt := none }) hcount
    refine completes_of_answer step ⟨jam.conclude, by simpa using test, fun h => ?_,
      conclude_frame_of _ _ _ ((touch rfl).trans touches)⟩
    simpa using release h
  case seen =>
    simp only [State.openCheckDue, hdue, State.reachMs_frame]
    refine if_neg ?_
    rcases h with h | h <;> simp [h]
  case close =>
    let u : State := { s.reachMs due with dock := { s.dock with closeCheckAt := none } }
    have step : exec .closeCheckExpiry s =
        answerNext (State.endSelfTest { u.jam with dock := { u.jam.dock with release := false } }) := by
      refine congrArg answerNext ?_
      simp [State.closeCheckDue, hdue, hbolt, u]
    obtain ⟨jam, release, test, touches⟩ := State.closeCheckFails_outcome (s := u) (post _)
    refine completes_of_answer step ⟨jam.conclude, by simpa using release, by simpa using test, by simp [u],
      conclude_frame_of _ _ _ ((touch rfl).trans touches)⟩
  case aside =>
    have step : exec .pushAsideLimitExpiry s =
        answerNext (State.jam { s.reachMs due with dock := { s.dock with pushAsideAt := none } }) := by
      refine congrArg answerNext ?_
      simp [State.pushAsideDue, hdue, hbolt, hopen]
    exact completes_of_answer step ⟨(State.jammed_jam (post _)).conclude,
      conclude_frame_of _ _ _ ((touch rfl).trans (State.jam_touches _))⟩
  case back =>
    simp [State.pushAsideDue, hdue, hopen]

end Sys2Proof.Machine
end

section
/-! Notices queued with room, and the take of a docked bike: the HIR of a member, the VTK of a van. -/

namespace Sys2Proof.Machine

/-! ### Queued notices -/

/-- The entry is queued, and no other frame has its reference. -/
structure Line.Holds (l : Line) (e : TxEntry) : Prop where
  mem : e ∈ l.queue
  below : e.ref < l.nextRef
  alone : ∀ x ∈ l.queue, x.ref = e.ref → x = e

/-- A new entry is the only frame with the next reference, where every queued frame has an earlier one. -/
theorem State.newEntry_holds {s : State} {l : Line} {kind : Kind} {body : List Byte}
    (hq : l.queue = insertEntry (s.newEntry kind body) s.line.queue) (hn : l.nextRef = s.line.nextRef + 1)
    (hrefs : ∀ x ∈ s.line.queue, x.ref < s.line.nextRef) : l.Holds (s.newEntry kind body) where
  mem := by simp [hq]
  below := by simp [hn, State.newEntry]
  alone x hx href := by
    rcases (mem_insertEntry _ _ _).1 (hq ▸ hx) with h | h
    · exact h
    · exact absurd href (Nat.ne_of_lt (hrefs x h))

theorem Line.Holds.conclude {s : State} {e : TxEntry} (h : s.line.Holds e) (hk : e.kind ≠ .tim) :
    e ∈ (conclude s).line.queue := conclude_keeps s e h.mem hk h.alone

section
variable {s : State} {e : TxEntry} {kind : Kind} {body : List Byte}

/-- A notice sent with room is queued. -/
theorem State.send_holds (hr : s.refusesOffer kind = false) (hk : kind ≠ .bcn) (hroom : s.line.queue.length < 8)
    (hrefs : ∀ x ∈ s.line.queue, x.ref < s.line.nextRef) : (s.send kind body).line.Holds (s.newEntry kind body) := by
  rw [State.send_room hr hk hroom]
  exact State.newEntry_holds rfl rfl hrefs

/-- What an offer is refused for is the straps and the clash mark. -/
theorem State.refusesOffer_congr {t : State} (hs : t.straps = s.straps) (hc : t.line.clash = s.line.clash) :
    t.refusesOffer kind = s.refusesOffer kind := by
  simp [State.refusesOffer, State.sends, State.barred, hs, hc]

/-- An entry stays queued when a frame is offered that has room. -/
theorem Line.Holds.offer (h : s.line.Holds e) (hk : kind ≠ .bcn) (hroom : s.line.queue.length < 8) :
    (s.offer kind body).1.line.Holds e := by
  by_cases hr : s.refusesOffer kind = true
  · rw [State.offer_refused kind body s hr]
    exact h
  · rw [State.offer_room kind body s (by simpa using hr) hk hroom]
    exact
      { mem := by simp [h.mem]
        below := Nat.lt_succ_of_lt h.below
        alone := fun x hx href => by
          rcases (mem_insertEntry _ _ _).1 hx with rfl | hx
          · exact absurd href.symm (Nat.ne_of_lt h.below)
          · exact h.alone x hx href }

theorem Line.Holds.evaluateOffer (h : s.line.Holds e) (hroom : s.line.queue.length < 8) :
    s.evaluateOffer.line.Holds e := by
  unfold State.evaluateOffer
  split
  · rename_i w _ _
    have offered := h.offer (kind := .ofr) (body := ofrBody w.serial (s.offerBike w) (s.ownRank w)) (by simp) hroom
    split
    · split <;> rename_i heq <;> rw [heq] at offered <;> exact offered
    · exact h
  · exact h

theorem Line.Holds.evaluateSince (h : s.line.Holds e) (hroom : s.line.queue.length < 8) (before : State) :
    (s.evaluateSince before).line.Holds e := by
  unfold State.evaluateSince
  split
  · exact h.evaluateOffer hroom
  · exact h

end

/-! ### The bike leaves (R58, R83) -/

section
variable {s : State}

/-- The parts of the blocks that a leaving bike's dependants play (R35, R58, R83, R163, R173). -/
def State.partsLeave (s : State) : State := s.dockLeaves.tagLeaves.faultLeaves.duplicateLeaves.vanLeaves

/-- A docked bike leaves, and what each block sees of it. -/
@[simp] theorem State.partsLeave_outcome (s : State) :
    s.partsLeave.straps = s.straps ∧ s.partsLeave.clock = s.clock ∧ s.partsLeave.line = s.line ∧
      s.partsLeave.hire = s.hire ∧
      s.partsLeave.dock =
        { s.dock with docked := false, noise := 0, dockedSince := none, ch1 := { last := none, fresh := false } } ∧
      s.partsLeave.tag.copy.state = .empty ∧ s.partsLeave.van.hold = false ∧
      s.partsLeave.van.holdSerial = s.van.holdSerial ∧ s.partsLeave.van.selfTestBike = s.van.selfTestBike ∧
      s.partsLeave.van.window = s.van.window := by
  simp [State.partsLeave, State.vanLeaves, State.duplicateLeaves, State.faultLeaves, State.tagLeaves, State.dockLeaves,
    TagCopy.none_]

/-- A release waits for no write, so none that ends FAILED LEFT is its matter (R124). -/
theorem State.writeLefts_of_releasing (h : s.hire.state = .releasing) (writes : List WriteRequest) :
    writes.foldl State.writeLeft s = s := by
  have left (r : WriteRequest) : s.writeLeft r = s := by
    simp only [State.writeLeft, State.hireWriteLeft, h, ite_self]
    split
    · split <;> rfl
    · rfl
  induction writes with
  | nil => rfl
  | cons r rest ih => rw [List.foldl_cons, left, ih]

/-- The bike leaves a release that does not settle. -/
theorem State.bikeLeaves_of_releasing {h : HireRecord} (hdocked : s.dock.docked = true)
    (hstate : s.hire.state = .releasing) (hrecord : s.hire.record = some h) (hsettle : h.settleAt = none) :
    s.bikeLeaves = s.partsLeave := by
  have still : s.partsLeave.evaluateSince s = s.partsLeave :=
    State.offersNothing.evaluateSince (.inr (.inl (by simp [hstate]))) s
  have left := State.writeLefts_of_releasing (s := s.partsLeave) (by simpa using hstate) s.outstandingWrites
  have unsettled : s.partsLeave.settling = false := by simp [State.settling, hrecord, hsettle]
  have leaves : s.bikeLeaves =
      let answered := s.outstandingWrites.foldl State.writeLeft (s.partsLeave.evaluateSince s)
      if answered.settling then answered.hireTakes else answered := if_pos hdocked
  rw [leaves, still, left]
  exact if_neg (by simp [unsettled])

/-- The bike leaves an IDLE hire that makes no offer upon it. -/
theorem State.bikeLeaves_of_idle_still (hdocked : s.dock.docked = true) (hidle : s.hire.state = .idle)
    (hstill : s.van.window = none ∨ s.dock.selfTest ≠ none) : s.bikeLeaves = s.partsLeave := by
  rw [State.bikeLeaves_of_idle hdocked hidle]
  refine State.offersNothing.evaluateSince (s := s.partsLeave) ?_ s
  rcases hstill with h | h
  · exact .inl (by simpa using h)
  · exact .inr (.inr (by simpa using h))

/-! ### The take of a release (R53, R118, R119, R174) -/

theorem State.offersNothing.enterClosing_line (h : s.offersNothing) : s.enterClosing.line = s.line := by
  rw [h.enterClosing]

/-- With the bolt in CLOSING and its sensor open, the bike leaves and the take ends the hire. -/
theorem State.releaseTake_of_open {h : HireRecord} (hdocked : s.dock.docked = true)
    (hopen : s.dock.sensorOpen = true) (hstate : s.hire.state = .releasing) (hrecord : s.hire.record = some h)
    (hsettle : h.settleAt = none) : s.releaseTake = s.enterClosing.partsLeave.hireTakes := by
  have leaves : s.enterClosing.bikeLeaves = s.enterClosing.partsLeave :=
    State.bikeLeaves_of_releasing (by simpa [Dock.coilOff] using hdocked) (by simpa using hstate)
      (by simpa using hrecord) hsettle
  have taken : (if s.enterClosing.partsLeave.hire.state = .releasing then s.enterClosing.partsLeave.hireTakes
      else s.enterClosing.partsLeave) = s.enterClosing.partsLeave.hireTakes := if_pos (by simpa using hstate)
  rw [State.releaseTake, leaves, taken]
  exact State.seatIfClosed_of_open (by simpa [Dock.coilOff] using hopen)

/-- While HELD for a release an empty mouth is its take (R53). -/
theorem State.takeWhileHeld_of_release {h : HireRecord} (htest : s.dock.selfTest = none)
    (hrelease : s.dock.release = true) (hdocked : s.dock.docked = true) (hopen : s.dock.sensorOpen = true)
    (hstate : s.hire.state = .releasing) (hrecord : s.hire.record = some h) (hsettle : h.settleAt = none) :
    s.takeWhileHeld = s.enterClosing.partsLeave.hireTakes := by
  have release : s.takeWhileHeld = s.releaseTake := by simp [State.takeWhileHeld, htest, hrelease]
  rw [release, State.releaseTake_of_open hdocked hopen hstate hrecord hsettle]

/-- The beams have moved back to an empty mouth, which stamps the mouth-out slot (R58, R59). -/
def State.mouthEmptied (a b : Bool) (s : State) : State :=
  { s.stamp .mouthOut with dock := { s.dock with beamA := a, beamB := b, count := 0 } }

@[simp] theorem State.mouthEmptied_frame (a b : Bool) (s : State) :
    (s.mouthEmptied a b).straps = s.straps ∧ (s.mouthEmptied a b).clock = s.clock ∧
      (s.mouthEmptied a b).line = s.line ∧ (s.mouthEmptied a b).hire = s.hire ∧ (s.mouthEmptied a b).van = s.van ∧
      (s.mouthEmptied a b).dock = { s.dock with beamA := a, beamB := b, count := 0 } := by
  simp [State.mouthEmptied]

/-- A docked bike gone from the mouth of a HELD bolt is a take (R53, R71). -/
theorem State.mouthEmpties_held (hbolt : s.dock.bolt = .held) (hdocked : s.dock.docked = true) :
    s.mouthEmpties = (s.stamp .mouthOut).takeWhileHeld := by
  simp [State.mouthEmpties, hdocked, hbolt]

/-- BEAM_EDGE that empties the mouth at a HELD bolt. -/
theorem exec_beamEdge_takes {a b : Bool} (hpost : s.straps.role = .post) (hcount : s.dock.count = 1)
    (hback : beamPhase s.dock.beamA s.dock.beamB = (beamPhase a b + 1) % 4) (hbolt : s.dock.bolt = .held)
    (hdocked : s.dock.docked = true) :
    exec (.beamEdge a b) s =
      answerNext (s.mouthEmptied a b).takeWhileHeld := by
  refine exec_beamEdge (by simp [State.isPost, hpost]) ((State.beamsChange_backward hback).trans
    ((State.countDown_of_one (by exact hcount)).trans (State.mouthEmpties_held (by exact hbolt) (by exact hdocked))))

/-- An end of the hire leaves the record and the state IDLE. -/
theorem State.hireIdle_hire (s : State) : s.hireIdle.hire = { s.hire with state := .idle, record := none } := by
  simp [State.hireIdle]

/-- Without a window the end of a hire leaves the line alone. -/
theorem State.hireIdle_line (hwindow : s.van.window = none) : s.hireIdle.line = s.line := by
  have still : State.hireIdle s = { s with hire := { s.hire with state := .idle, record := none } } :=
    State.offersNothing.evaluateSince (s := { s with hire := { s.hire with state := .idle, record := none } })
      (.inl hwindow) s
  rw [still]

/-- A member's take queues one HIR (R119). -/
theorem State.hireTakes_of_member {h : HireRecord} {claim : SentClaim} {w : HireSection} {bike : IdSection}
    (hrecord : s.hire.record = some h) (hkind : h.kind = .member) (hclaim : h.claim = some claim)
    (hw : h.written = some w) (hbike : h.bike = some bike) :
    s.hireTakes = (s.send .hir (hirBody claim.serial h.card.member bike.bikeId w.start w.plan w.unverified
      (decide (bike.kind = .ebike)) h.summary)).hireIdle := by
  simp [State.hireTakes, hrecord, State.announceTake, hkind, State.offerHir, hclaim, hw, hbike]

/-- A crew release's take queues one VTK (R174). -/
theorem State.hireTakes_of_crew {h : HireRecord} {w : HireSection} {bike : IdSection}
    (hrecord : s.hire.record = some h) (hkind : h.kind = .crew) (hw : h.written = some w) (hbike : h.bike = some bike) :
    s.hireTakes = (s.send .vtk (vtkBody s.van.holdSerial bike.bikeId w.member)).hireIdle := by
  simp [State.hireTakes, hrecord, State.announceTake, hkind, hw, hbike, State.offerVtk]

/-- Settles O38: the release is not settling, so the take ends it, and no offer comes before or after the HIR. -/
theorem emptyMouthTakesTheBike : Obligations.EmptyMouthTakesTheBike := by
  intro a b s h claim w bike hpost hcount hback hbolt htest hrelease hdocked hopen hstate hrecord hkind hclaim hw hbike
    hsettle hrefuses hroom hrefs hwindow
  have still : (s.mouthEmptied a b).offersNothing := .inl (by simpa using hwindow)
  have taken : (s.mouthEmptied a b).takeWhileHeld = (s.mouthEmptied a b).enterClosing.partsLeave.hireTakes :=
    State.takeWhileHeld_of_release (by simpa using htest) (by simpa using hrelease) (by simpa using hdocked)
      (by simpa using hopen) (by simpa using hstate) (by simpa using hrecord) hsettle
  have step := exec_beamEdge_takes hpost hcount hback hbolt hdocked
  rw [taken, State.hireTakes_of_member (by simpa using hrecord) hkind hclaim hw hbike] at step
  refine completes_of_answer step ?_
  have line : (s.mouthEmptied a b).enterClosing.partsLeave.line = s.line := by
    simp [still.enterClosing_line]
  have hir := State.send_holds (s := (s.mouthEmptied a b).enterClosing.partsLeave) (kind := .hir)
    (body := hirBody claim.serial h.card.member bike.bikeId w.start w.plan w.unverified (decide (bike.kind = .ebike))
      h.summary)
    ((State.refusesOffer_congr (by simp) (by rw [line])).trans hrefuses) (by simp) (by rw [line]; exact hroom)
    (by rw [line]; exact hrefs)
  refine ⟨by simp [Dock.coilOff], by simp, by simp, by simp, by simp [Dock.coilOff, hrelease], by simp, by simp,
    ?_, ?_⟩
  · simp [State.hireIdle_hire]
  · refine ⟨(s.mouthEmptied a b).enterClosing.partsLeave.newEntry .hir (hirBody claim.serial h.card.member bike.bikeId
      w.start w.plan w.unverified (decide (bike.kind = .ebike)) h.summary), Line.Holds.conclude ?_ (by simp [State.newEntry]),
      rfl, congrArg Line.nextRef line, rfl⟩
    rw [State.hireIdle_line (by simpa using hwindow)]
    exact hir

end
end Sys2Proof.Machine
end

section
/-! The hire's end of the mechanism: a written hire releases the bolt, the settle timer decides by the count, and the end of a
HIRE write ends a hire. -/

namespace Sys2Proof.Machine

/-! ### A queue with room -/

/-- The queue holds at most `n` frames, each with an earlier reference than the next one. -/
structure Line.Within (l : Line) (n : Nat) : Prop where
  len : l.queue.length ≤ n
  refs : ∀ e ∈ l.queue, e.ref < l.nextRef

section
variable {s : State} {n : Nat} {e : TxEntry} {kind : Kind} {body : List Byte}

theorem Line.Within.mono {l : Line} {m : Nat} (h : l.Within n) (hm : n ≤ m) : l.Within m := ⟨h.len.trans hm, h.refs⟩

/-- An offer adds at most one frame. -/
theorem Line.Within.offer (h : s.line.Within n) (hk : kind ≠ .bcn) (hroom : n < 8) :
    (s.offer kind body).1.line.Within (n + 1) := by
  by_cases hr : s.refusesOffer kind = true
  · rw [State.offer_refused kind body s hr]
    exact h.mono (by omega)
  · rw [State.offer_room kind body s (by simpa using hr) hk (Nat.lt_of_le_of_lt h.len hroom)]
    refine ⟨by simpa using h.len, fun x hx => ?_⟩
    rcases (mem_insertEntry _ _ _).1 hx with rfl | hx
    · exact Nat.lt_succ_self _
    · exact Nat.lt_succ_of_lt (h.refs x hx)

/-- A post that is neither barred nor clashing is refused no frame outright (R8, R9). -/
theorem State.refusesOffer_of_post (hpost : s.straps.role = .post) (hbarred : s.barred = false)
    (hclash : s.line.clash = false) : s.refusesOffer kind = false := by
  simp [State.refusesOffer, hbarred, hclash, State.sends, strapSends, hpost]

/-- A notice sent with room is queued. -/
theorem Line.Within.send (h : s.line.Within n) (hr : s.refusesOffer kind = false) (hk : kind ≠ .bcn) (hroom : n < 8) :
    (s.send kind body).line.Holds (s.newEntry kind body) :=
  State.send_holds hr hk (Nat.lt_of_le_of_lt h.len hroom) h.refs

/-- The end of a hire keeps a queued frame, where its own offer would have room. -/
theorem Line.Holds.hireIdle (h : s.line.Holds e) (hroom : s.line.queue.length < 8) : s.hireIdle.line.Holds e :=
  Line.Holds.evaluateSince (s := { s with hire := { s.hire with state := .idle, record := none } }) h hroom s

end

/-! ### Write requests and the fault unit -/

section
variable {s : State} {n : Nat}

/-- A write request changes of the fault unit its own writes alone. -/
@[simp] theorem State.requestWrite_fault (contents : SectionContents) (requester : Requester) (s : State) :
    let f := (s.requestWrite contents requester).1.fault
    f.tagMark = s.fault.tagMark ∧ f.window = s.fault.window ∧ f.lowCharge = s.fault.lowCharge ∧
      f.flat = s.fault.flat ∧ f.duplicate = s.fault.duplicate ∧ f.deferred = s.fault.deferred := by
  unfold State.requestWrite
  (repeat' split) <;> simp [State.forgetWrite]

/-- A post that makes no offer puts nothing on the line for a requested FAULTS section. -/
theorem State.offersNothing.requestFaults (h : s.offersNothing) (entries : List FaultEntry) :
    (s.requestFaults entries).line = s.line ∧ (s.requestFaults entries).fault.tagMark = s.fault.tagMark := by
  have frame := s.requestWrite_frame (.faults entries) .fault
  have fault := s.requestWrite_fault (.faults entries) .fault
  unfold State.requestFaults
  split <;> rename_i heq <;> rw [heq] at frame fault <;> dsimp only at frame fault
  · rename_i t ref
    have still : State.offersNothing
        { t with fault := { t.fault with writes := t.fault.writes ++ [{ ref := ref, entries := entries }] } } := by
      simpa [State.offersNothing, frame] using h
    rw [still.evaluateSince]
    obtain ⟨_, _, line, _⟩ := frame
    exact ⟨line, fault.1⟩
  all_goals
    obtain ⟨_, _, line, _⟩ := frame
    exact ⟨line, fault.1⟩

theorem State.offersNothing.changeFaults (h : s.offersNothing) (change : FaultChange) :
    (s.changeFaults change).line = s.line ∧ (s.changeFaults change).fault.tagMark = s.fault.tagMark := by
  unfold State.changeFaults
  split
  · split <;> exact ⟨rfl, rfl⟩
  · split
    · exact h.requestFaults _
    · exact ⟨rfl, rfl⟩

theorem State.offersNothing.askTagEntry (h : s.offersNothing) (failed : Bool) :
    (s.askTagEntry failed).line = s.line ∧ (s.askTagEntry failed).fault.tagMark = s.fault.tagMark := by
  unfold State.askTagEntry
  split
  · exact h.changeFaults _
  · exact ⟨rfl, rfl⟩

/-- A TAG report holds the mark, and of the line it takes one place for its FLT (R152). -/
theorem State.offersNothing.tagReport (h : s.offersNothing) (hline : s.line.Within n) (hroom : n < 8) (failed : Bool) :
    (s.tagReport failed).line.Within (n + 1) ∧ (s.tagReport failed).fault.tagMark = true := by
  unfold State.tagReport
  split <;> rename_i hmark
  · obtain ⟨line, mark⟩ := h.askTagEntry failed
    exact ⟨line ▸ hline.mono (by omega), mark.trans hmark⟩
  · have still : State.offersNothing (State.offerAutoFlt 8 2 { s with fault := { s.fault with tagMark := true } }) := by
      simpa [State.offersNothing] using h
    rw [still.evaluateSince]
    obtain ⟨line, mark⟩ := still.askTagEntry failed
    refine ⟨line ▸ ?_, by simpa using mark⟩
    exact Line.Within.offer (s := { s with fault := { s.fault with tagMark := true } }) hline (by simp) hroom

end

/-! ### The ends of a member hire (R114, R116, R122) -/

section
variable {s : State} {n : Nat} {h : HireRecord} {c : SentClaim}

/-- A member hire with a claim, on a line with room for its WDR and for an offer at its end. -/
structure State.Withdraws (s : State) (h : HireRecord) (c : SentClaim) : Prop where
  record : s.hire.record = some h
  kind : h.kind = .member
  claim : h.claim = some c
  sends : s.refusesOffer .wdr = false
  line : s.line.Within 6

/-- The claim of a member hire is withdrawn by a WDR (R114). -/
theorem State.Withdraws.withdrawClaim (w : s.Withdraws h c) :
    s.withdrawClaim = s.send .wdr (wdrBody c.serial h.card.member) := by
  obtain ⟨kind, card, _, _, claim, _, _, _, _, _, _, _⟩ := h
  obtain rfl : kind = .member := w.kind
  obtain rfl : claim = some c := w.claim
  simp [State.withdrawClaim, w.record, State.offerWdr]

/-- The WDR is queued, and stays queued when an offer follows it. -/
theorem State.Withdraws.wdr (w : s.Withdraws h c) :
    s.withdrawClaim.line.Holds (s.newEntry .wdr (wdrBody c.serial h.card.member)) ∧
      s.withdrawClaim.line.queue.length < 8 := by
  rw [w.withdrawClaim]
  have sent := w.line.offer (kind := .wdr) (body := wdrBody c.serial h.card.member) (by simp) (by omega)
  exact ⟨w.line.send w.sends (by simp) (by omega), Nat.lt_of_le_of_lt sent.len (by omega)⟩

theorem State.Withdraws.cancelOver (w : s.Withdraws h c) :
    s.cancelOver.line.Holds (s.newEntry .wdr (wdrBody c.serial h.card.member)) :=
  w.wdr.1.hireIdle w.wdr.2

theorem State.Withdraws.refuseWithdrawing (w : s.Withdraws h c) (group : Nat) :
    (s.refuseWithdrawing group).line.Holds (s.newEntry .wdr (wdrBody c.serial h.card.member)) :=
  Line.Holds.hireIdle (s := s.withdrawClaim.showRefusal group) (by simpa using w.wdr.1) (by simpa using w.wdr.2)

/-- A hire whose claim is withdrawn ends. -/
theorem State.Withdraws.cancelOver_hire (w : s.Withdraws h c) :
    s.cancelOver.hire = { s.hire with state := .idle, record := none } := by
  simp [State.cancelOver, State.hireIdle, w.withdrawClaim]

theorem State.Withdraws.refuseWithdrawing_outcome (w : s.Withdraws h c) (group : Nat) :
    (s.refuseWithdrawing group).hire = { s.hire with state := .idle, record := none } ∧
      (s.refuseWithdrawing group).dock.refusal = some { flashes := group, endAt := s.clock.ms + 3000 } := by
  simp [State.refuseWithdrawing, State.refuse, State.hireIdle, w.withdrawClaim, State.showRefusal]

end

/-! ### The end of a HIRE write (R82, R116, R122) -/

section
variable {s : State} {w : WriteRequest} {section_ : HireSection} {h : HireRecord} {c : SentClaim} {second : Bool}
  {issued : Ms} {bytes : List Byte}

/-- A read-back that was answered already is not answered again. -/
theorem exec_sectionReadComplete_of_readBack (hop : s.tag.operation = .write w second true true issued) :
    exec (.sectionReadComplete bytes) s = answerNext (s.sectionRead bytes) := by
  refine congrArg answerNext ?_
  simp [hop, TagOperation.reading, State.tagAnswers]

/-- A read-back of the written bytes ends the write WRITTEN. -/
theorem State.sectionRead_written (hop : s.tag.operation = .write w second true true issued)
    (hbytes : bytes = sectionBytes w.contents) :
    s.sectionRead bytes = (s.reachMs (issued + 15)).finishWrite w .written := by
  simp [State.sectionRead, hop, hbytes]

/-- A second read-back of other bytes ends it with a mismatch. -/
theorem State.sectionRead_mismatch (hop : s.tag.operation = .write w true true true issued)
    (hbytes : bytes ≠ sectionBytes w.contents) :
    s.sectionRead bytes = (s.reachMs (issued + 15)).finishWrite w .mismatch := by
  simp [State.sectionRead, hop, hbytes]

/-- The tag port with no operation in progress. -/
def State.tagIdled (s : State) : State := { s with tag := { s.tag with operation := .idle } }

@[simp] theorem State.tagIdled_frame (s : State) :
    s.tagIdled.straps = s.straps ∧ s.tagIdled.clock = s.clock ∧ s.tagIdled.line = s.line ∧ s.tagIdled.peers = s.peers ∧
      s.tagIdled.time = s.time ∧ s.tagIdled.dock = s.dock ∧ s.tagIdled.card = s.card ∧ s.tagIdled.view = s.view ∧
      s.tagIdled.hire = s.hire ∧ s.tagIdled.settle = s.settle ∧ s.tagIdled.fault = s.fault ∧ s.tagIdled.van = s.van ∧
      s.tagIdled.port = s.port ∧ s.tagIdled.terminal = s.terminal ∧ s.tagIdled.pending = s.pending ∧
      s.tagIdled.tag = { s.tag with operation := .idle } := by simp [State.tagIdled]

/-- The copy takes the HIRE section before the hire is answered. -/
theorem State.finishWrite_written (hcontents : w.contents = .hire section_) (hreq : w.requester = .hire) :
    s.finishWrite w .written = ((s.tagIdled.copyWritten (.hire section_)).hireWriteAnswered w.ref .written).beginWrite := by
  simp [State.finishWrite, State.writeAnswered, hcontents, hreq, State.tagIdled]

/-- A failed HIRE write makes a TAG report before the hire is answered (R82). -/
theorem State.finishWrite_failed {answer : WriteAnswer} (hanswer : answer ≠ .written) (hcontents : w.contents = .hire section_)
    (hreq : w.requester = .hire) :
    s.finishWrite w answer = ((s.tagIdled.tagReport false).hireWriteAnswered w.ref answer).beginWrite := by
  cases answer with
  | written => exact absurd rfl hanswer
  | mismatch => simp [State.finishWrite, State.writeAnswered, hcontents, hreq, State.tagIdled, SectionContents.sameSection]
  | noTag => simp [State.finishWrite, State.writeAnswered, hcontents, hreq, State.tagIdled, SectionContents.sameSection]

theorem State.beginWrite_of_none (hrequests : s.tag.requests = []) : s.beginWrite = s := by
  unfold State.beginWrite
  split
  · rename_i heq
    simp [hrequests] at heq
  · rfl

/-- The answer that a hire in TAGGING waits for. -/
theorem State.hireWriteAnswered_of_tagging {ref : Nat} {answer : WriteAnswer} (hrecord : s.hire.record = some h)
    (href : h.writeRef = some ref) (hstate : s.hire.state = .tagging) :
    s.hireWriteAnswered ref answer = if answer = .written then s.hireWritten else s.refuseWithdrawing 3 := by
  cases answer <;> simp [State.hireWriteAnswered, hrecord, href, hstate]

/-- In CANCELLING any answer ends the hire (R122). -/
theorem State.hireWriteAnswered_of_cancelling {ref : Nat} {answer : WriteAnswer} (hrecord : s.hire.record = some h)
    (href : h.writeRef = some ref) (hstate : s.hire.state = .cancelling) :
    s.hireWriteAnswered ref answer = s.cancelOver := by
  simp [State.hireWriteAnswered, hrecord, href, hstate]

/-- What the end of a HIRE write finds: a member hire that waits for it, and a line with room. -/
structure State.AwaitsWrite (s : State) (w : WriteRequest) (h : HireRecord) (c : SentClaim) : Prop where
  contents : ∃ section_, w.contents = .hire section_
  requester : w.requester = .hire
  record : s.hire.record = some h
  ref : h.writeRef = some w.ref
  kind : h.kind = .member
  claim : h.claim = some c
  sends : s.refusesOffer .wdr = false
  line : s.line.Within 3

/-- The TAG report of a failed write holds the mark, and leaves the hire and room for its end. -/
theorem State.AwaitsWrite.reported (a : s.AwaitsWrite w h c) (hbusy : s.hire.state ≠ .idle) :
    (s.tagIdled.tagReport false).Withdraws h c ∧ (s.tagIdled.tagReport false).fault.tagMark = true := by
  have still : s.tagIdled.offersNothing := .inr (.inl hbusy)
  obtain ⟨line, mark⟩ := still.tagReport (n := 3) a.line (by omega) false
  exact ⟨⟨by simpa using a.record, a.kind, a.claim,
    (State.refusesOffer_congr (by simp) (by simp)).trans a.sends,
    line.mono (by omega)⟩, mark⟩

/-- The hire has ended, and the WDR of its claim is queued. -/
def State.WithdrawnFrom (t s : State) (h : HireRecord) (c : SentClaim) : Prop :=
  t.hire = { s.hire with state := .idle, record := none } ∧
    ∃ q ∈ t.line.queue, q.kind = .wdr ∧ q.body = [c.serial] ++ be4 h.card.member

theorem Line.Holds.withdrawn {t v : State}
    (hold : t.line.Holds (v.newEntry .wdr (wdrBody c.serial h.card.member)))
    (hhire : t.hire = { s.hire with state := .idle, record := none }) :
    (Machine.conclude t).WithdrawnFrom s h c :=
  ⟨by simpa using hhire, _, hold.conclude (by simp [State.newEntry]), rfl, rfl⟩

/-- A failed write in TAGGING refuses the hire with group 3 (R116). -/
theorem State.AwaitsWrite.fails_tagging (a : s.AwaitsWrite w h c) (hstate : s.hire.state = .tagging)
    {answer : WriteAnswer} (hanswer : answer ≠ .written) :
    let t := conclude (s.finishWrite w answer)
    t.WithdrawnFrom s h c ∧ t.dock.refusal = some { flashes := 3, endAt := s.clock.ms + 3000 } ∧
      t.fault.tagMark = true ∧ t.tag.copy = s.tag.copy := by
  obtain ⟨section_, hcontents⟩ := a.contents
  obtain ⟨withdraws, mark⟩ := a.reported (by simp [hstate])
  have ends : s.finishWrite w answer = ((s.tagIdled.tagReport false).refuseWithdrawing 3).beginWrite := by
    rw [State.finishWrite_failed hanswer hcontents a.requester,
      State.hireWriteAnswered_of_tagging withdraws.record a.ref (by simpa using hstate), if_neg hanswer]
  obtain ⟨hire, refusal⟩ := withdraws.refuseWithdrawing_outcome 3
  rw [ends]
  refine ⟨Line.Holds.withdrawn (by simpa using withdraws.refuseWithdrawing 3) ?_, ?_, ?_, ?_⟩
  · simp [hire]
  · simp [refusal]
  · simp [mark]
  · simp

/-- A failed write in CANCELLING ends the hire without a display (R122). -/
theorem State.AwaitsWrite.fails_cancelling (a : s.AwaitsWrite w h c) (hstate : s.hire.state = .cancelling)
    {answer : WriteAnswer} (hanswer : answer ≠ .written) :
    let t := conclude (s.finishWrite w answer)
    t.WithdrawnFrom s h c ∧ t.dock.refusal = s.dock.refusal ∧ t.fault.tagMark = true ∧ t.tag.copy = s.tag.copy := by
  obtain ⟨section_, hcontents⟩ := a.contents
  obtain ⟨withdraws, mark⟩ := a.reported (by simp [hstate])
  have ends : s.finishWrite w answer = (s.tagIdled.tagReport false).cancelOver.beginWrite := by
    rw [State.finishWrite_failed hanswer hcontents a.requester,
      State.hireWriteAnswered_of_cancelling withdraws.record a.ref (by simpa using hstate)]
  have hire := withdraws.cancelOver_hire
  rw [ends]
  refine ⟨Line.Holds.withdrawn (by simpa using withdraws.cancelOver) ?_, ?_, ?_, ?_⟩
  · simp [hire]
  · simp
  · simp [mark]
  · simp

/-- WRITTEN in CANCELLING puts the prior HIRE into the copy, and no fault is told (R122). -/
theorem State.AwaitsWrite.written_cancelling (a : s.AwaitsWrite w h c) (hstate : s.hire.state = .cancelling)
    (hcontents : w.contents = .hire section_) (hrequests : s.tag.requests = []) :
    let t := conclude (s.finishWrite w .written)
    t.WithdrawnFrom s h c ∧ t.dock.refusal = s.dock.refusal ∧
      t.tag.copy = { s.tag.copy with hire := .good section_ } ∧ t.tag.operation = .idle ∧ t.fault = s.fault := by
  let v := s.tagIdled.copyWritten (.hire section_)
  have withdraws : v.Withdraws h c := ⟨a.record, a.kind, a.claim, a.sends, a.line.mono (by omega)⟩
  have hire := withdraws.cancelOver_hire
  have ends : s.finishWrite w .written = v.cancelOver := by
    rw [State.finishWrite_written hcontents a.requester, State.hireWriteAnswered_of_cancelling withdraws.record a.ref hstate]
    exact State.beginWrite_of_none (by simpa [v, State.copyWritten] using hrequests)
  rw [ends]
  refine ⟨Line.Holds.withdrawn withdraws.cancelOver hire, ?_, ?_, ?_, ?_⟩
  · simp [v]
  · simp [v, State.copyWritten]
  · simp [v, State.copyWritten]
  · simp [v]

end

theorem hireWritesEnd : Claims.HireWritesEnd := by
  intro bytes s w second issued h section_ c hcontents hreq hrequests hrecord href hkind hclaim hpost hbarred hclash hlen
    hrefs wdr ended refused
  have sends : s.refusesOffer .wdr = false := State.refusesOffer_of_post hpost hbarred hclash
  have awaits (due : Ms) : (s.reachMs due).AwaitsWrite w h c :=
    { contents := ⟨section_, hcontents⟩
      requester := hreq
      record := by simpa using hrecord
      ref := href
      kind := hkind
      claim := hclaim
      sends := (State.refusesOffer_congr (by simp) (by simp)).trans sends
      line := ⟨by simpa using hlen, by simpa using hrefs⟩ }
  refine ⟨fun hop hbytes => ⟨fun hstate => ?_, fun hstate => ?_⟩, fun back hop hstate => ?_, fun hop hbytes hstate => ?_⟩
  · have fails := (awaits (issued + 15)).fails_tagging (by simpa using hstate) (answer := .mismatch) (by simp)
    rw [← State.sectionRead_mismatch hop hbytes] at fails
    exact completes_of_answer (exec_sectionReadComplete_of_readBack hop) (by simpa only [State.WithdrawnFrom, State.reachMs_frame] using fails)
  · have fails := (awaits (issued + 15)).fails_cancelling (by simpa using hstate) (answer := .mismatch) (by simp)
    rw [← State.sectionRead_mismatch hop hbytes] at fails
    exact completes_of_answer (exec_sectionReadComplete_of_readBack hop) (by simpa only [State.WithdrawnFrom, State.reachMs_frame] using fails)
  · have fails := (awaits (issued + 5)).fails_tagging (by simpa using hstate) (answer := .noTag) (by simp)
    have step : exec .noTag s = answerNext ((s.reachMs (issued + 5)).finishWrite w .noTag) := by
      refine congrArg answerNext ?_
      simp [State.tagSilent, hop]
    exact completes_of_answer step (by simpa only [State.WithdrawnFrom, State.reachMs_frame] using fails)
  · have ends := (awaits (issued + 15)).written_cancelling (by simpa using hstate) hcontents (by simpa using hrequests)
    rw [← State.sectionRead_written hop hbytes] at ends
    exact completes_of_answer (exec_sectionReadComplete_of_readBack hop) (by simpa only [State.WithdrawnFrom, State.reachMs_frame] using ends)

/-! ### The release of a written hire (R51, R116, R117) -/

section
variable {s : State} {h : HireRecord} {code : BitVec 10}

/-- A written member hire without a fault of level 2 asks for the release. -/
theorem State.hireWritten_of_sound (hbike : s.bikeLevel < 2) (hpost : s.postLevel < 2) :
    s.hireWritten = s.requestRelease := by
  simp [State.hireWritten, Nat.not_le.2 hbike, Nat.not_le.2 hpost]

/-- The tests of R51 passed: no self-test, a seated bolt at rest, and a supply of 19,000 mV. -/
theorem State.releaseRefused_of_ready (htest : s.dock.selfTest = none) (hbolt : s.dock.bolt = .closed)
    (hopen : s.dock.sensorOpen = false) (hcoil : s.dock.coil = .off) (hlast : s.dock.ch2.last = some code)
    (hcode : 648 ≤ code.toNat) : s.releaseRefused = false := by
  have supply : ¬ supplyMillivolts code < 19000 := by
    unfold supplyMillivolts
    omega
  simp [State.releaseRefused, htest, hbolt, hopen, hcoil, hlast, supply]

/-- An accepted release draws the bolt (R51, R117). -/
theorem State.requestRelease_of_accepted (h : s.releaseRefused = false) :
    s.requestRelease =
      { s with
        hire := { s.hire with state := .releasing }
        dock := { s.dock.startPullIn s.clock.ms true with release := true } } :=
  if_neg (by simpa [State.releaseRefused] using h)

end

theorem writtenHireReleasesTheBolt : Claims.WrittenHireReleasesTheBolt := by
  intro bytes s w second issued h section_ code hop hcontents hreq hbytes hrequests hstate hrecord href hkind hbike hpost
    htest hbolt hopen hcoil hlast hcode now
  let v : State := (s.reachMs (issued + 15)).tagIdled.copyWritten (.hire section_)
  have levels : v.bikeLevel = s.bikeLevel ∧ v.postLevel = s.postLevel := by
    obtain ⟨k, hk⟩ := s.reachMs_eq (issued + 15)
    simp only [v, hk]
    exact ⟨rfl, rfl⟩
  have released : v.hireWriteAnswered w.ref .written =
      { v with
        hire := { v.hire with state := .releasing }
        dock := { v.dock.startPullIn v.clock.ms true with release := true } } := by
    rw [State.hireWriteAnswered_of_tagging (by simpa [v] using hrecord) href (by simpa [v] using hstate), if_pos rfl,
      State.hireWritten_of_sound (levels.1 ▸ hbike) (levels.2 ▸ hpost),
      State.requestRelease_of_accepted (State.releaseRefused_of_ready (by simpa [v] using htest)
        (by simpa [v] using hbolt) (by simpa [v] using hopen) (by simpa [v] using hcoil) (by simpa [v] using hlast) hcode)]
  have step : exec (.sectionReadComplete bytes) s = answerNext (v.hireWriteAnswered w.ref .written) := by
    rw [exec_sectionReadComplete_of_readBack hop, State.sectionRead_written hop hbytes,
      State.finishWrite_written hcontents hreq, State.beginWrite_of_none]
    show (v.hireWriteAnswered w.ref .written).tag.requests = []
    rw [released]
    simpa [v, State.copyWritten] using hrequests
  rw [released] at step
  refine completes_of_answer step ?_
  have frame : ({ tag := true, hire := true, dock := true } : Touched).frame s
      (conclude { v with
        hire := { v.hire with state := .releasing }
        dock := { v.dock.startPullIn v.clock.ms true with release := true } }) :=
    conclude_frame_of _ _ _ (by simp [Touched.frame, v, State.copyWritten])
  simpa [Dock.startPullIn, v, State.copyWritten, hopen, now] using frame

/-! ### The settle timer (R118, R121, R122) -/

section
variable {s : State} {h : HireRecord} {due : Ms}

theorem exec_settleTimerExpiry (hstate : s.hire.state = .releasing) (hrecord : s.hire.record = some h)
    (hdue : h.settleAt = some due) : exec .settleTimerExpiry s = answerNext (s.reachMs due).settleEnds := by
  refine congrArg answerNext ?_
  simp [State.settleDue, hstate, hrecord, hdue]

/-- The prior HIRE is written back at once while the tag port rests (R122). -/
theorem State.enterCancelling_idle {prior : HireSection} (hrecord : s.hire.record = some h) (hprior : h.prior = some prior)
    (hheld : s.tag.copy.state = .held) (hop : s.tag.operation = .idle) (hrequests : s.tag.requests = []) :
    s.enterCancelling none =
      { s with
        hire := { s.hire with
          state := .cancelling, record := some { h with settleAt := none, writeRef := some s.tag.nextRef } }
        tag := { s.tag with
          operation :=
            .write { contents := .hire prior, requester := .hire, ref := s.tag.nextRef } false false false s.clock.ms
          nextRef := s.tag.nextRef + 1 } } := by
  simp only [State.enterCancelling, State.onRecord, hrecord, Option.map_some, Option.bind_some, hprior]
  rw [State.requestWrite_idle _ _ _ (.inl (by exact hheld)) (by exact hop) (by exact hrequests)]
  rfl

end

theorem settleTimerDecidesByTheCount : Claims.SettleTimerDecidesByTheCount := by
  intro s due h claim prior w bike hpost hstate hrecord hkind hdue hclaim hprior hw hbike hdocked hheld hrequests hop now
  refine ⟨fun hcount => ?_, fun hcount hrefuses hroom hwindow hrefs => ?_⟩
  · have step := exec_settleTimerExpiry hstate hrecord hdue
    rw [State.settleEnds, if_pos (by simpa using hcount),
      State.enterCancelling_idle (h := h) (by simpa using hrecord) hprior
        (by simpa [State.copyHeld] using hheld) (by simpa using hop) (by simpa using hrequests)] at step
    refine completes_of_answer step ?_
    simp [hdocked, now]
  · let r := s.reachMs due
    let body := hirBody claim.serial h.card.member bike.bikeId w.start w.plan w.unverified (decide (bike.kind = .ebike))
      h.summary
    have idle : (r.send .hir body).hireIdle.hire.state = .idle := by simp [State.hireIdle_hire]
    have window : (r.send .hir body).hireIdle.van.window = none := by simpa [r] using hwindow
    have taken : r.treatAsTaken = (r.send .hir body).hireIdle.partsLeave := by
      rw [State.treatAsTaken, State.hireTakes_of_member (by simpa [r] using hrecord) hkind hclaim hw hbike]
      exact State.bikeLeaves_of_idle_still (by simpa [r] using hdocked) idle (.inl window)
    have step := exec_settleTimerExpiry hstate hrecord hdue
    rw [State.settleEnds, if_neg (by simpa using Nat.not_le.2 hcount), taken] at step
    have hir := State.send_holds (s := r) (kind := .hir) (body := body)
      ((State.refusesOffer_congr (by simp [r]) (by simp [r])).trans hrefuses) (by simp) (by simpa [r] using hroom)
      (by simpa [r] using hrefs)
    refine completes_of_answer step ⟨?_, by simp, by simp, r.newEntry .hir body, ?_, rfl, rfl⟩
    · simp [State.hireIdle_hire, r]
    · refine Line.Holds.conclude ?_ (by simp [State.newEntry])
      have line : (r.send .hir body).hireIdle.partsLeave.line = (r.send .hir body).line := by
        rw [← State.hireIdle_line (s := r.send .hir body) (by simpa [r] using hwindow)]
        simp
      rw [line]
      exact hir

/-- Settles O51: a HIRE write's end finds the hire that waits for it, and the settle timer the count of the mouth. -/
theorem hiresReleaseAndSettle : Obligations.HiresReleaseAndSettle :=
  ⟨writtenHireReleasesTheBolt, settleTimerDecidesByTheCount, hireWritesEnd⟩

end Sys2Proof.Machine
end

section
/-! The bolt sensor's closing: the docking test, a dropped bolt, and the bolt that seats (R49 to R57). -/

namespace Sys2Proof.Machine

/-- The lamp aside, the conclusion of a step leaves the dock mechanism. -/
theorem conclude_sansLamp (s : State) : (conclude s).dock.sansLamp = s.dock.sansLamp := by simp

/-! ### The docking test (R56) -/

/-- The condition of a docking: no bike docked, a count of 6 or more and a mouth-in capture held. -/
def State.docks (s : State) : Prop := s.dock.docked = false ∧ 6 ≤ s.dock.count ∧ s.time.mouthIn.isSome = true

section
variable {s : State} {c : Capture}

theorem State.not_docks (h : s.dock.docked = true ∨ s.dock.count < 6 ∨ s.time.mouthIn = none) : ¬ s.docks := by
  rintro ⟨hdocked, hcount, hmouth⟩
  rcases h with h | h | h
  · simp [h] at hdocked
  · omega
  · simp [h] at hmouth

/-- A docking as the dock mechanism, the timebase, the tag port, the fault unit and the van window unit take it (R56, R68, R77,
R171). -/
structure State.DockedFrom (t s : State) (c : Capture) : Prop where
  dock : t.dock = { s.dock with docked := true, noise := 0, dockedSince := some c }
  time : t.time = { s.time with boltClosed := none, mouthIn := none }
  tag : t.tag =
    { s.tag with
      operation := .readSet false [] false s.clock.ms
      copy := { TagCopy.none_ with state := .reading }
      docking := some c }
  fault : t.fault = { s.fault with lowCharge := false, flat := false }
  target : t.van.target = false
  hold : t.van.hold = s.van.hold
  touches : ({ time := true, dock := true, tag := true, fault := true, van := true } : Touched).frame s t

theorem State.dockingTest_docks (hslot : s.time.boltClosed = some c) (h : s.docks) : s.dockingTest.DockedFrom s c := by
  obtain ⟨hdocked, hcount, hmouth⟩ := h
  obtain ⟨m, hm⟩ := Option.isSome_iff_exists.1 hmouth
  have docks : s.dockingTest = (s.consume .boltClosed).dockBike c := by
    simp [State.dockingTest, Timebase.slot, hslot, hm, hdocked, hcount]
  rw [docks]
  refine ⟨?_, ?_, ?_, ?_, ?_, ?_, ?_⟩ <;>
    simp [State.dockBike, State.beginReadSet, State.vanDocks, State.consume, Timebase.setSlot, Touched.frame]

/-- Without a docking the edge's capture is discarded alone. -/
theorem State.dockingTest_stays (hslot : s.time.boltClosed = some c) (h : ¬ s.docks) :
    s.dockingTest = { s with time := { s.time with boltClosed := none } } := by
  have consumed : s.dockingTest = s.consume .boltClosed := by
    simp only [State.dockingTest, Timebase.slot, hslot]
    split
    · rename_i hmouth
      refine if_neg fun hdocks => h ?_
      simp only [Bool.and_eq_true, Bool.not_eq_true', decide_eq_true_eq] at hdocks
      exact ⟨hdocks.1, hdocks.2, by simp [hmouth]⟩
    · rfl
  rw [consumed]
  rfl

end

/-! ### The edge (R49) -/

section
variable {s u : State} {c : Capture}

/-- The capture of an edge at this instant. -/
def State.captureNow (s : State) : Capture :=
  { ms := s.clock.ms, scheme := s.time.stampScheme s.clock.ms, startUp := false }

/-- The sensor reads closed, which stamps the bolt-closed slot. -/
def State.boltShut (s : State) : State :=
  { s with
    time := { s.time with boltClosed := some s.captureNow }
    dock := { s.dock with sensorOpen := false } }

/-- The sensor's closing at a post acts by the bolt state. -/
theorem exec_closedEdge (hpost : s.isPost = true) (hopen : s.dock.sensorOpen = true) :
    exec .closedEdge s = answerNext s.boltShut.closedEdgeAct := by
  refine congrArg answerNext ?_
  rw [if_pos (by simp [hpost, hopen])]
  rfl

/-- The state the bolt's part of the edge leaves to the docking test. -/
structure State.ShutFrom (u s : State) : Prop where
  sensor : u.dock.sensorOpen = false
  docked : u.dock.docked = s.dock.docked
  since : u.dock.dockedSince = s.dock.dockedSince
  count : u.dock.count = s.dock.count
  noise : u.dock.noise = s.dock.noise
  time : u.time = { s.time with boltClosed := some s.captureNow }
  clock : u.clock = s.clock
  touches : ({ dock := true, time := true } : Touched).frame s u

theorem State.ShutFrom.docks_iff (h : u.ShutFrom s) : u.docks ↔ s.docks := by
  simp [State.docks, h.docked, h.count, h.time]

/-- What the docking test finds and leaves, as the statements say it. -/
def State.TestedFrom (t s : State) : Prop :=
  t.dock.sensorOpen = false ∧
    (s.docks → t.dock.docked = true ∧ t.dock.dockedSince = some s.captureNow ∧ t.dock.noise = 0 ∧
      t.time = { s.time with boltClosed := none, mouthIn := none } ∧
      t.tag.operation = .readSet false [] false s.clock.ms ∧ t.tag.copy.state = .reading ∧
      t.tag.docking = some s.captureNow ∧ t.fault = { s.fault with lowCharge := false, flat := false } ∧
      t.van.target = false) ∧
    (¬ s.docks → t.dock.docked = s.dock.docked ∧ t.dock.dockedSince = s.dock.dockedSince ∧
      t.dock.noise = s.dock.noise ∧ t.time = { s.time with boltClosed := none } ∧ t.fault = s.fault ∧
      t.van.target = s.van.target)

/-- What the docking test leaves of the dock mechanism: all but the docked bike, its capture and the noise count. -/
theorem State.ShutFrom.dock (h : u.ShutFrom s) : ∃ docked noise since,
    (conclude u.dockingTest).dock.sansLamp =
      { u.dock with docked := docked, noise := noise, dockedSince := since }.sansLamp := by
  by_cases hdocks : u.docks
  · have docked := State.dockingTest_docks (c := s.captureNow) (by simp [h.time]) hdocks
    exact ⟨true, 0, some s.captureNow, by simp [docked.dock]⟩
  · rw [State.dockingTest_stays (c := s.captureNow) (by simp [h.time]) hdocks]
    exact ⟨u.dock.docked, u.dock.noise, u.dock.dockedSince, by simp⟩

/-- The docking test of an edge. -/
theorem State.ShutFrom.tested (h : u.ShutFrom s) :
    (conclude u.dockingTest).TestedFrom s ∧ (¬ s.docks → (conclude u.dockingTest).tag = u.tag) ∧
      ({ time := true, dock := true, tag := true, fault := true, van := true } : Touched).frame s
        (conclude u.dockingTest) := by
  have touches := h.touches.mono (c := { time := true, dock := true, tag := true, fault := true, van := true }) (by decide)
  obtain ⟨_, _, _, _, _, tag, _, _, _, _, fault, van, _, _⟩ := h.touches
  have hvan : u.van.target = s.van.target := by
    have target := congrArg VanUnit.target (van rfl)
    exact target
  by_cases hdocks : u.docks
  · have docked := State.dockingTest_docks (c := s.captureNow) (by simp [h.time]) hdocks
    have hs := h.docks_iff.1 hdocks
    refine ⟨⟨?_, fun _ => ⟨?_, ?_, ?_, ?_, ?_, ?_, ?_, ?_, ?_⟩, fun hn => absurd hs hn⟩, fun hn => absurd hs hn,
      conclude_frame_of _ _ _ (touches.trans docked.touches)⟩
    · simp [docked.dock, h.sensor]
    · simp [docked.dock]
    · simp [docked.dock]
    · simp [docked.dock]
    · simp [docked.time, h.time]
    · simp [docked.tag, h.clock]
    · simp [docked.tag]
    · simp [docked.tag]
    · simp [docked.fault, fault rfl]
    · simp [docked.target]
  · have hs := mt h.docks_iff.2 hdocks
    rw [State.dockingTest_stays (c := s.captureNow) (by simp [h.time]) hdocks]
    refine ⟨⟨?_, fun hn => absurd hn hs, fun _ => ⟨?_, ?_, ?_, ?_, ?_, ?_⟩⟩, fun _ => by simp,
      conclude_frame_of _ _ _ (touches.trans (by simp [Touched.frame]))⟩
    · simpa using h.sensor
    · simpa using h.docked
    · simpa using h.since
    · simpa using h.noise
    · simp [h.time]
    · simpa using fault rfl
    · simpa using hvan

/-- The edge alone leaves to the docking test what it finds. -/
theorem State.shutFrom_boltShut (s : State) : s.boltShut.ShutFrom s :=
  ⟨rfl, rfl, rfl, rfl, rfl, rfl, rfl, by simp [Touched.frame, State.boltShut]⟩

end

theorem closedEdgeDocksABike : Claims.ClosedEdgeDocksABike := by
  intro s hpost hopen hbolt c
  let u : State := { s.boltShut with dock := { s.boltShut.dock with pushAsideAt := none } }
  have shut : u.ShutFrom s := ⟨rfl, rfl, rfl, rfl, rfl, rfl, rfl, by simp [Touched.frame, u, State.boltShut]⟩
  have htag : u.tag = s.tag := rfl
  have hclosed : u.dock.bolt = .closed := hbolt
  have hhold : u.van.hold = s.van.hold := rfl
  have step : exec .closedEdge s = answerNext u.dockingTest := by
    rw [exec_closedEdge hpost hopen]
    simp [State.closedEdgeAct, u, State.boltShut, hbolt]
  refine ⟨fun hdocked hcount hmouth => completes_of_answer step ?_, fun hstays => ?_⟩
  · have docks : s.docks := ⟨hdocked, hcount, hmouth⟩
    obtain ⟨tested, _, frame⟩ := shut.tested
    have docked := State.dockingTest_docks (c := s.captureNow) (by rfl) (shut.docks_iff.2 docks)
    obtain ⟨hsensor, hdocks, _⟩ := tested
    obtain ⟨isDocked, since, noise, time, operation, copy, docking, fault, target⟩ := hdocks docks
    refine ⟨isDocked, noise, since, ?_, ?_, hsensor, time, operation, copy, docking, ?_, fault, target, ?_, frame⟩
    · simp [docked.dock, u]
    · simp [hclosed]
    · simp [docked.tag, htag]
    · simp [hhold]
  · rw [step, State.dockingTest_stays (c := s.captureNow) (by rfl) (mt shut.docks_iff.1 (State.not_docks hstays))]
    rfl

/-! ### A dropped bolt (R52, R53, R71, R120) -/

section
variable {s : State}

/-- A bolt drawn and seen open drops. -/
theorem exec_closedEdge_drops (hpost : s.isPost = true) (hopen : s.dock.sensorOpen = true)
    (hbolt : s.dock.bolt = .held ∨ (s.dock.bolt = .opening ∧ s.dock.seenOpen = true)) :
    exec .closedEdge s = answerNext (s.boltShut.consume .boltClosed).boltDropped := by
  rw [exec_closedEdge hpost hopen]
  rcases hbolt with h | ⟨h, hseen⟩
  · simp [State.closedEdgeAct, State.boltShut, h]
  · simp [State.closedEdgeAct, State.boltShut, h, hseen]

/-- The drop itself, with its evaluation. -/
def State.boltDrops (s : State) : State :=
  State.evaluateSince { s with dock := { s.dock.coilOff with bolt := .closed, release := false } } s

theorem State.boltDrops_outcome (s : State) :
    s.boltDrops.dock = { s.dock.coilOff with bolt := .closed, release := false } ∧ s.boltDrops.hire = s.hire ∧
      s.boltDrops.clock = s.clock ∧ ({ dock := true } : Touched).frame s s.boltDrops := by
  refine ⟨by simp [State.boltDrops], by simp [State.boltDrops], by simp [State.boltDrops], ?_⟩
  exact .trans (by simp [Touched.frame]) (State.evaluateSince_touches _ _ _)

/-- After the end of a self-test neither it nor its hold runs on. -/
theorem State.boltDrops_endSelfTest_dock (s : State) :
    s.boltDrops.endSelfTest.dock = { s.dock.coilOff with bolt := .closed, release := false, selfTest := none } := by
  rw [State.endSelfTest_dock, s.boltDrops_outcome.1]
  split
  · rfl
  · rename_i htest
    have hnone : s.dock.selfTest = none := by simpa [Dock.coilOff] using htest
    simp [Dock.coilOff, hnone]

/-- A self-test ends with its drop, and a drop without a release is told to nobody. -/
theorem State.boltDropped_of_test (h : s.dock.selfTest.isSome = true ∨ s.dock.release = false) :
    s.boltDropped = s.boltDrops.endSelfTest := by
  have drops : s.boltDropped = if s.dock.selfTest.isSome then s.boltDrops.endSelfTest
      else if s.dock.release then s.boltDrops.startSettle.hireSeated else s.boltDrops := rfl
  rw [drops]
  split
  · rfl
  · rename_i htest
    have hnone : s.boltDrops.dock.selfTest = none := by
      simpa [s.boltDrops_outcome.1, Dock.coilOff] using htest
    rw [if_neg (by simpa [htest] using h)]
    simp [State.endSelfTest, hnone]

/-- A release's drop with a bike below the count of 6 settles (R120, R121). -/
theorem State.boltDropped_of_release (htest : s.dock.selfTest = none) (hrelease : s.dock.release = true)
    (hcount : 0 < s.dock.count) (hlow : s.dock.count < 6) :
    s.boltDropped = s.boltDrops.onRecord (fun r => { r with settleAt := some (s.clock.ms + 2000) }) := by
  have drops : s.boltDropped = s.boltDrops.startSettle.hireSeated := by
    simp [State.boltDropped, htest, hrelease, State.boltDrops]
  obtain ⟨hdock, _, hclock, _⟩ := s.boltDrops_outcome
  have hmouth : s.boltDrops.dock.count = s.dock.count := by simp [hdock, Dock.coilOff]
  rw [drops, State.startSettle_of_mouth (by omega), hclock]
  exact if_neg (by simp [hmouth, hlow])

end

theorem closedEdgeDropsADrawnBolt : Claims.ClosedEdgeDropsADrawnBolt := by
  intro s hpost hopen hbolt dropped
  have step := exec_closedEdge_drops hpost hopen hbolt
  let u : State := s.boltShut.consume .boltClosed
  have hu : u.dock = { s.dock with sensorOpen := false } := rfl
  have edge : ({ dock := true, time := true } : Touched).frame s u := by
    simp [Touched.frame, u, State.boltShut]
  obtain ⟨hdock, hhire, _, touches⟩ := u.boltDrops_outcome
  refine ⟨fun h => ?_, fun h htest hrelease hstate hrecord hcount hlow => ?_⟩
  · rw [State.boltDropped_of_test (by exact h)] at step
    have frame := conclude_frame_of _ _ _ (edge.trans ((touches.trans (State.endSelfTest_touches _)).mono (by decide)))
    have parts := frame
    obtain ⟨_, _, _, _, _, _, _, _, hire, _, fault, _⟩ := parts
    refine completes_of_answer step ⟨?_, fault rfl, hire rfl, frame⟩
    rw [conclude_sansLamp, u.boltDrops_endSelfTest_dock]
    rfl
  · rw [State.boltDropped_of_release (by exact htest) (by exact hrelease) (by exact hcount) (by exact hlow)] at step
    have frame : ({ dock := true, time := true, hire := true } : Touched).frame s
        (conclude (u.boltDrops.onRecord fun r => { r with settleAt := some (u.clock.ms + 2000) })) :=
      conclude_frame_of _ _ _ ((edge.trans (touches.mono (by decide))).mono (by decide) |>.trans (by simp [Touched.frame]))
    have parts := frame
    obtain ⟨_, _, _, _, _, _, _, _, _, _, fault, _⟩ := parts
    refine completes_of_answer step ⟨?_, fault rfl, ?_, frame⟩
    · rw [conclude_sansLamp]
      show u.boltDrops.dock.sansLamp = _
      rw [hdock]
      simp only [dropped, ← htest]
      rfl
    · have hire : u.boltDrops.hire = s.hire := hhire
      have settles : (u.boltDrops.onRecord fun r => { r with settleAt := some (u.clock.ms + 2000) }).hire =
          { s.hire with record := some { h with settleAt := some (s.clock.ms + 2000) } } := by
        simp only [State.onRecord, hire, hrecord]
        rfl
      have concluded (v : State) : (conclude v).hire = v.hire := by simp
      exact (concluded _).trans settles

/-! ### A bolt that seats, and a jammed one (R54, R57) -/

section
variable {s u : State}

/-- The seat with its evaluation, before the report. -/
def State.seats (s : State) : State :=
  State.evaluateSince { s with dock := { s.dock with bolt := .closed, closeCheckAt := none } } s

/-- The SEATED report ends a release, or else a self-test; in the settle procedure it tells the hire nothing below a count of
6 (R54, R71, R121). -/
theorem State.seat_of_unsettled (h : s.settling = false ∨ s.dock.release = false ∨ s.dock.count < 6) :
    s.seat = if s.dock.release then { s.seats with dock := { s.seats.dock with release := false } }
      else s.seats.endSelfTest := by
  have report : s.seat = if s.seats.dock.release then
      State.hireSeated { s.seats with dock := { s.seats.dock with release := false } } else s.seats.endSelfTest := rfl
  have hrelease : s.seats.dock.release = s.dock.release := by simp [State.seats]
  rw [report, hrelease]
  split
  · rename_i hr
    refine if_neg ?_
    have settling : State.settling { s.seats with dock := { s.seats.dock with release := false } } = s.settling := by
      simp [State.settling, State.seats]
    rw [settling]
    simp only [State.seats, State.evaluateSince_frame, Bool.and_eq_true, decide_eq_true_eq, not_and, not_le]
    intro hsettling
    simpa [hsettling, hr] using h
  · rfl

/-- The dock mechanism after a seat: the bolt CLOSED without its close check, the release or else the self-test over. -/
theorem State.seat_dock (h : s.settling = false ∨ s.dock.release = false ∨ s.dock.count < 6) :
    ∃ hold, s.seat.dock =
      { s.dock with
        bolt := .closed, closeCheckAt := none, release := false
        selfTest := if s.dock.release then s.dock.selfTest else none
        holdEndAt := hold } := by
  rw [State.seat_of_unsettled h]
  split
  · exact ⟨s.dock.holdEndAt, by simp [State.seats]⟩
  · rename_i hrelease
    rw [State.endSelfTest_dock]
    split
    · exact ⟨none, by simp [State.seats, hrelease]⟩
    · rename_i htest
      have hnone : s.dock.selfTest = none := by simpa [State.seats] using htest
      exact ⟨s.dock.holdEndAt, by simp [State.seats, hrelease, hnone]⟩

theorem State.seat_touches (h : s.settling = false ∨ s.dock.release = false ∨ s.dock.count < 6) :
    ({ dock := true } : Touched).frame s s.seat := by
  have seats : ({ dock := true } : Touched).frame s s.seats :=
    .trans (by simp [Touched.frame]) (State.evaluateSince_touches _ _ _)
  rw [State.seat_of_unsettled h]
  split
  · exact seats.trans (by simp [Touched.frame])
  · exact seats.trans (State.endSelfTest_touches _)

/-- SEATED in the settle procedure at a count of 6 or more writes the prior HIRE back (R121, R122). -/
theorem State.seat_of_settling {h : HireRecord} {prior : HireSection} (hrelease : s.dock.release = true)
    (hstate : s.hire.state = .releasing) (hrecord : s.hire.record = some h) (hsettle : h.settleAt.isSome = true)
    (hprior : h.prior = some prior) (hcount : 6 ≤ s.dock.count) (hheld : s.tag.copy.state = .held)
    (hop : s.tag.operation = .idle) (hrequests : s.tag.requests = []) :
    s.seat =
      { s with
        dock := { s.dock with bolt := .closed, closeCheckAt := none, release := false }
        hire := { s.hire with
          state := .cancelling, record := some { h with settleAt := none, writeRef := some s.tag.nextRef } }
        tag := { s.tag with
          operation :=
            .write { contents := .hire prior, requester := .hire, ref := s.tag.nextRef } false false false s.clock.ms
          nextRef := s.tag.nextRef + 1 } } := by
  have seats : s.seats = { s with dock := { s.dock with bolt := .closed, closeCheckAt := none } } :=
    State.offersNothing.evaluateSince (.inr (.inl (by simp [hstate]))) s
  have report : s.seat = s.seats.reportSeated := rfl
  have cancels (v : State) (hv : v.hire = s.hire) (hc : v.dock.count = s.dock.count) :
      v.hireSeated = v.enterCancelling none :=
    if_pos (by simp [State.settling, hv, hstate, hrecord, hsettle, hc, hcount])
  rw [report, seats, State.reportSeated, if_pos hrelease, cancels _ (by rfl) (by rfl),
    State.enterCancelling_idle (by exact hrecord) hprior (by exact hheld) (by exact hop) (by exact hrequests)]

/-- The seat of an edge, for the docking test. -/
theorem State.ShutFrom.seat (hu : u.ShutFrom s) (h : u.settling = false ∨ u.dock.release = false ∨ u.dock.count < 6) :
    u.seat.ShutFrom s := by
  obtain ⟨sensor, docked, since, count, noise, time, clock, touches⟩ := hu
  obtain ⟨hold, hdock⟩ := State.seat_dock h
  refine ⟨?_, ?_, ?_, ?_, ?_, ?_, ?_, touches.trans ((State.seat_touches h).mono (by decide))⟩
  · simp [hdock, sensor]
  · simp [docked]
  · simp [hdock, since]
  · simp [count]
  · simp [hdock, noise]
  · simp [time]
  · simp [clock]

end

theorem closedEdgeSeatsOrStaysJammed : Claims.ClosedEdgeSeatsOrStaysJammed := by
  intro s hpost hopen c docks tested
  have step := exec_closedEdge hpost hopen
  have shut := s.shutFrom_boltShut
  refine ⟨fun hbolt hunsettled => ?_, fun h prior hbolt hrelease hstate hrecord hsettle hprior hcount hdocked hheld
    hrequests hop => ?_, fun hbolt => ?_⟩
  · have unsettled : s.boltShut.settling = false ∨ s.boltShut.dock.release = false ∨ s.boltShut.dock.count < 6 := hunsettled
    have seats : s.boltShut.closedEdgeAct = s.boltShut.seat.dockingTest := by
      simp [State.closedEdgeAct, State.boltShut, hbolt]
    rw [seats] at step
    have seated := shut.seat unsettled
    obtain ⟨test, tag, frame⟩ := seated.tested
    obtain ⟨hold, hdock⟩ := State.seat_dock unsettled
    obtain ⟨docked, noise, since, hafter⟩ := seated.dock
    rw [hdock] at hafter
    obtain ⟨_, _, _, _, _, seatTag, _⟩ := State.seat_touches unsettled
    have part {α : Type} (f : Dock → α) := congrArg f hafter
    refine completes_of_answer step ⟨test, part Dock.bolt, part Dock.closeCheckAt, part Dock.coil, part Dock.release,
      fun hr => ?_, fun hr => ?_, fun hn => (tag hn).trans (seatTag rfl), frame⟩
    · exact (part Dock.selfTest).trans (if_neg (by simpa [State.boltShut] using hr))
    · exact (part Dock.selfTest).trans (if_pos hr)
  · have hdocks : ¬ s.docks := State.not_docks (.inl hdocked)
    have seats : s.boltShut.closedEdgeAct = s.boltShut.seat.dockingTest := by
      simp [State.closedEdgeAct, State.boltShut, hbolt]
    rw [seats, State.seat_of_settling (by exact hrelease) (by exact hstate) (by exact hrecord) hsettle hprior
      (by exact hcount) (by exact of_decide_eq_true hheld) (by exact hop) (by exact hrequests),
      State.dockingTest_stays (c := s.captureNow) (by rfl) (State.not_docks (.inl (by exact hdocked)))] at step
    refine completes_of_answer step ⟨⟨?_, fun hd => absurd hd hdocks, fun _ => ?_⟩, ?_⟩
    all_goals simp [State.boltShut]
  · have tests : s.boltShut.closedEdgeAct = s.boltShut.dockingTest := by
      simp [State.closedEdgeAct, State.boltShut, hbolt]
    rw [tests] at step
    obtain ⟨test, tag, frame⟩ := shut.tested
    obtain ⟨docked, noise, since, hafter⟩ := shut.dock
    have part {α : Type} (f : Dock → α) := congrArg f hafter
    exact completes_of_answer step ⟨test, (part Dock.bolt).trans hbolt, part Dock.release, part Dock.selfTest,
      fun hn => (tag hn).trans rfl, frame⟩

/-- Settles O34: the bolt's part of the edge leaves what the docking test reads, and the test does the rest. -/
theorem closedEdgeDocksOrDrops : Obligations.ClosedEdgeDocksOrDrops :=
  ⟨closedEdgeDocksABike, closedEdgeDropsADrawnBolt, closedEdgeSeatsOrStaysJammed⟩

end Sys2Proof.Machine
end

section
/-! The analog sweep: what a burst's results store, raise and clear (R65 to R69). -/

namespace Sys2Proof.Machine

/-! ### Faults raised and cleared -/

section
variable {s : State} {f g : PostFault}

/-- A post holds the fault raised and those it held. -/
theorem State.mem_raisePost_iff (hpost : s.isPost = true) (f g : PostFault) :
    g ∈ (s.raisePost f).fault.raised ↔ g = f ∨ g ∈ s.fault.raised := by
  by_cases h : f ∈ s.fault.raised
  · have held : s.raisePost f = s := by simp [State.raisePost, h]
    rw [held]
    exact ⟨.inr, fun hg => hg.elim (fun he => he ▸ h) id⟩
  · simp [State.raisePost_fault hpost h, or_comm]

/-- A fault cleared is the only one that goes. -/
theorem State.mem_clearPost_iff (f g : PostFault) :
    g ∈ (s.clearPost f).fault.raised ↔ g ≠ f ∧ g ∈ s.fault.raised := by
  simp [State.clearPost, and_comm]

theorem State.clearPost_touches (f : PostFault) (s : State) : ({ fault := true } : Touched).frame s (s.clearPost f) :=
  .trans (by simp [Touched.frame]) (State.evaluateSince_touches _ _ _)

/-- Post faults are raised and cleared apart from the battery's marks. -/
@[simp] theorem State.raisePost_battery (f : PostFault) (s : State) :
    (s.raisePost f).fault.lowCharge = s.fault.lowCharge ∧ (s.raisePost f).fault.flat = s.fault.flat := by
  unfold State.raisePost
  split <;> simp

@[simp] theorem State.clearPost_battery (f : PostFault) (s : State) :
    (s.clearPost f).fault.lowCharge = s.fault.lowCharge ∧ (s.clearPost f).fault.flat = s.fault.flat := by
  simp [State.clearPost]

theorem State.raiseLowCharge_fault (s : State) : s.raiseLowCharge.fault = { s.fault with lowCharge := true } := by
  unfold State.raiseLowCharge
  split
  · rename_i h
    rw [← h]
  · simp

theorem State.raiseFlat_fault (s : State) : s.raiseFlat.fault = { s.fault with flat := true } := by
  unfold State.raiseFlat
  split
  · rename_i h
    rw [← h]
  · simp

theorem State.offerAutoFlt_touches (cls level : Nat) (s : State) : ({} : Touched).frame s (s.offerAutoFlt cls level) := by
  simp [Touched.frame]

theorem State.raiseLowCharge_touches (s : State) : ({ fault := true } : Touched).frame s s.raiseLowCharge := by
  unfold State.raiseLowCharge
  split
  · exact .refl _ s
  · exact .trans (.trans (by simp [Touched.frame]) ((State.offerAutoFlt_touches _ _ _).mono (by decide)))
      (State.evaluateSince_touches _ _ _)

theorem State.raiseFlat_touches (s : State) : ({ fault := true } : Touched).frame s s.raiseFlat := by
  unfold State.raiseFlat
  split
  · exact .refl _ s
  · exact .trans (.trans (by simp [Touched.frame]) ((State.offerAutoFlt_touches _ _ _).mono (by decide)))
      (State.evaluateSince_touches _ _ _)

end

/-! ### The comparators (R66 to R69) -/

section
variable {s : State} {code : BitVec 10}

/-- A judged result: the dock mechanism has it, the clock stands, and a fault is raised or cleared. -/
structure State.JudgedFrom (t s : State) (d : Dock) : Prop where
  dock : t.dock = d
  clock : t.clock = s.clock
  post : t.isPost = s.isPost
  touches : ({ dock := true, fault := true } : Touched).frame s t

theorem State.JudgedFrom.trans {u t : State} {d e : Dock} (h : t.JudgedFrom s d) (k : u.JudgedFrom t e) :
    u.JudgedFrom s e :=
  ⟨k.dock, k.clock.trans h.clock, k.post.trans h.post, h.touches.trans k.touches⟩

/-- CH2 is stored, and SUPPLY-LOW follows its window (R69). -/
theorem State.takeCh2_judged (s : State) (code : BitVec 10) :
    (s.takeCh2 code).JudgedFrom s { s.dock with ch2 := Channel.judged code } := by
  unfold State.takeCh2 State.judgeCh2
  have stored : ({ dock := true, fault := true } : Touched).frame s
      { s with dock := { s.dock with ch2 := Channel.judged code } } := by simp [Touched.frame]
  split
  · exact ⟨by simp, by simp, by simp [State.isPost], stored.trans ((State.raisePost_touches _ _).mono (by decide))⟩
  · split
    · exact ⟨by simp, by simp, by simp [State.isPost], stored.trans ((State.clearPost_touches _ _).mono (by decide))⟩
    · exact ⟨rfl, rfl, rfl, stored⟩

theorem State.mem_takeCh2_iff (hpost : s.isPost = true) (g : PostFault) :
    g ∈ (s.takeCh2 code).fault.raised ↔
      if supplyMillivolts code < 20000 then g = .supplyLow ∨ g ∈ s.fault.raised
      else if 21000 < supplyMillivolts code then g ≠ .supplyLow ∧ g ∈ s.fault.raised
      else g ∈ s.fault.raised := by
  unfold State.takeCh2 State.judgeCh2
  split
  · exact State.mem_raisePost_iff (by exact hpost) _ _
  · split
    · exact State.mem_clearPost_iff _ _
    · rfl

/-- CH3 is stored, and LAMP is raised for a lit lamp below 20 mA (R69). -/
theorem State.takeCh3_judged (s : State) (lit : Bool) (code : BitVec 10) :
    (s.takeCh3 lit code).JudgedFrom s { s.dock with ch3 := Channel.judged code } := by
  unfold State.takeCh3 State.judgeCh3
  have stored : ({ dock := true, fault := true } : Touched).frame s
      { s with dock := { s.dock with ch3 := Channel.judged code } } := by simp [Touched.frame]
  split
  · exact ⟨by simp, by simp, by simp [State.isPost], stored.trans ((State.raisePost_touches _ _).mono (by decide))⟩
  · exact ⟨rfl, rfl, rfl, stored⟩

theorem State.mem_takeCh3_iff {lit : Bool} (hpost : s.isPost = true) (g : PostFault) :
    g ∈ (s.takeCh3 lit code).fault.raised ↔
      (g = .lamp ∧ lit = true ∧ lampMilliamps code < 20) ∨ g ∈ s.fault.raised := by
  unfold State.takeCh3 State.judgeCh3
  split <;> rename_i h <;> simp only [Bool.and_eq_true, decide_eq_true_eq] at h
  · rw [State.mem_raisePost_iff (by exact hpost)]
    simp [h]
  · simp [h]

/-- Neither comparator is about the battery. -/
@[simp] theorem State.takeCh2_battery (s : State) (code : BitVec 10) :
    (s.takeCh2 code).fault.lowCharge = s.fault.lowCharge ∧ (s.takeCh2 code).fault.flat = s.fault.flat := by
  unfold State.takeCh2 State.judgeCh2
  (repeat' split) <;> simp

@[simp] theorem State.takeCh3_battery (lit : Bool) (s : State) (code : BitVec 10) :
    (s.takeCh3 lit code).fault.lowCharge = s.fault.lowCharge ∧ (s.takeCh3 lit code).fault.flat = s.fault.flat := by
  unfold State.takeCh3 State.judgeCh3
  split <;> simp

/-- After a burst the converter takes a held one, and the rest of the dock mechanism stays (R65). -/
theorem State.nextBurst_outcome (s : State) :
    (∃ converter pendingEvent pendingPeriodic, s.nextBurst.dock =
      { s.dock with
        converter := converter, pendingEvent := pendingEvent, pendingPeriodic := pendingPeriodic }) ∧
      s.nextBurst.fault = s.fault ∧ ({ dock := true } : Touched).frame s s.nextBurst := by
  unfold State.nextBurst
  split <;> exact ⟨⟨_, _, _, rfl⟩, rfl, by simp [Touched.frame, State.startBurst]⟩

/-- A held event burst comes first. -/
theorem State.nextBurst_of_event {n : Nat} (h : s.dock.pendingEvent = some n) :
    s.nextBurst.dock = { s.dock with pendingEvent := none, converter := .pend (.event n) (s.clock.plusUs 40) } := by
  simp [State.nextBurst, h, State.startBurst]

theorem State.nextBurst_of_none (he : s.dock.pendingEvent = none) (hp : s.dock.pendingPeriodic = false) :
    s.nextBurst = { s with dock := { s.dock with converter := .idle } } := by
  simp [State.nextBurst, he, hp]

/-- A periodic burst without a docked e-bike converts CH2 and CH3, the lamp as it was at the conversion. -/
theorem State.takeBurst_periodic (s : State) (code0 code1 code2 code3 : BitVec 10) :
    s.takeBurst (.periodic false) code0 code1 code2 code3 = (s.takeCh2 code2).takeCh3 s.lampLit code3 := rfl

/-- With a docked e-bike CH1 comes first. -/
theorem State.takeBurst_battery (s : State) (code0 code1 code2 code3 : BitVec 10) :
    s.takeBurst (.periodic true) code0 code1 code2 code3 =
      ((s.takeCh1 code1).takeCh2 code2).takeCh3 s.lampLit code3 := rfl

/-- BURST_COMPLETE stores and judges the burst's channels, then takes the next burst. -/
theorem exec_burstComplete {burst : Burst} {i : Instant} (code0 code1 code2 code3 : BitVec 10)
    (h : s.dock.converter = .busy burst i) :
    exec (.burstComplete code0 code1 code2 code3) s =
      answerNext ((s.reachInstant i).takeBurst burst code0 code1 code2 code3).nextBurst := by
  show answerNext _ = _
  simp only [h]

/-- LOW-CHARGE and FLAT after a result: held below 15 % and 5 %, gone from 20 % on (R68). -/
theorem State.judgeCh1_fault (s : State) (code : BitVec 10) :
    (s.judgeCh1 code).fault =
      { s.fault with
        lowCharge :=
          if chargePercent code < 15 then true else if chargePercent code < 20 then s.fault.lowCharge else false
        flat := if chargePercent code < 5 then true else if chargePercent code < 20 then s.fault.flat else false } := by
  unfold State.judgeCh1
  by_cases h20 : 20 ≤ chargePercent code
  · have h15 : ¬ chargePercent code < 15 := by omega
    have h5 : ¬ chargePercent code < 5 := by omega
    simp [h20, h15, h5, Nat.not_lt.2 h20]
  · have h20' : chargePercent code < 20 := by omega
    by_cases h15 : chargePercent code < 15
    · by_cases h5 : chargePercent code < 5
      · simp [h20, h15, h5, State.raiseFlat_fault, State.raiseLowCharge_fault]
      · simp [h20, h20', h15, h5, State.raiseLowCharge_fault]
    · have h5 : ¬ chargePercent code < 5 := by omega
      simp [h20, h20', h15, h5]

/-- The battery's comparator changes nothing of the dock mechanism. -/
theorem State.judgeCh1_dock (s : State) (code : BitVec 10) :
    (s.judgeCh1 code).straps = s.straps ∧ (s.judgeCh1 code).clock = s.clock ∧ (s.judgeCh1 code).dock = s.dock := by
  unfold State.judgeCh1
  dsimp only
  (repeat' split) <;> simp

theorem State.judgeCh1_touches (s : State) (code : BitVec 10) : ({ fault := true } : Touched).frame s (s.judgeCh1 code) := by
  have low : ({ fault := true } : Touched).frame s (if chargePercent code < 15 then s.raiseLowCharge else s) := by
    split
    · exact s.raiseLowCharge_touches
    · exact .refl _ s
  have flat : ({ fault := true } : Touched).frame s
      (if chargePercent code < 5 then (if chargePercent code < 15 then s.raiseLowCharge else s).raiseFlat
        else (if chargePercent code < 15 then s.raiseLowCharge else s)) := by
    split
    · exact low.trans (State.raiseFlat_touches _)
    · exact low
  unfold State.judgeCh1
  dsimp only
  split
  · exact flat.trans (.trans (by simp [Touched.frame]) (State.evaluateSince_touches _ _ _))
  · exact flat

/-- CH1 of a docked bike is stored and judged (R65, R68). -/
theorem State.takeCh1_judged (hdocked : s.dock.docked = true) :
    (s.takeCh1 code).JudgedFrom s { s.dock with ch1 := Channel.judged code } ∧
      (s.takeCh1 code).fault = (s.judgeCh1 code).fault := by
  have taken : s.takeCh1 code = State.judgeCh1 code { s with dock := { s.dock with ch1 := Channel.judged code } } :=
    if_pos hdocked
  rw [taken]
  obtain ⟨straps, clock, dock⟩ :=
    State.judgeCh1_dock { s with dock := { s.dock with ch1 := Channel.judged code } } code
  refine ⟨⟨dock, clock, by simp [State.isPost, straps], ?_⟩, by simp [State.judgeCh1_fault]⟩
  exact .trans (by simp [Touched.frame]) ((State.judgeCh1_touches _ _).mono (by decide))

end

theorem periodicBurstIsJudged : Claims.PeriodicBurstIsJudged := by
  intro s i code0 code1 code2 code3 hpost hconv volts
  let r := s.reachInstant i
  have hr : r.dock = s.dock ∧ r.fault = s.fault ∧ r.isPost = true := by simp [r, State.isPost, ← hpost]
  obtain ⟨hdock, hfault, hpost'⟩ := hr
  have lit : r.lampLit = s.lampLit := by simp [State.lampLit, hdock]
  let a := r.takeCh2 code2
  let b := a.takeCh3 r.lampLit code3
  have ja : a.JudgedFrom r _ := r.takeCh2_judged code2
  have jb : b.JudgedFrom a _ := a.takeCh3_judged r.lampLit code3
  have step : exec (.burstComplete code0 code1 code2 code3) s = answerNext b.nextBurst := by
    rw [exec_burstComplete code0 code1 code2 code3 hconv, State.takeBurst_periodic]
  have bdock : b.dock = { s.dock with ch2 := Channel.judged code2, ch3 := Channel.judged code3 } := by
    rw [jb.dock, ja.dock, hdock]
  have mem (g : PostFault) : g ∈ (conclude b.nextBurst).fault.raised ↔
      (g = .lamp ∧ s.lampLit = true ∧ lampMilliamps code3 < 20) ∨
        if supplyMillivolts code2 < 20000 then g = .supplyLow ∨ g ∈ s.fault.raised
        else if 21000 < supplyMillivolts code2 then g ≠ .supplyLow ∧ g ∈ s.fault.raised
        else g ∈ s.fault.raised := by
    obtain ⟨_, fault, _⟩ := b.nextBurst_outcome
    have apost : a.isPost = true := ja.post.trans hpost'
    rw [show (conclude b.nextBurst).fault = b.fault by simp [fault]]
    show g ∈ (a.takeCh3 r.lampLit code3).fault.raised ↔ _
    rw [State.mem_takeCh3_iff apost, State.mem_takeCh2_iff hpost', lit, hfault]
  obtain ⟨⟨converter, pendingEvent, pendingPeriodic, hnext⟩, _, touches⟩ := b.nextBurst_outcome
  have hvolts : supplyMillivolts code2 = volts := rfl
  have hlamp : lampMilliamps code3 = code3.toNat * 500 / 1023 := rfl
  refine completes_of_answer step ⟨?_, ?_, ?_, ?_, fun h => ?_, fun h => ?_, fun h k => ?_, ?_, fun f hs hl => ?_,
    fun he hp => ?_, fun n he => ?_, ?_⟩
  · simp [hnext, bdock, Channel.judged]
  · simp [hnext, bdock, Channel.judged]
  · simp [hnext, bdock]
  · simp [hnext, bdock]
  · rw [mem, hvolts, if_pos h]
    simp
  · rw [mem, hvolts, if_neg (by omega), if_pos h]
    simp
  · rw [mem, hvolts, if_neg (Nat.not_lt.2 h), if_neg (Nat.not_lt.2 k)]
    simp
  · rw [mem, hlamp]
    split
    · simp [or_comm]
    · split <;> simp [or_comm]
  · rw [mem]
    split
    · simp [hs, hl]
    · split <;> simp [hs, hl]
  · simp [State.nextBurst_of_none (s := b) (by simp [bdock, he]) (by simp [bdock, hp])]
  · have hclock : b.clock = r.clock := jb.clock.trans ja.clock
    simp [State.nextBurst_of_event (s := b) (n := n) (by simp [bdock, he]), hclock, r]
  · have reached : ({ dock := true, fault := true } : Touched).frame s r := by simp [Touched.frame, r]
    exact conclude_frame_of _ _ _ ((reached.trans (ja.trans jb).touches).trans (touches.mono (by decide)))

theorem batteryIsJudged : Claims.BatteryIsJudged := by
  intro s i code0 code1 code2 code3 hconv hdocked millivolts percent
  let r := s.reachInstant i
  let a := (r.takeCh1 code1).takeCh2 code2
  let b := a.takeCh3 r.lampLit code3
  obtain ⟨j1, fault⟩ := State.takeCh1_judged (s := r) (code := code1) (by simpa [r] using hdocked)
  have ja : a.JudgedFrom r _ := j1.trans ((r.takeCh1 code1).takeCh2_judged code2)
  have jb : b.JudgedFrom r _ := ja.trans (a.takeCh3_judged r.lampLit code3)
  have step : exec (.burstComplete code0 code1 code2 code3) s = answerNext b.nextBurst := by
    rw [exec_burstComplete code0 code1 code2 code3 hconv, State.takeBurst_battery]
  obtain ⟨⟨converter, pendingEvent, pendingPeriodic, hnext⟩, nextFault, touches⟩ := b.nextBurst_outcome
  have bdock : b.dock.ch1 = Channel.judged code1 := by
    rw [jb.dock, State.JudgedFrom.dock ((r.takeCh1 code1).takeCh2_judged code2), j1.dock]
  have hpercent : chargePercent code1 = percent := rfl
  have reached : ({ dock := true, fault := true } : Touched).frame s r := by simp [Touched.frame, r]
  refine completes_of_answer step ⟨?_, ?_, ?_, ?_⟩
  · simp [hnext, bdock, Channel.judged]
  · have low : (conclude b.nextBurst).fault.lowCharge = (r.takeCh1 code1).fault.lowCharge := by
      simp [nextFault, b, a]
    rw [low, fault, State.judgeCh1_fault, ← hpercent]
    simp [r]
  · have flat : (conclude b.nextBurst).fault.flat = (r.takeCh1 code1).fault.flat := by
      simp [nextFault, b, a]
    rw [flat, fault, State.judgeCh1_fault, ← hpercent]
    simp [r]
  · exact conclude_frame_of _ _ _ ((reached.trans jb.touches).trans (touches.mono (by decide)))

/-! ### The coil current (R67) -/

section
variable {s : State} {code : BitVec 10} {pullIn : Nat}

theorem State.takeBurst_event (s : State) (n : Nat) (code0 code1 code2 code3 : BitVec 10) :
    s.takeBurst (.event n) code0 code1 code2 code3 = s.takeCh0 n code0 := rfl

/-- A coil no longer driven for that pull-in, or a current in the range, is no fault. -/
theorem State.takeCh0_sound
    (h : s.dock.coil = .off ∨ s.dock.pullIns ≠ pullIn ∨ (600 ≤ coilMilliamps code ∧ coilMilliamps code ≤ 2400)) :
    s.takeCh0 pullIn code = { s with dock := { s.dock with ch0 := Channel.judged code } } := by
  simp only [State.takeCh0, State.judgeCh0]
  split
  · rename_i driven
    simp only [Bool.and_eq_true, decide_eq_true_eq] at driven
    obtain ⟨hcoil, hpull⟩ := driven
    rcases h with h | h | ⟨low, high⟩
    · exact absurd h hcoil
    · exact absurd hpull h
    · rw [if_neg (Nat.not_lt.2 low), if_neg (Nat.not_lt.2 high)]
  · rfl

/-- A coil fault is raised, and aborts the drive. -/
theorem State.takeCh0_fault (hcoil : s.dock.coil ≠ .off) (hpull : s.dock.pullIns = pullIn)
    (h : coilMilliamps code < 600 ∨ 2400 < coilMilliamps code) :
    ∃ f, (coilMilliamps code < 600 → f = .coilOpen) ∧ (2400 < coilMilliamps code → f = .coilShort) ∧
      s.takeCh0 pullIn code =
        (State.raisePost f { s with dock := { s.dock with ch0 := Channel.judged code } }).abortDrive := by
  by_cases low : coilMilliamps code < 600
  · exact ⟨.coilOpen, fun _ => rfl, fun high => by omega, by simp [State.takeCh0, State.judgeCh0, hcoil, hpull, low]⟩
  · have high : 2400 < coilMilliamps code := by omega
    exact ⟨.coilShort, fun h => absurd h low, fun _ => rfl,
      by simp [State.takeCh0, State.judgeCh0, hcoil, hpull, low, high]⟩

/-- An aborted drive of a release, or of no one, closes the bolt, and the bike in the mouth is given the settle time (R120). -/
theorem State.abortDrive_of_mouth (htest : s.dock.selfTest = none) (hopen : s.dock.sensorOpen = true)
    (hcount : 0 < s.dock.count) :
    s.abortDrive.dock = { s.dock.coilOff with bolt := .closing, closeCheckAt := some (s.clock.ms + 300) } ∧
      s.abortDrive.fault = s.fault ∧ ({ dock := true, hire := true } : Touched).frame s s.abortDrive := by
  have closes : ({ dock := true, hire := true } : Touched).frame s s.enterClosing :=
    .trans (by simp [Touched.frame]) (State.evaluateSince_touches _ _ _)
  have mouth : s.enterClosing.dock.count ≠ 0 := by simp [Dock.coilOff]; omega
  have seatless (u : State) (h : u.dock = s.enterClosing.dock) : u.seatIfClosed = u :=
    State.seatIfClosed_of_open (by simp [h, Dock.coilOff, hopen])
  unfold State.abortDrive
  rw [if_neg (by simp [htest])]
  split
  · rw [State.startSettle_of_mouth mouth, seatless _ (by simp)]
    exact ⟨by simp, by simp, closes.trans (by simp [Touched.frame])⟩
  · rw [seatless _ rfl]
    exact ⟨by simp, by simp, closes⟩

end

theorem coilCurrentIsJudged : Claims.CoilCurrentIsJudged := by
  intro s n i code0 code1 code2 code3 hpost hconv hevent hperiodic amps
  have step : exec (.burstComplete code0 code1 code2 code3) s =
      answerNext ((s.reachInstant i).takeCh0 n code0).nextBurst := by
    rw [exec_burstComplete code0 code1 code2 code3 hconv, State.takeBurst_event]
  have hamps : coilMilliamps code0 = amps := rfl
  refine ⟨fun h => ?_, fun hcoil hpull h hopen htest hcount => ?_⟩
  · rw [step, State.takeCh0_sound (by simpa [hamps] using h),
      State.nextBurst_of_none (by simpa using hevent) (by simpa using hperiodic)]
    simp [answerNext, Channel.judged]
  · obtain ⟨f, low, high, faulty⟩ := State.takeCh0_fault (s := s.reachInstant i) (code := code0) (pullIn := n)
      (by simpa using hcoil) (by simpa using hpull) h
    let r : State := { s.reachInstant i with dock := { (s.reachInstant i).dock with ch0 := Channel.judged code0 } }
    let u := r.raisePost f
    have udock : u.dock = { s.dock with ch0 := Channel.judged code0 } := by simp [u, r]
    obtain ⟨adock, afault, atouches⟩ := State.abortDrive_of_mouth (s := u) (by simp [udock, htest])
      (by simp [udock, hopen]) (by simpa [udock] using hcount)
    obtain ⟨⟨converter, pendingEvent, pendingPeriodic, hnext⟩, nextFault, ntouches⟩ := u.abortDrive.nextBurst_outcome
    rw [faulty] at step
    have raised : f ∈ (conclude u.abortDrive.nextBurst).fault.raised := by
      have held : f ∈ u.fault.raised := State.mem_raisePost (by simpa [r, State.isPost] using hpost) f
      simpa [nextFault, afault] using held
    have reached : ({ dock := true, fault := true, hire := true } : Touched).frame s r := by simp [Touched.frame, r]
    have after := conclude_sansLamp u.abortDrive.nextBurst
    rw [hnext, adock, udock] at after
    have part {α : Type} (g : Dock → α) := congrArg g after
    refine completes_of_answer step ⟨part Dock.coil, part Dock.bolt, part Dock.takeWindowAt,
      part fun d => d.ch0.last, fun h => low h ▸ raised, fun h => high h ▸ raised, ?_⟩
    exact conclude_frame_of _ _ _ (((reached.trans ((State.raisePost_touches f r).mono (by decide))).trans
      (atouches.mono (by decide))).trans (ntouches.mono (by decide)))

/-- Settles O41: each channel's comparator by its window, and the operations that a burst's judging runs through. -/
theorem analogResultsAreJudged : Obligations.AnalogResultsAreJudged :=
  ⟨periodicBurstIsJudged, batteryIsJudged, coilCurrentIsJudged⟩

end Sys2Proof.Machine
end

section
/-! The button's bursts, the report they make and its place in the fault list (R61, R62, R150 to R157). -/

namespace Sys2Proof.Machine

/-! ### The button (R61, R62) -/

theorem buttonPressesMakeABurst : Claims.ButtonPressesMakeABurst := by
  intro s hpost
  have presses (hpressed : s.dock.pressed = false) : exec .buttonPress s = answerNext s.buttonPressed :=
    congrArg answerNext (if_pos (by simp [hpost, hpressed]))
  refine ⟨fun hpressed hburst => ?_, fun burst hpressed hburst => ?_, congrArg answerNext (if_pos hpost)⟩
  · rw [presses hpressed, State.buttonPressed, hburst]
    rfl
  · rw [presses hpressed, State.buttonPressed, hburst]
    rfl

/-! ### The fault list (R154) -/

/-- A minimum that occurs, or that the fold begins with, is the fold's. -/
theorem foldl_min_eq {m : Nat} (l : List Nat) (b : Nat) (hle : ∀ x ∈ l, m ≤ x) (hb : m ≤ b) (h : m ∈ l ∨ m = b) :
    l.foldl min b = m := by
  induction l generalizing b with
  | nil => simpa using (h.resolve_left (by simp)).symm
  | cons x l ih =>
    have hx : m ≤ x := hle x (by simp)
    refine ih (min b x) (fun y hy => hle y (by simp [hy])) (le_min hb hx) ?_
    rcases h with h | h
    · rcases List.mem_cons.1 h with h | h
      · exact .inr (by omega)
      · exact .inl h
    · exact .inr (by omega)

/-- An entry not above any other, and not above 2, has the lowest level. -/
theorem lowestLevel_eq {entries : List FaultEntry} {oldest : FaultEntry} (hmem : oldest ∈ entries)
    (hle : ∀ x ∈ entries, oldest.level ≤ x.level) (htwo : oldest.level ≤ 2) : lowestLevel entries = oldest.level :=
  foldl_min_eq _ _ (by simpa using hle) htwo (.inl (List.mem_map_of_mem hmem))

/-- The first entry of a level goes, and the rest keep their order. -/
theorem removeOldest_append {oldest : FaultEntry} {before : List FaultEntry} (after : List FaultEntry)
    (h : ∀ x ∈ before, x.level ≠ oldest.level) :
    removeOldest oldest.level (before ++ oldest :: after) = before ++ after := by
  induction before with
  | nil => simp [removeOldest]
  | cons x before ih =>
    have rest := ih fun y hy => h y (by simp [hy])
    simp [removeOldest, h x (by simp), rest]

theorem newEntriesArePlaced : Claims.NewEntriesArePlaced := by
  intro entries e
  refine ⟨fun h => if_pos h, fun before oldest after hlen hsplit hle hbefore htwo => ?_, fun s hlist hdamaged hplace => ?_⟩
  · have hfull : ¬ entries.length < 4 := by omega
    have lowest : lowestLevel entries = oldest.level := lowestLevel_eq (by simp [hsplit]) hle htwo
    refine ⟨fun h => ?_, fun h => ?_⟩
    · simp [placeEntry, hfull, lowest, h, hsplit ▸ removeOldest_append after hbefore]
    · simp [placeEntry, hfull, lowest, Nat.not_le.2 h]
  · simp [State.changeFaults, hdamaged, applyChange, hlist, hplace]

/-! ### The reporting window (R155, R157) -/

theorem reportingWindowEnds : Claims.ReportingWindowEnds := by
  intro s w hw
  refine congrArg answerNext ?_
  simp [hw]

/-! ### The report (R157) -/

section
variable {s : State} {n : Nat} {kind : Kind} {body : List Byte} {w : ReportWindow}

/-- The line has taken frames of later references than `before` had given, and holds at most `n`. -/
structure Line.Grown (l before : Line) (n : Nat) : Prop extends l.Within n where
  later : before.nextRef ≤ l.nextRef

theorem Line.Within.grown {l : Line} (h : l.Within n) : l.Grown l n := ⟨h, le_rfl⟩

theorem Line.Grown.mono {l before : Line} {m : Nat} (h : l.Grown before n) (hm : n ≤ m) : l.Grown before m :=
  ⟨h.toWithin.mono hm, h.later⟩

theorem Line.Within.offer_grown (h : s.line.Within n) (hk : kind ≠ .bcn) (hroom : n < 8) :
    (s.offer kind body).1.line.Grown s.line (n + 1) := by
  refine ⟨h.offer hk hroom, ?_⟩
  by_cases hr : s.refusesOffer kind = true
  · rw [State.offer_refused kind body s hr]
  · rw [State.offer_room kind body s (by simpa using hr) hk (Nat.lt_of_le_of_lt h.len hroom)]
    exact Nat.le_succ _

/-- An evaluation makes one offer at most. -/
theorem Line.Within.evaluateOffer (h : s.line.Within n) (hroom : n < 8) : s.evaluateOffer.line.Grown s.line (n + 1) := by
  unfold State.evaluateOffer
  split
  · rename_i w _ _
    have offered := h.offer_grown (kind := .ofr) (body := ofrBody w.serial (s.offerBike w) (s.ownRank w)) (by simp) hroom
    split
    · split <;> rename_i heq <;> rw [heq] at offered <;> exact offered
    · exact h.grown.mono (by omega)
  · exact h.grown.mono (by omega)

theorem Line.Within.evaluateSince (h : s.line.Within n) (hroom : n < 8) (before : State) :
    (s.evaluateSince before).line.Grown s.line (n + 1) := by
  unfold State.evaluateSince
  split
  · exact h.evaluateOffer hroom
  · exact h.grown.mono (by omega)

/-- A requested FAULTS section is one change, with one evaluation. -/
theorem Line.Within.requestFaults (h : s.line.Within n) (hroom : n < 8) (entries : List FaultEntry) :
    (s.requestFaults entries).line.Grown s.line (n + 1) := by
  have frame := s.requestWrite_frame (.faults entries) .fault
  obtain ⟨_, _, line, _⟩ := frame
  unfold State.requestFaults
  split <;> rename_i heq <;> rw [heq] at line <;> dsimp only at line
  · rename_i t ref
    have grown := Line.Within.evaluateSince
      (s := { t with fault := { t.fault with writes := t.fault.writes ++ [{ ref := ref, entries := entries }] } })
      (line ▸ h) hroom s
    simpa [line] using grown
  all_goals exact line ▸ h.grown.mono (by omega)

theorem Line.Within.changeFaults (h : s.line.Within n) (hroom : n < 8) (change : FaultChange) :
    (s.changeFaults change).line.Grown s.line (n + 1) := by
  have still : s.line.Grown s.line (n + 1) := h.grown.mono (by omega)
  unfold State.changeFaults
  split
  · split <;> exact still
  · split
    · exact h.requestFaults hroom _
    · exact still

/-- A change of the fault list leaves the reporting window. -/
@[simp] theorem State.requestFaults_window (entries : List FaultEntry) (s : State) :
    (s.requestFaults entries).fault.window = s.fault.window := by
  obtain ⟨_, window, _⟩ := s.requestWrite_fault (.faults entries) .fault
  unfold State.requestFaults
  split <;> rename_i heq <;> rw [heq] at window
  · simpa using window
  all_goals exact window

@[simp] theorem State.changeFaults_window (change : FaultChange) (s : State) :
    (s.changeFaults change).fault.window = s.fault.window := by
  unfold State.changeFaults
  (repeat' split) <;> simp

/-- With room in the list and the tag port at rest, the write of the new entry begins at once. -/
theorem State.changeFaults_begins {e : FaultEntry} (hheld : s.copyHeld = true) (hdamaged : s.faultsDamaged = false)
    (hlen : s.workingList.length < 4) (hrequests : s.tag.requests = []) (hop : s.tag.operation = .idle) :
    (s.changeFaults (.add e)).tag.operation =
      .write { contents := .faults (s.workingList ++ [e]), requester := .fault, ref := s.tag.nextRef } false false false
        s.clock.ms := by
  have placed : placeEntry s.workingList e = some (s.workingList ++ [e]) := if_pos hlen
  simp only [State.changeFaults, hdamaged, applyChange, placed, State.requestFaults,
    State.requestWrite_idle _ _ s (.inl (of_decide_eq_true hheld)) hop hrequests]
  simp

/-- The working list is read from the tag copy and the fault unit's own writes (R149). -/
theorem State.workingList_congr {t : State} (hcopy : t.tag.copy = s.tag.copy) (hwrites : t.fault.writes = s.fault.writes) :
    t.workingList = s.workingList := by
  unfold State.workingList State.faultsDamaged State.copyFaults
  rw [hcopy, hwrites]

theorem State.workingList_sent (s : State) (kind : Kind) (body : List Byte) :
    (conclude (s.send kind body)).workingList = s.workingList := State.workingList_congr (by simp) (by simp)

/-- The report's window is used, before the fault list changes. -/
def State.windowUsed (s : State) (w : ReportWindow) : State :=
  { s with fault := { s.fault with window := some { w with used := true } } }

/-- The entry of a report. -/
def reportEntry (count : Nat) (w : ReportWindow) : FaultEntry :=
  { cls := min count 5, level := reportLevel (min count 5)
    source := if w.crew then .crew else .member, reporter := w.reporter }

/-- The fault list as the report leaves it, before its FLT. -/
def State.reported (s : State) (count : Nat) (w : ReportWindow) : State :=
  (s.windowUsed w).changeFaults (.add (reportEntry count w))

/-- The body of a report's FLT (Table 9-6), on the fault list as the report leaves it. -/
def State.reportBody (s : State) (count : Nat) (w : ReportWindow) : List Byte :=
  fltBody ((s.copyId.map IdSection.bikeId).getD 0) (min count 5) (classLevel s.workingList (min count 5))
    (if w.crew then .crew else .member) s.number (some w.reporter)

/-- Table 9-6 for a report, field by field. -/
theorem State.reportBody_eq (s : State) (count : Nat) (w : ReportWindow) :
    s.reportBody count w =
      be4 ((s.copyId.map IdSection.bikeId).getD 0) ++ be1 (min count 5) ++ be1 (classLevel s.workingList (min count 5)) ++
        be1 (if w.crew = true then FaultSource.crew.code else FaultSource.member.code) ++ be1 s.number ++
        be4 w.reporter := by
  cases h : w.crew <;> simp [State.reportBody, fltBody, h]

/-- A report through an unused window. -/
theorem State.memberReport_of_window {count : Nat} (hw : s.fault.window = some w) (hused : w.used = false) :
    s.memberReport count =
      (s.reported count w).send .flt ((s.reported count w).reportBody count w) := by
  have number : (s.reported count w).number = s.number := by simp [State.reported, State.windowUsed, State.number]
  simp only [State.memberReport, hw, hused, State.reportBody, number]
  rfl

theorem State.memberReport_of_none {count : Nat}
    (h : s.fault.window = none ∨ ∃ w, s.fault.window = some w ∧ w.used = true) : s.memberReport count = s := by
  rcases h with h | ⟨w, h, hused⟩
  · simp [State.memberReport, h]
  · simp [State.memberReport, h, hused]

/-- The end of a burst that is not discarded hands its count on. -/
theorem exec_burstEndExpiry {burst : PressBurst} (hburst : s.dock.burst = some burst) :
    exec .burstEndExpiry s = answerNext
      (if burst.discarded then { s.reachMs burst.endAt with dock := { s.dock with burst := none } }
      else State.memberReport burst.count { s.reachMs burst.endAt with dock := { s.dock with burst := none } }) := by
  show answerNext s.burstEnds = _
  simp [State.burstEnds, hburst]

end

theorem pressBurstMakesAReport : Claims.PressBurstMakesAReport := by
  intro s burst hburst r closed
  refine ⟨fun h => ?_, fun w hdiscarded hw hused => ?_⟩
  · rw [exec_burstEndExpiry hburst]
    split
    · rfl
    · rename_i hdiscarded
      rw [State.memberReport_of_none (by simpa [hdiscarded] using h)]
      rfl
  · have window : closed.fault.window = some w := by simpa [closed, r] using hw
    have step := exec_burstEndExpiry hburst
    rw [if_neg (by simp [hdiscarded]), State.memberReport_of_window window hused] at step
    let v := closed.windowUsed w
    let u := closed.reported burst.count w
    have vline : v.line = s.line := by simp [v, State.windowUsed, closed, r]
    have vtag : v.tag = s.tag := by simp [v, State.windowUsed, closed, r]
    have list : v.workingList = s.workingList :=
      State.workingList_congr (by rw [vtag]) (by simp [v, State.windowUsed, closed, r])
    refine completes_of_answer step ⟨?_, ?_, fun hheld hdamaged hlen hrequests hop => ?_, fun hrefuses hroom hrefs => ?_⟩
    · simp [State.reported, State.windowUsed]
    · simp [State.reported, State.windowUsed, closed]
    · have begins := State.changeFaults_begins (s := v) (e := reportEntry burst.count w)
        (by simpa [State.copyHeld, vtag] using hheld) (by simpa [State.faultsDamaged, vtag] using hdamaged)
        (by rw [list]; exact hlen) (by rw [vtag]; exact hrequests) (by rw [vtag]; exact hop)
      rw [list, vtag] at begins
      have tag : (conclude (u.send .flt (u.reportBody burst.count w))).tag = u.tag := by simp
      exact (congrArg TagPort.operation tag).trans begins
    · have grown : u.line.Grown s.line 7 ∧ (s.van.window = none → u.line = s.line) := by
        have still (h : s.van.window = none) : u.line = s.line :=
          (State.offersNothing.changeFaults (s := v) (.inl (by simpa [v, State.windowUsed, closed, r] using h)) _).1.trans
            vline
        refine ⟨?_, still⟩
        rcases hroom with hroom | ⟨hfull, hwindow⟩
        · have within : v.line.Within 6 := ⟨by rw [vline]; omega, by rw [vline]; exact hrefs⟩
          exact vline ▸ within.changeFaults (by omega) (.add (reportEntry burst.count w))
        · rw [still hwindow]
          exact ⟨⟨hfull.le, hrefs⟩, le_rfl⟩
      obtain ⟨grown, same⟩ := grown
      have frame : u.straps = s.straps ∧ u.line.clash = s.line.clash ∧ u.tag.copy = s.tag.copy := by
        simp [u, State.reported, State.windowUsed, closed, r]
      obtain ⟨straps, clash, copy⟩ := frame
      have sent : (u.send .flt (u.reportBody burst.count w)).line.Holds (u.newEntry .flt (u.reportBody burst.count w)) :=
        grown.send ((State.refusesOffer_congr straps clash).trans hrefuses) (by simp) (by omega)
      intro cls levels
      refine ⟨_, sent.conclude (by simp [State.newEntry]), rfl, grown.later, fun h => congrArg Line.nextRef (same h), ?_⟩
      have bike : u.copyId = s.copyId := by simp only [State.copyId, copy]
      have number : u.number = s.number := by simp only [State.number, straps]
      simp only [levels, cls, State.workingList_sent]
      have table := u.reportBody_eq burst.count w
      rw [bike, number] at table
      exact table

/-- Settles O39: the arms of the button, the fault list's placing, and the report of a burst, whose one evaluation leaves the
FLT its place. -/
theorem buttonReportsAFault : Obligations.ButtonReportsAFault :=
  ⟨buttonPressesMakeABurst, pressBurstMakesAReport, newEntriesArePlaced, reportingWindowEnds⟩

end Sys2Proof.Machine
end

section
/-! A good crew card (R61, R70, R105, R123, R156, R174, R175): its record, the acknowledgement, the crew release, and the takes
that a VTK tells of. -/

namespace Sys2Proof.Machine

/-! ### A good record (R89, R91) -/

section
variable {s u : State} {card : CardRecord} {due : Ms}

/-- The record gap finds a record whose characters judge good. -/
structure State.EndsGood (s : State) (due : Ms) (card : CardRecord) : Prop where
  gap : s.card.gapAt = some due
  complete : s.card.assembler = .complete
  good : cardRecordOf s.card.chars = .ok card

/-- The state in which the hire controller takes a good record: the assembler IDLE, the capture consumed and READER clear. -/
def State.recordJudged (s : State) : State :=
  State.clearPost .reader
    { s.assemblerIdle.consume .card with card := { s.assemblerIdle.card with unreadableRun := 0 } }

/-- RECORD_GAP hands a good record on, with the button held test's answer for its capture (R61, R105). -/
theorem State.EndsGood.step (e : s.EndsGood due card) :
    exec .recordGap s = answerNext
      ((s.reachMs due).recordJudged.takeCard card (s.time.card.isSome && s.card.captureHeld)) := by
  obtain ⟨gap, complete, good⟩ := e
  refine congrArg answerNext ?_
  simp only [gap, State.recordEnds, State.reachMs_frame, complete, good, State.recordGood, State.recordJudged]
  simp [State.assemblerIdle]

/-- What a good record leaves to the hire controller. -/
theorem State.recordJudged_outcome (s : State) :
    s.recordJudged.time = { s.time with card := none } ∧
      s.recordJudged.fault = { s.fault with raised := s.fault.raised.filter (fun f => decide (f ≠ .reader)) } ∧
      ({ card := true, fault := true, time := true } : Touched).frame s s.recordJudged := by
  refine ⟨?_, ?_, ?_⟩
  · simp [State.recordJudged, State.consume, State.assemblerIdle, Timebase.setSlot]
  · simp [State.recordJudged, State.clearPost, State.assemblerIdle]
  · exact .trans (by simp [Touched.frame, State.assemblerIdle]) ((State.clearPost_touches _ _).mono (by decide))

@[simp] theorem State.recordJudged_frame (s : State) :
    s.recordJudged.straps = s.straps ∧ s.recordJudged.clock = s.clock ∧ s.recordJudged.peers = s.peers ∧
      s.recordJudged.dock = s.dock ∧ s.recordJudged.tag = s.tag ∧ s.recordJudged.view = s.view ∧
      s.recordJudged.hire = s.hire ∧ s.recordJudged.settle = s.settle ∧ s.recordJudged.van.window = s.van.window ∧
      s.recordJudged.van.hold = s.van.hold ∧ s.recordJudged.van.target = s.van.target ∧
      s.recordJudged.line.clash = s.line.clash ∧ s.recordJudged.line.stuck = s.line.stuck ∧
      s.recordJudged.time.base = s.time.base ∧ s.recordJudged.time.quality = s.time.quality := by
  simp [State.recordJudged, State.assemblerIdle]

/-- The present second is read from the clock and the time base. -/
theorem State.presentSecond_congr {t : State} (hclock : t.clock = s.clock) (hbase : t.time.base = s.time.base) :
    t.presentSecond = s.presentSecond := by
  simp only [State.presentSecond, State.presentMs, Timebase.schemeAt, hclock, hbase]

/-! ### The crew card's check (R107, R123, R156) -/

/-- The state in which a crew card is checked, at an IDLE post without a self-test. -/
structure State.ChecksCrew (v s : State) (due : Ms) (card : CardRecord) : Prop where
  step : exec .recordGap s = answerNext (v.checkCrew card)
  hire : v.hire = { s.hire with state := .check, record := some (HireRecord.ofCard .crew card) }
  dock : v.dock = s.dock
  tag : v.tag = s.tag
  fault : v.fault = { s.fault with raised := s.fault.raised.filter (fun f => decide (f ≠ .reader)) }
  hold : v.van.hold = s.van.hold
  clash : v.line.clash = s.line.clash
  clock : v.clock = (s.reachMs due).clock
  peers : v.peers = s.peers
  straps : v.straps = s.straps
  base : v.time.base = s.time.base
  quality : v.time.quality = s.time.quality
  touches : ({ card := true, fault := true, time := true, hire := true } : Touched).frame s v

/-- A crew card that starts no self-test is checked at an IDLE post. -/
theorem State.EndsGood.checksCrew (e : s.EndsGood due card) (hplan : card.plan = 15)
    (hheld : (s.time.card.isSome && s.card.captureHeld) = false) (htest : s.dock.selfTest = none)
    (hidle : s.hire.state = .idle) : ∃ v : State, v.ChecksCrew s due card := by
  let u := (s.reachMs due).recordJudged
  have takes : u.takeCard card false = State.checkCrew card
      { u with hire := { u.hire with state := .check, record := some (HireRecord.ofCard .crew card) } } := by
    simp [State.takeCard, u, htest, hidle, State.beginHire, hplan]
  obtain ⟨_, fault, judged⟩ := (s.reachMs due).recordJudged_outcome
  have reached : ({ card := true, fault := true, time := true } : Touched).frame s (s.reachMs due) := by
    simp [Touched.frame]
  refine ⟨{ u with hire := { u.hire with state := .check, record := some (HireRecord.ofCard .crew card) } },
    by rw [e.step, hheld, takes], ?_, ?_, ?_, ?_, ?_, ?_, ?_, ?_, ?_, ?_, ?_,
    ((reached.trans judged).mono (by decide)).trans (by simp [Touched.frame, u])⟩
  all_goals simp [u, fault]

/-- Out of van hold the card is acknowledged, and the hire ends where it began. -/
theorem State.checkCrew_of_release (hhold : s.van.hold = false) :
    s.checkCrew card = (s.showCrewAck.openCrewWindow card.member).hireIdle := by
  simp [State.checkCrew, hhold]

/-- A docked bike with a good ID gets the CREW reporting window (R156). -/
theorem State.openCrewWindow_fault (s : State) (crew : Nat) :
    (s.openCrewWindow crew).fault =
      if s.dock.docked && s.copyId.isSome then
        { s.fault with
          window := some { crew := true, reporter := crew, expiresAt := s.clock.ms + 60000, used := false } }
      else s.fault := by
  unfold State.openCrewWindow
  split <;> rfl

theorem State.openCrewWindow_outcome (s : State) (crew : Nat) :
    (s.openCrewWindow crew).hire = s.hire ∧ (s.openCrewWindow crew).dock = s.dock ∧
      (s.openCrewWindow crew).tag = s.tag ∧
      ({ fault := true } : Touched).frame s (s.openCrewWindow crew) := by
  unfold State.openCrewWindow
  split
  · exact ⟨rfl, rfl, rfl, by simp [Touched.frame]⟩
  · exact ⟨rfl, rfl, rfl, .refl _ s⟩

theorem State.hireIdle_touches (s : State) : ({ hire := true } : Touched).frame s s.hireIdle :=
  .trans (u := { s with hire := { s.hire with state := .idle, record := none } }) (by simp [Touched.frame])
    (State.evaluateSince_touches _ _ _)

/-- The HIRE write of a hire with a record begins at once while the tag port rests (R115, R123). -/
theorem State.requestHireWrite_idle {h : HireRecord} (written : HireSection) (summary : Option RideSummary)
    (hrecord : s.hire.record = some h) (hheld : s.tag.copy.state = .held) (hop : s.tag.operation = .idle)
    (hrequests : s.tag.requests = []) :
    s.requestHireWrite written summary =
      { s with
        hire := { s.hire with
          state := .tagging
          record := some
            { h with
              prior := s.copyHire, bike := s.copyId, written := some written, summary := summary
              writeRef := some s.tag.nextRef } }
        tag := { s.tag with
          operation :=
            .write { contents := .hire written, requester := .hire, ref := s.tag.nextRef } false false false s.clock.ms
          nextRef := s.tag.nextRef + 1 } } := by
  simp only [State.requestHireWrite, State.onRecord, hrecord, Option.map_some]
  rw [State.requestWrite_idle _ _ _ (.inl (by exact hheld)) (by exact hop) (by exact hrequests)]
  rfl

end

theorem crewCardIsAcknowledgedOrReleases : Claims.CrewCardIsAcknowledgedOrReleases := by
  intro s due card hpost hgap hcomplete hgood hplan hheld hidle htest r refused
  have held : (s.time.card.isSome && s.card.captureHeld) = false := by
    rcases hheld with h | h <;> simp [h]
  obtain ⟨v, c⟩ := State.EndsGood.checksCrew ⟨hgap, hcomplete, hgood⟩ hplan held htest hidle
  have ended : ({ v.hire with state := .idle, record := none } : HireController) = { s.hire with record := none } := by
    rw [c.hire, ← hidle]
  have refuses (group : Nat) (h : v.checkCrew card = v.refuse group) : refused group := by
    have step := c.step
    rw [h] at step
    obtain ⟨hire, refusal, touches⟩ := v.refuse_outcome group
    have frame := conclude_frame_of _ _ _ touches
    obtain ⟨_, _, _, _, _, tag, _⟩ := frame
    refine completes_of_answer step ⟨?_, (tag rfl).trans c.tag, ?_⟩
    · exact (by simp : (conclude _).hire = _).trans (hire.trans ended)
    · simp [refusal, c.clock, r]
  have unset : v.timeUnset = s.timeUnset := by simp [State.timeUnset, c.quality]
  have copyId : v.copyId = s.copyId := by simp only [State.copyId, c.tag]
  have copyHire : v.copyHire = s.copyHire := by simp only [State.copyHire, c.tag]
  have condition : v.tagCondition = s.tagCondition := by simp only [State.tagCondition, copyId, copyHire]
  refine ⟨fun hvan => ?_, fun hvan h => refuses 4 ?_, fun hvan htime hid hclash h => refuses 3 ?_,
    fun i prior hvan htime hid hclash hdocked hcopy hprior hmark hop hrequests => ?_⟩
  · have step := c.step
    rw [State.checkCrew_of_release (c.hold.trans hvan)] at step
    let w := v.showCrewAck.openCrewWindow card.member
    obtain ⟨whire, wdock, wtag, wtouches⟩ := v.showCrewAck.openCrewWindow_outcome card.member
    have wfault := v.showCrewAck.openCrewWindow_fault card.member
    have touches : ({ card := true, fault := true, dock := true, time := true, hire := true } : Touched).frame s w.hireIdle :=
      ((c.touches.mono (by decide)).trans (.trans (by simp [Touched.frame]) (wtouches.mono (by decide)))).trans
        (w.hireIdle_touches.mono (by decide))
    have fault : (conclude w.hireIdle).fault =
        if s.dock.docked && s.copyId.isSome then
          { v.fault with
            window := some { crew := true, reporter := card.member, expiresAt := r.clock.ms + 60000, used := false } }
        else v.fault := by
      have ack : v.showCrewAck.copyId = s.copyId := by simp only [State.copyId, State.showCrewAck_frame, c.tag]
      have kept : (conclude w.hireIdle).fault = w.fault := by simp
      simp only [kept, w, wfault, ack, State.showCrewAck_frame, c.dock, c.clock, r]
    refine completes_of_answer step ⟨?_, ?_, ?_, fun hdocked hid => ?_, fun h => ?_, ?_, conclude_frame_of _ _ _ touches⟩
    · exact (by simp : (conclude w.hireIdle).hire = w.hireIdle.hire).trans
        (w.hireIdle_hire.trans (by rw [whire]; exact ended))
    · exact (by simp : (conclude w.hireIdle).tag = w.tag).trans (wtag.trans c.tag)
    · have kept : (conclude w.hireIdle).dock.crewAckAt = w.dock.crewAckAt := by simp
      rw [kept, wdock]
      simp [c.clock, r]
    · rw [fault, if_pos (by simp [hdocked, hid])]
    · have closed : ¬ (s.dock.docked && s.copyId.isSome) = true := by
        rcases h with h | h <;> simp [h]
      rw [fault, if_neg closed, c.fault]
    · rw [fault]
      split <;> simp [c.fault]
  · have late : (v.timeUnset || decide (v.peers.adoptedId = 0) || v.line.clash) = true := by
      simpa [unset, c.peers, c.clash, or_assoc] using h
    simp [State.checkCrew, c.hold, hvan, late]
  · have timed : (v.timeUnset || decide (v.peers.adoptedId = 0) || v.line.clash) = false := by
      simp [unset, c.peers, c.clash, htime, hid, hclash]
    have unfit : (!v.dock.docked || !v.tagCondition) = true := by
      simpa [c.dock, condition] using h
    simp [State.checkCrew, c.hold, hvan, timed, unfit]
  · have timed : (v.timeUnset || decide (v.peers.adoptedId = 0) || v.line.clash) = false := by
      simp [unset, c.peers, c.clash, htime, hid, hclash]
    have fit : (!v.dock.docked || !v.tagCondition) = false := by
      have meets : s.tagCondition = true := by simp [State.tagCondition, hcopy, hprior, hmark]
      simp [c.dock, condition, hdocked, meets]
    have checks : v.checkCrew card = v.requestHireWrite (v.vanSection card.member) none := by
      simp [State.checkCrew, c.hold, hvan, timed, fit]
    have present : v.presentSecond = r.presentSecond := State.presentSecond_congr c.clock (by simp [c.base, r])
    have today : v.today = r.today := by simp only [State.today, present]
    have section_ : v.vanSection card.member =
        { mark := .van, member := card.member, plan := 15, start := r.presentSecond
          startStation := s.peers.adoptedId, startPost := s.number, startDay := r.today, startSpend := 0
          unverified := false, endAt := 0 } := by
      simp [State.vanSection, present, today, c.peers, State.number, c.straps]
    have heldCopy : s.tag.copy.state = .held := (State.copyId_eq_some_iff.1 hcopy).1
    have step := c.step
    rw [checks, State.requestHireWrite_idle (h := HireRecord.ofCard .crew card) _ _ (by simp [c.hire])
      (by rw [c.tag]; exact heldCopy) (by rw [c.tag]; exact hop) (by rw [c.tag]; exact hrequests), section_] at step
    refine completes_of_answer step ?_
    simp [c.tag, c.clock, copyId, copyHire, hcopy, hprior, HireRecord.ofCard, r]

/-! ### Van takes (R53, R71, R174, R175) -/

section
variable {s : State}

/-- With a bike docked a HELD self-test takes it, and its hold runs on. -/
theorem State.takeWhileHeld_of_test {test : SelfTest} (htest : s.dock.selfTest = some test)
    (hdocked : s.dock.docked = true) (hidle : s.hire.state = .idle) :
    s.takeWhileHeld = s.partsLeave.send .vtk (vtkBody 0 s.van.selfTestBike test.crew) := by
  have takes : s.takeWhileHeld = s.bikeLeaves.offerVtk 0 s.van.selfTestBike test.crew := by
    simp [State.takeWhileHeld, htest, hdocked, State.selfTestTake]
  rw [takes, State.bikeLeaves_of_idle_still hdocked hidle (.inr (by simp [htest])), State.offerVtk]

end

theorem crewTakesSendVtk : Claims.CrewTakesSendVtk := by
  intro a b s hpost hcount hback hbolt hdocked hopen hrefuses hroom hrefs hop hrequests vtk
  let e := s.mouthEmptied a b
  have step := exec_beamEdge_takes hpost hcount hback hbolt hdocked
  refine ⟨fun h bike w htest hrelease hstate hrecord hkind hbike hw hsettle => ?_, fun test htest hidle => ?_⟩
  · have still : e.offersNothing := .inr (.inl (by simp [e, hstate]))
    have taken : e.takeWhileHeld = e.enterClosing.partsLeave.hireTakes :=
      State.takeWhileHeld_of_release (by simpa [e] using htest) (by simpa [e] using hrelease) (by simpa [e] using hdocked)
        (by simpa [e] using hopen) (by simpa [e] using hstate) (by simpa [e] using hrecord) hsettle
    rw [taken, State.hireTakes_of_crew (by simpa [e] using hrecord) hkind hw hbike] at step
    let u := e.enterClosing.partsLeave
    have line : u.line = s.line := by simp [u, e, still.enterClosing_line]
    have serial : u.van.holdSerial = s.van.holdSerial := by
      have parts : u.van.holdSerial = e.enterClosing.van.holdSerial := by simp [u]
      rw [parts, still.enterClosing]
      simp [e]
    have within : u.line.Within 6 := by
      rw [line]
      exact ⟨by omega, hrefs⟩
    let body := vtkBody u.van.holdSerial bike.bikeId w.member
    have sent : (u.send .vtk body).line.Holds (u.newEntry .vtk body) :=
      within.send ((State.refusesOffer_congr (by simp [u, e]) (by rw [line])).trans hrefuses) (by simp) (by omega)
    have room : (u.send .vtk body).line.queue.length < 8 :=
      Nat.lt_of_le_of_lt (within.offer (kind := .vtk) (body := body) (by simp) (by omega)).len (by omega)
    refine completes_of_answer step ⟨⟨_, (sent.hireIdle room).conclude (by simp [State.newEntry]), rfl, ?_⟩,
      ?_, ?_, ?_, ?_, ?_, ?_⟩
    · exact congrArg (fun n => vtkBody n bike.bikeId w.member) serial
    · simp [State.hireIdle_hire, e]
    · simp
    · simp
    · simp [Dock.coilOff]
    · simp
    · simp
  · have taken : e.takeWhileHeld = e.partsLeave.send .vtk (vtkBody 0 e.van.selfTestBike test.crew) :=
      State.takeWhileHeld_of_test (by simpa [e] using htest) (by simpa [e] using hdocked) (by simpa [e] using hidle)
    rw [taken] at step
    have line : e.partsLeave.line = s.line := by simp [e]
    have within : e.partsLeave.line.Within 6 := by
      rw [line]
      exact ⟨by omega, hrefs⟩
    let body := vtkBody 0 e.van.selfTestBike test.crew
    have sent : (e.partsLeave.send .vtk body).line.Holds (e.partsLeave.newEntry .vtk body) :=
      within.send ((State.refusesOffer_congr (by simp [e]) (by rw [line])).trans hrefuses) (by simp) (by omega)
    refine completes_of_answer step ⟨⟨_, sent.conclude (by simp [State.newEntry]), rfl, ?_⟩, ?_⟩
    · simp [State.newEntry, body, vtkBody, e]
    · simp [e, htest, hbolt]

end Sys2Proof.Machine
end

section
/-! The self-test that a crew card starts (R70, R160, R175), and the hire it cuts short (R124). -/

namespace Sys2Proof.Machine

/-! ### The start of a self-test (R70) -/

section
variable {s : State} {card : CardRecord} {due : Ms}

/-- CLASH and SUPPLY-LOW are the post faults that a self-test's start leaves (R160). -/
theorem not_cleared_iff (f : PostFault) : f ∉ selfTestClears ∧ ¬ f = .reader ↔ f = .clash ∨ f = .supplyLow := by
  cases f <;> decide

/-- The self-test counts as running from its start. -/
def State.testBegun (s : State) (crew : Nat) : State :=
  { s with dock := { s.dock with selfTest := some { phase := .pullIn, crew := crew } } }

/-- What the post restart ends and clears, then the pull-in, on a line that is not stuck (R21, R33, R62, R70, R160, R175). -/
def State.restarted (s : State) : State :=
  { s with
    van := { s.van with hold := false, selfTestBike := s.bikeIdField }
    fault := { s.fault with raised := s.fault.raised.filter (fun f => !decide (f ∈ selfTestClears)) }
    line := { s.line with lineRaised := false, lineClearAt := none, badFrames := [] }
    peers := { s.peers with conflictSeen := false }
    dock :=
      { Dock.startPullIn
          { s.dock with
            burst := s.dock.burst.map (fun b => { b with discarded := true })
            refusal := none, crewAckAt := none, noise := 0 } s.clock.ms false with release := false } }

theorem State.cutShort_dock (s : State) : s.cutShort.dock = { s.dock with release := false } := by
  unfold State.cutShort
  split <;> simp

/-- While the self-test runs the faults it clears call for no offer. -/
theorem State.clearForSelfTest_eq (h : s.dock.selfTest ≠ none) :
    s.clearForSelfTest =
      { s with
        fault := { s.fault with raised := s.fault.raised.filter (fun f => !decide (f ∈ selfTestClears)) }
        dock := { s.dock with noise := 0 } } :=
  State.offersNothing.evaluateSince
    (s := { s with
      fault := { s.fault with raised := s.fault.raised.filter (fun f => !decide (f ∈ selfTestClears)) }
      dock := { s.dock with noise := 0 } }) (.inr (.inr h)) s

/-- On a line that is not stuck LINE stays clear (R21). -/
theorem State.lineRestart_eq (h : s.line.stuck = false) :
    s.lineRestart =
      { s with
        line := { s.line with lineRaised := false, lineClearAt := none, badFrames := [] }
        peers := { s.peers with conflictSeen := false } } :=
  if_neg (by simp [h])

/-- A self-test starts with the cut hire; its own running keeps the post from an offer throughout. -/
theorem State.startSelfTest_eq (crew : Nat) (hstuck : s.line.stuck = false) :
    s.startSelfTest crew = (s.testBegun crew).cutShort.restarted := by
  have running : (s.testBegun crew).cutShort.dock.selfTest ≠ none := by simp [State.cutShort_dock, State.testBegun]
  have stuck : (s.testBegun crew).cutShort.line.stuck = false := by simpa [State.testBegun] using hstuck
  unfold State.startSelfTest
  change (let ended := (s.testBegun crew).cutShort.vanRestart.displaysRestart.clearForSelfTest.lineRestart
    { ended with dock := { ended.dock.startPullIn ended.clock.ms false with release := false } } : State) = _
  generalize (s.testBegun crew).cutShort = c at running stuck
  rw [State.clearForSelfTest_eq (by exact running), State.lineRestart_eq (by exact stuck)]
  rfl

/-- A good crew card whose capture passed the button held test starts a self-test. -/
theorem State.EndsGood.startsSelfTest (e : s.EndsGood due card) (hplan : card.plan = 15) (htest : s.dock.selfTest = none)
    (hheld : s.card.captureHeld = true) (hcapture : s.time.card.isSome = true) (hstuck : s.line.stuck = false) :
    exec .recordGap s =
      answerNext (((s.reachMs due).recordJudged.testBegun card.member).cutShort.restarted) := by
  rw [e.step, ← State.startSelfTest_eq card.member (by simpa using hstuck)]
  simp [State.takeCard, htest, hplan, hheld, hcapture]

end

/-! ### The hire cut short (R124) -/

section
variable {s : State}

/-- Without a hire nothing is cut short but a release. -/
theorem State.cutShort_of_idle (h : s.hire.state = .idle) :
    s.cutShort = { s with dock := { s.dock with release := false } } := by
  have idle : s.cancelByState = s := by simp [State.cancelByState, h]
  simp [State.cutShort, idle, h]

/-- A hire cut short by a self-test ends without an offer. -/
theorem State.cutShort_of_hire (htest : s.dock.selfTest ≠ none) (h : s.hire.state ≠ .idle) :
    s.cutShort =
      { s.cancelByState with
        dock := { s.dock with release := false }
        hire := { s.cancelByState.hire with state := .idle, record := none } } := by
  let ended : State := { s.cancelByState with dock := { s.cancelByState.dock with release := false } }
  have cut : s.cutShort = ended.hireIdle := if_neg h
  have still : ended.hireIdle = { ended with hire := { ended.hire with state := .idle, record := none } } :=
    State.offersNothing.evaluateSince
      (s := { ended with hire := { ended.hire with state := .idle, record := none } })
      (.inr (.inr (by simpa [ended] using htest))) _
  rw [cut, still]
  simp [ended]

/-- A write request leaves the settlement slots. -/
@[simp] theorem State.requestWrite_slots (contents : SectionContents) (requester : Requester) (s : State) :
    (s.requestWrite contents requester).1.settle.slotA = s.settle.slotA ∧
      (s.requestWrite contents requester).1.settle.slotB = s.settle.slotB := by
  unfold State.requestWrite
  (repeat' split) <;> simp [State.forgetWrite]

/-- The prior HIRE's write leaves the fault marks and the settlement slots. -/
@[simp] theorem State.restorePrior_keeps (s : State) :
    s.restorePrior.fault.tagMark = s.fault.tagMark ∧ s.restorePrior.fault.lowCharge = s.fault.lowCharge ∧
      s.restorePrior.fault.flat = s.fault.flat ∧ s.restorePrior.settle.slotA = s.settle.slotA ∧
      s.restorePrior.settle.slotB = s.settle.slotB := by
  unfold State.restorePrior
  split <;> simp

@[simp] theorem State.cancelByState_keeps (s : State) :
    s.cancelByState.fault.tagMark = s.fault.tagMark ∧ s.cancelByState.fault.lowCharge = s.fault.lowCharge ∧
      s.cancelByState.fault.flat = s.fault.flat ∧ s.cancelByState.settle.slotA = s.settle.slotA ∧
      s.cancelByState.settle.slotB = s.settle.slotB := by
  unfold State.cancelByState
  (repeat' split) <;> simp

@[simp] theorem State.cutShort_keeps (s : State) :
    s.cutShort.fault.tagMark = s.fault.tagMark ∧ s.cutShort.fault.lowCharge = s.fault.lowCharge ∧
      s.cutShort.fault.flat = s.fault.flat ∧ s.cutShort.settle.slotA = s.settle.slotA ∧
      s.cutShort.settle.slotB = s.settle.slotB := by
  unfold State.cutShort
  split <;> simp

/-- The cut hire of a self-test's start, and what it leaves of the other blocks. -/
structure State.TestCuts (c s : State) (due : Ms) (card : CardRecord) : Prop where
  step : exec .recordGap s = answerNext c.restarted
  dock : c.dock = { s.dock with selfTest := some { phase := .pullIn, crew := card.member }, release := false }
  clock : c.clock = (s.reachMs due).clock
  peers : c.peers = s.peers
  raised : c.fault.raised = s.fault.raised.filter (fun f => decide (f ≠ .reader))
  marks : c.fault.tagMark = s.fault.tagMark ∧ c.fault.lowCharge = s.fault.lowCharge ∧ c.fault.flat = s.fault.flat
  target : c.van.target = s.van.target
  copy : c.tag.copy = s.tag.copy
  slots : c.settle.slotA = s.settle.slotA ∧ c.settle.slotB = s.settle.slotB
  entries : c.view.entries = s.view.entries
  claims : c.hire.claims = s.hire.claims
  idle : s.hire.state = .idle → c.hire = s.hire
  ends : s.hire.state ≠ .idle → c.hire.state = .idle ∧ c.hire.record = none

/-- What a good record leaves to the self-test's start. -/
def State.testJudged (s : State) (due : Ms) (card : CardRecord) : State :=
  (s.reachMs due).recordJudged.testBegun card.member

@[simp] theorem State.testJudged_frame (s : State) (due : Ms) (card : CardRecord) :
    (s.testJudged due card).straps = s.straps ∧ (s.testJudged due card).clock = (s.reachMs due).clock ∧
      (s.testJudged due card).peers = s.peers ∧ (s.testJudged due card).hire = s.hire ∧
      (s.testJudged due card).tag = s.tag ∧ (s.testJudged due card).view = s.view ∧
      (s.testJudged due card).settle = s.settle ∧ (s.testJudged due card).line.clash = s.line.clash ∧
      (s.testJudged due card).van.target = s.van.target ∧
      (s.testJudged due card).fault =
        { s.fault with raised := s.fault.raised.filter (fun f => decide (f ≠ .reader)) } ∧
      (s.testJudged due card).dock =
        { s.dock with selfTest := some { phase := .pullIn, crew := card.member } } := by
  obtain ⟨_, fault, _⟩ := (s.reachMs due).recordJudged_outcome
  simp [State.testJudged, State.testBegun, fault]

theorem State.EndsGood.testCuts {card : CardRecord} {due : Ms} (e : s.EndsGood due card) (hplan : card.plan = 15)
    (htest : s.dock.selfTest = none) (hheld : s.card.captureHeld = true) (hcapture : s.time.card.isSome = true)
    (hstuck : s.line.stuck = false) : (s.testJudged due card).cutShort.TestCuts s due card := by
  refine ⟨e.startsSelfTest hplan htest hheld hcapture hstuck, ?_, ?_, ?_, ?_, ?_, ?_, ?_, ?_, ?_, ?_, fun hidle => ?_,
    fun hbusy => ?_⟩
  · simp [State.cutShort_dock]
  · simp
  · simp
  · simp
  · simp
  · simp
  · simp
  · simp
  · simp
  · simp
  · rw [State.cutShort_of_idle (by simpa using hidle)]
    simp
  · rw [State.cutShort_of_hire (by simp) (by simpa using hbusy)]
    exact ⟨rfl, rfl⟩

end

theorem crewCardStartsASelfTest : Claims.CrewCardStartsASelfTest := by
  intro s due card hpost hgap hcomplete hgood hplan now
  have ends : s.EndsGood due card := ⟨hgap, hcomplete, hgood⟩
  refine ⟨fun htest hheld hcapture hstuck => ?_, fun test htest => ?_⟩
  · have cuts := ends.testCuts hplan htest hheld hcapture hstuck
    generalize (s.testJudged due card).cutShort = c at cuts
    have hire : s.hireSound → c.hire.state = .idle ∧ c.hire.record = none := fun sound => by
      by_cases hidle : s.hire.state = .idle
      · have none_ : s.hire.record = none := by simpa [State.hireSound, hidle] using sound
        rw [cuts.idle hidle]
        exact ⟨hidle, none_⟩
      · exact cuts.ends hidle
    have bike : c.bikeIdField = if s.dock.docked = true then (s.copyId.map IdSection.bikeId).getD 0 else 0 := by
      have copyId : c.copyId = s.copyId := by simp only [State.copyId, cuts.copy]
      have docked : c.dock.docked = s.dock.docked := by rw [cuts.dock]
      unfold State.bikeIdField
      rw [docked, copyId]
      cases s.dock.docked <;> cases s.copyId <;> rfl
    obtain ⟨tagMark, lowCharge, flat⟩ := cuts.marks
    obtain ⟨slotA, slotB⟩ := cuts.slots
    refine completes_of_answer cuts.step ?_
    simpa [State.restarted, Dock.startPullIn, cuts.dock, cuts.clock, cuts.peers, cuts.raised, cuts.target, cuts.entries,
      cuts.claims, tagMark, lowCharge, flat, slotA, slotB, bike, now, not_cleared_iff] using hire
  · have step := ends.step
    have stays : (s.reachMs due).recordJudged.takeCard card (s.time.card.isSome && s.card.captureHeld) =
        (s.reachMs due).recordJudged := if_pos (by simp [htest])
    rw [stays] at step
    exact completes_of_answer step (by simp [htest])

/-! ### The cut by the state of the hire (R124) -/

section
variable {s v : State} {card : CardRecord} {due : Ms} {h : HireRecord} {c : SentClaim}

/-- What the start of a self-test leaves of the tag port, the member view and the hire is what the cancellation does. -/
theorem State.EndsGood.cancels (e : s.EndsGood due card) (hplan : card.plan = 15)
    (htest : s.dock.selfTest = none) (hheld : s.card.captureHeld = true) (hcapture : s.time.card.isSome = true)
    (hstuck : s.line.stuck = false) (hbusy : s.hire.state ≠ .idle) :
    ∃ t, exec .recordGap s = .next (conclude t) ∧
      t.hire = { (s.testJudged due card).cancelByState.hire with state := .idle, record := none } ∧
      t.tag = (s.testJudged due card).cancelByState.tag ∧ t.view = (s.testJudged due card).cancelByState.view ∧
      t.line.queue = (s.testJudged due card).cancelByState.line.queue ∧
      t.line.nextRef = (s.testJudged due card).cancelByState.line.nextRef ∧ t.dock.release = false := by
  have cut := State.cutShort_of_hire (s := s.testJudged due card) (by simp) (by simpa using hbusy)
  refine ⟨_, e.startsSelfTest hplan htest hheld hcapture hstuck, ?_⟩
  have judged : (s.reachMs due).recordJudged.testBegun card.member = s.testJudged due card := rfl
  rw [judged, cut]
  exact ⟨rfl, rfl, rfl, rfl, rfl, rfl⟩

/-- A post that hires makes no offer upon a good record. -/
theorem State.testJudged_line (hbusy : s.hire.state ≠ .idle) : (s.testJudged due card).line = s.line := by
  have still : (s.reachMs due).recordJudged.line = (s.reachMs due).line := by
    unfold State.recordJudged State.clearPost
    rw [State.offersNothing.evaluateSince (.inr (.inl (by simpa [State.assemblerIdle] using hbusy)))]
    rfl
  exact still.trans (by simp)

/-- The hire whose claim a self-test's start withdraws. -/
theorem State.testJudged_withdraws (hpost : s.straps.role = .post) (hbarred : s.barred = false)
    (hclash : s.line.clash = false) (hbusy : s.hire.state ≠ .idle) (hrecord : s.hire.record = some h)
    (hkind : h.kind = .member) (hclaim : h.claim = some c) (hroom : s.line.queue.length < 7)
    (hrefs : ∀ e ∈ s.line.queue, e.ref < s.line.nextRef) : (s.testJudged due card).Withdraws h c where
  record := by simpa using hrecord
  kind := hkind
  claim := hclaim
  sends := (State.refusesOffer_congr (by simp) (by simp)).trans (State.refusesOffer_of_post hpost hbarred hclash)
  line := by
    rw [State.testJudged_line hbusy]
    exact ⟨by omega, hrefs⟩

/-- The tag port's part of a cancellation leaves the claim to withdraw. -/
theorem State.Withdraws.congr {w : State} (k : v.Withdraws h c) (hhire : w.hire = v.hire) (hline : w.line = v.line)
    (hstraps : w.straps = v.straps) : w.Withdraws h c :=
  ⟨hhire ▸ k.record, k.kind, k.claim, (State.refusesOffer_congr hstraps (by rw [hline])).trans k.sends, hline ▸ k.line⟩

/-- The WDR of a cancellation is queued at the end of the step. -/
theorem State.Withdraws.concluded {t w : State} (k : w.Withdraws h c) (hcancel : v.cancelByState = w.withdrawClaim)
    (hqueue : t.line.queue = v.cancelByState.line.queue) (hnext : t.line.nextRef = v.cancelByState.line.nextRef) :
    ∃ q ∈ (conclude t).line.queue, q.kind = .wdr ∧ q.body = [c.serial] ++ be4 h.card.member := by
  obtain ⟨⟨mem, below, alone⟩, _⟩ := k.wdr
  rw [hcancel] at hqueue hnext
  have holds : t.line.Holds (w.newEntry .wdr (wdrBody c.serial h.card.member)) :=
    ⟨hqueue ▸ mem, hnext ▸ below, hqueue ▸ alone⟩
  exact ⟨_, holds.conclude (by simp [State.newEntry]), rfl, rfl⟩

/-- In LOOKUP the lookup ends. -/
theorem State.cancelByState_of_lookup (hstate : v.hire.state = .lookup) :
    v.cancelByState = { v with view := { v.view with lookup := none } } := by
  simp [State.cancelByState, hstate]

/-- In CLAIMING an unanswered CLM becomes an unwanted claim. -/
theorem State.cancelByState_of_unanswered {ref : Nat} (hstate : v.hire.state = .claiming)
    (hrecord : v.hire.record = some h) (hclaim : h.claim = none) (href : h.clmRef = some ref) :
    v.cancelByState =
      { v with hire := { v.hire with unwanted := v.hire.unwanted ++ [{ ref := ref, member := h.card.member }] } } := by
  simp [State.cancelByState, hstate, hrecord, hclaim, href]

/-- In CLAIMING with a sent CLM the claim is withdrawn. -/
theorem State.cancelByState_of_claim (hstate : v.hire.state = .claiming) (hrecord : v.hire.record = some h)
    (hclaim : h.claim = some c) : v.cancelByState = v.withdrawClaim := by
  simp [State.cancelByState, hstate, hrecord, hclaim]

/-- In TAGGING a write still waiting is withdrawn with the claim. -/
theorem State.cancelByState_of_waiting {ref : Nat} (hstate : v.hire.state = .tagging) (hrecord : v.hire.record = some h)
    (href : h.writeRef = some ref) (hwaits : ∃ r ∈ v.tag.requests, r.ref = ref) :
    v.cancelByState = (v.withdrawWrite ref).withdrawClaim := by
  have waits : v.writeWaiting ref = true := by simpa [State.writeWaiting] using hwaits
  simp [State.cancelByState, hstate, hrecord, href, waits]

/-- In TAGGING a write that has begun is followed by the prior HIRE. -/
theorem State.cancelByState_of_begun {ref : Nat} (hstate : v.hire.state = .tagging) (hrecord : v.hire.record = some h)
    (href : h.writeRef = some ref) (hrequests : v.tag.requests = []) :
    v.cancelByState = v.restorePrior.withdrawClaim := by
  have begun : v.writeWaiting ref = false := by simp [State.writeWaiting, hrequests]
  simp [State.cancelByState, hstate, hrecord, href, begun]

theorem State.cancelByState_of_releasing (hstate : v.hire.state = .releasing) :
    v.cancelByState = v.restorePrior.withdrawClaim := by
  simp [State.cancelByState, hstate]

theorem State.restorePrior_of_prior {prior : HireSection} (hrecord : v.hire.record = some h) (hprior : h.prior = some prior) :
    v.restorePrior = (v.requestWrite (.hire prior) .hire).1 := by
  simp [State.restorePrior, hrecord, hprior]

end

theorem selfTestCutsTheHireShort : Claims.SelfTestCutsTheHireShort := by
  intro s due card h hpost hbarred hclash hgap hcomplete hgood hplan htest hheld hcapture hstuck hrecord hkind hroom hrefs
    now wdr
  have ends : s.EndsGood due card := ⟨hgap, hcomplete, hgood⟩
  have vhire : (s.testJudged due card).hire = s.hire := by simp
  have vtag : (s.testJudged due card).tag = s.tag := by simp
  have vrecord : (s.testJudged due card).hire.record = some h := by rw [vhire, hrecord]
  have vstate {state : HireState} (hstate : s.hire.state = state) : (s.testJudged due card).hire.state = state := by
    rw [vhire, hstate]
  have cancels (hbusy : s.hire.state ≠ .idle) := ends.cancels hplan htest hheld hcapture hstuck hbusy
  have withdraws (hbusy : s.hire.state ≠ .idle) {c : SentClaim} (hclaim : h.claim = some c) :
      (s.testJudged due card).Withdraws h c :=
    State.testJudged_withdraws hpost hbarred hclash hbusy hrecord hkind hclaim hroom hrefs
  refine ⟨fun hstate => ?lookup, fun ref hstate hclaim href => ?unanswered, fun c hstate hclaim => ?claimed,
    fun c ref hstate hclaim href hwaits => ?waiting,
    fun c ref prior running second back answered issued hstate hclaim href hprior hcopy hrequests hop => ?begun,
    fun c prior hstate hclaim hprior hcopy hrequests hop => ?releasing⟩
  case lookup =>
    obtain ⟨t, step, hire, tag, view, queue, nextRef, release⟩ := cancels (by simp [hstate])
    have cancel := State.cancelByState_of_lookup (vstate hstate)
    rw [cancel] at hire view
    exact ⟨_, step, by simp [view], by simp [hire]⟩
  case unanswered =>
    obtain ⟨t, step, hire, tag, view, queue, nextRef, release⟩ := cancels (by simp [hstate])
    rw [State.cancelByState_of_unanswered (vstate hstate) vrecord hclaim href] at hire
    exact ⟨_, step, by simp [hire]⟩
  case claimed =>
    obtain ⟨t, step, hire, tag, view, queue, nextRef, release⟩ := cancels (by simp [hstate])
    have cancel := State.cancelByState_of_claim (vstate hstate) vrecord hclaim
    have wdr := (withdraws (by simp [hstate]) hclaim).concluded cancel queue nextRef
    rw [cancel] at hire tag
    exact ⟨_, step, wdr, by simp [hire], by simp [tag]⟩
  case waiting =>
    obtain ⟨t, step, hire, tag, view, queue, nextRef, release⟩ := cancels (by simp [hstate])
    have cancel := State.cancelByState_of_waiting (vstate hstate) vrecord href (by rw [vtag]; exact hwaits)
    have wdr := ((withdraws (by simp [hstate]) hclaim).congr (by simp) (by simp) (by simp)).concluded cancel queue nextRef
    rw [cancel] at hire tag
    exact ⟨_, step, wdr, by simp [hire], by simp [tag, State.withdrawWrite]⟩
  case begun =>
    obtain ⟨t, step, hire, tag, view, queue, nextRef, release⟩ := cancels (by simp [hstate])
    have cancel := State.cancelByState_of_begun (vstate hstate) vrecord href (by rw [vtag]; exact hrequests)
    have wdr := ((withdraws (by simp [hstate]) hclaim).congr (by simp) (by simp) (by simp)).concluded cancel queue nextRef
    have held : s.tag.copy.state = .held := of_decide_eq_true hcopy
    have waits := State.requestWrite_waits (.hire prior) .hire (s.testJudged due card) (by simp [held]) (by simp [hop])
      (by simp [hrequests])
    rw [cancel] at hire tag
    refine ⟨_, step, wdr, by simp [hire], ?_⟩
    simp [tag, State.restorePrior_of_prior vrecord hprior, waits, hrequests]
  case releasing =>
    obtain ⟨t, step, hire, tag, view, queue, nextRef, release⟩ := cancels (by simp [hstate])
    have cancel := State.cancelByState_of_releasing (vstate hstate)
    have wdr := ((withdraws (by simp [hstate]) hclaim).congr (by simp) (by simp) (by simp)).concluded cancel queue nextRef
    have held : s.tag.copy.state = .held := of_decide_eq_true hcopy
    have begins := State.requestWrite_idle (.hire prior) .hire (s.testJudged due card) (by simp [held]) (by simp [hop])
      (by simp [hrequests])
    rw [cancel] at hire tag
    refine ⟨_, step, wdr, by simp [hire], by simp [release], ?_⟩
    simp [tag, State.restorePrior_of_prior vrecord hprior, begins, now]

/-- Settles O48: the crew card's check at an IDLE post, the takes a VTK tells of, and the self-test by the hire it cuts
short. -/
theorem crewCardsAndSelfTests : Obligations.CrewCardsAndSelfTests :=
  ⟨crewCardIsAcknowledgedOrReleases, crewTakesSendVtk, crewCardStartsASelfTest, selfTestCutsTheHireShort⟩

end Sys2Proof.Machine
end

section
/-! TAG reports and the room they need: a TAG report holds its mark and may ask for a TAG entry on the tag (R152), and a
queue with room keeps a notice through the reports and evaluations that follow it. -/

namespace Sys2Proof.Machine

/-! ### The fault list's writes (R149, R153) -/

/-- A requested FAULTS section leaves the fault marks, the deferred changes and the settlement slots. -/
@[simp] theorem State.requestFaults_keeps (entries : List FaultEntry) (s : State) :
    let t := s.requestFaults entries
    t.fault.tagMark = s.fault.tagMark ∧ t.fault.deferred = s.fault.deferred ∧ t.settle.slotA = s.settle.slotA ∧
      t.settle.slotB = s.settle.slotB := by
  obtain ⟨mark, _, _, _, _, deferred⟩ := s.requestWrite_fault (.faults entries) .fault
  obtain ⟨slotA, slotB⟩ := s.requestWrite_slots (.faults entries) .fault
  unfold State.requestFaults
  split <;> rename_i heq <;> rw [heq] at mark deferred slotA slotB <;> simpa using ⟨mark, deferred, slotA, slotB⟩

@[simp] theorem State.changeFaults_keeps (change : FaultChange) (s : State) :
    let t := s.changeFaults change
    t.fault.tagMark = s.fault.tagMark ∧ t.settle.slotA = s.settle.slotA ∧ t.settle.slotB = s.settle.slotB := by
  unfold State.changeFaults
  (repeat' split) <;> simp

@[simp] theorem State.askTagEntry_keeps (failed : Bool) (s : State) :
    let t := s.askTagEntry failed
    t.fault.tagMark = s.fault.tagMark ∧ t.settle.slotA = s.settle.slotA ∧ t.settle.slotB = s.settle.slotB := by
  unfold State.askTagEntry
  split <;> simp

/-- While an operation is in progress no write begins. -/
theorem State.beginWrite_of_busy {s : State} (ho : s.tag.operation ≠ .idle) : s.beginWrite = s := by
  unfold State.beginWrite
  split
  · rename_i h _
    exact absurd h ho
  · rfl

/-- While an operation is in progress a write request leaves it, and lists no contents but its own beside those waiting
(R81). -/
theorem State.requestWrite_busy {s : State} (ho : s.tag.operation ≠ .idle) (contents : SectionContents)
    (requester : Requester) :
    let t := (s.requestWrite contents requester).1
    t.tag.operation = s.tag.operation ∧ ∀ r ∈ t.tag.requests, r ∈ s.tag.requests ∨ r.contents = contents := by
  unfold State.requestWrite
  split
  · exact ⟨rfl, fun r hr => .inl hr⟩
  · dsimp only
    split
    · split
      · rw [State.beginWrite_of_busy (by simpa using ho)]
        refine ⟨by simp, fun r hr => ?_⟩
        obtain ⟨x, hx, rfl⟩ := List.mem_map.1 (by simpa using hr)
        split
        · exact .inr rfl
        · exact .inl hx
      · exact ⟨rfl, fun r hr => .inl hr⟩
    · rw [State.beginWrite_of_busy (by exact ho)]
      refine ⟨rfl, fun r hr => ?_⟩
      rcases List.mem_append.1 hr with hr | hr
      · exact .inl hr
      · exact .inr (by rw [List.mem_singleton.1 hr])

/-- A change of the fault list requests a FAULTS section at most. -/
theorem State.askTagEntry_busy {s : State} (ho : s.tag.operation ≠ .idle) (failed : Bool) :
    let t := s.askTagEntry failed
    t.tag.operation = s.tag.operation ∧
      ∀ r ∈ t.tag.requests, r ∈ s.tag.requests ∨ ∃ entries, r.contents = .faults entries := by
  have still : s.tag.operation = s.tag.operation ∧
      ∀ r ∈ s.tag.requests, r ∈ s.tag.requests ∨ ∃ entries, r.contents = .faults entries :=
    ⟨rfl, fun _ => .inl⟩
  have requested (entries : List FaultEntry) : (s.requestFaults entries).tag.operation = s.tag.operation ∧
      ∀ r ∈ (s.requestFaults entries).tag.requests,
        r ∈ s.tag.requests ∨ ∃ entries, r.contents = .faults entries := by
    obtain ⟨operation, requests⟩ := State.requestWrite_busy ho (.faults entries) .fault
    have listed : ∀ r ∈ (s.requestWrite (.faults entries) .fault).1.tag.requests,
        r ∈ s.tag.requests ∨ ∃ entries, r.contents = .faults entries :=
      fun r hr => (requests r hr).imp_right fun h => ⟨entries, h⟩
    unfold State.requestFaults
    split <;> rename_i heq <;> rw [heq] at operation listed <;> simpa using ⟨operation, listed⟩
  unfold State.askTagEntry
  split
  · unfold State.changeFaults
    split
    · split <;> exact still
    · split
      · exact requested _
      · exact still
  · exact still

/-! ### The TAG report (R152) -/

/-- The TAG mark is held, and told with an FLT when it was clear, before a TAG entry is asked for. -/
def State.tagMarked (s : State) : State :=
  if s.fault.tagMark then s
  else (State.offerAutoFlt 8 2 { s with fault := { s.fault with tagMark := true } }).evaluateSince s

theorem State.tagReport_eq (failed : Bool) (s : State) : s.tagReport failed = s.tagMarked.askTagEntry failed := rfl

/-- Of the blocks the mark touches the fault unit alone. -/
@[simp] theorem State.tagMarked_outcome (s : State) :
    s.tagMarked.fault = { s.fault with tagMark := true } ∧ s.tagMarked.straps = s.straps ∧
      s.tagMarked.clock = s.clock ∧ s.tagMarked.dock = s.dock ∧ s.tagMarked.tag = s.tag ∧
      s.tagMarked.hire = s.hire ∧ s.tagMarked.settle = s.settle ∧ s.tagMarked.peers = s.peers := by
  unfold State.tagMarked
  split
  · rename_i hmark
    simp [← hmark]
  · simp

/-- A TAG report leaves the mark held, and the settlement slots as they were. -/
@[simp] theorem State.tagReport_keeps (failed : Bool) (s : State) :
    let t := s.tagReport failed
    t.fault.tagMark = true ∧ t.settle.slotA = s.settle.slotA ∧ t.settle.slotB = s.settle.slotB := by
  simp [State.tagReport_eq]

/-- No TAG entry is asked for without a HELD copy, after a failed FAULTS write, and where the list has one. -/
theorem State.askTagEntry_of_none {s : State} {failed : Bool}
    (h : s.copyHeld = false ∨ failed = true ∨ s.workingList.any (fun e => decide (e.cls = 8)) = true) :
    s.askTagEntry failed = s := by
  refine if_neg ?_
  rcases h with h | h | h <;> simp [h]

/-! ### A queue with room for the own offer -/

/-- The queue has taken `n` frames besides an own offer made, each with an earlier reference than the next one, and the
frames `kept` are among them. An evaluation makes the one own offer, however often the post evaluates. -/
structure State.Room (s : State) (n : Nat) (kept : List TxEntry) : Prop where
  refs : ∀ e ∈ s.line.queue, e.ref < s.line.nextRef
  len : s.line.queue.length ≤ n + if s.van.offer = .none_ then 0 else 1
  holds : ∀ e ∈ kept, s.line.Holds e

section
variable {s t : State} {n : Nat} {kept : List TxEntry} {kind : Kind} {body : List Byte}

/-- What a step changes elsewhere takes no room. -/
theorem State.Room.congr (h : s.Room n kept) (hline : t.line = s.line) (hoffer : t.van.offer = s.van.offer) :
    t.Room n kept := by
  obtain ⟨refs, len, holds⟩ := h
  exact ⟨hline ▸ refs, by rw [hline, hoffer]; exact len, hline ▸ holds⟩

theorem State.Room.mono (h : s.Room n kept) {m : Nat} (hm : n ≤ m) : s.Room m kept :=
  ⟨h.refs, h.len.trans (Nat.add_le_add_right hm _), h.holds⟩

theorem State.Room.length_lt (h : s.Room n kept) (hroom : n < 7) : s.line.queue.length < 8 := by
  have len := h.len
  split at len <;> omega

/-- A frame kept is queued when the step has concluded. -/
theorem State.Room.conclude (h : s.Room n kept) {e : TxEntry} (he : e ∈ kept) (hk : e.kind ≠ .tim) :
    e ∈ (Machine.conclude s).line.queue := (h.holds e he).conclude hk

/-- A notice takes one place, whether it is queued or refused. -/
theorem State.Room.send (h : s.Room n kept) (hk : kind ≠ .bcn) (hroom : n < 7) :
    (s.send kind body).Room (n + 1) kept := by
  have within : s.line.Within (n + if s.van.offer = .none_ then 0 else 1) := ⟨h.len, h.refs⟩
  obtain ⟨len, refs⟩ := within.offer (kind := kind) (body := body) hk (by split <;> omega)
  refine ⟨refs, ?_, fun e he => (h.holds e he).offer hk (h.length_lt hroom)⟩
  show (s.offer kind body).1.line.queue.length ≤ _
  simp only [State.send_frame]
  omega

/-- A notice not refused outright is queued, and kept. -/
theorem State.Room.send_kept (h : s.Room n kept) (hr : s.refusesOffer kind = false) (hk : kind ≠ .bcn) (hroom : n < 7) :
    (s.send kind body).Room (n + 1) (s.newEntry kind body :: kept) := by
  obtain ⟨refs, len, holds⟩ := h.send (body := body) hk hroom
  refine ⟨refs, len, fun e he => ?_⟩
  rcases List.mem_cons.1 he with rfl | he
  · exact State.send_holds hr hk (h.length_lt hroom) h.refs
  · exact holds e he

/-- The own offer takes its own place. -/
theorem State.Room.evaluateOffer (h : s.Room n kept) (hroom : n < 7) : s.evaluateOffer.Room n kept := by
  by_cases hoffer : s.van.offer = .none_
  · obtain ⟨refs, len, holds⟩ := h
    rw [if_pos hoffer] at len
    have held (e : TxEntry) (he : e ∈ kept) : s.evaluateOffer.line.Holds e :=
      (holds e he).evaluateOffer (by omega)
    have within : s.line.Within n := ⟨len, refs⟩
    have evaluated := within.evaluateOffer (by omega)
    refine ⟨evaluated.refs, ?_, held⟩
    split
    · rename_i hnone
      have refused : s.evaluateOffer.line = s.line := by
        unfold State.evaluateOffer at hnone ⊢
        split
        · split
          · rename_i w hw _ hcandidate
            rw [hw, hoffer] at hnone
            dsimp only at hnone
            rw [if_pos hcandidate] at hnone
            by_cases hr : s.refusesOffer .ofr = true
            · rw [State.offer_refused _ _ s hr]
              rfl
            · rw [State.offer_room _ _ s (by simpa using hr) (by simp) (by omega)] at hnone
              exact absurd hnone (by simp)
          · rfl
        · rfl
      rw [refused]
      exact len
    · exact evaluated.len
  · rw [s.evaluateOffer_of_none (.inr (.inl hoffer))]
    exact h

theorem State.Room.evaluateSince (h : s.Room n kept) (hroom : n < 7) (before : State) :
    (s.evaluateSince before).Room n kept := by
  unfold State.evaluateSince
  split
  · exact h.evaluateOffer hroom
  · exact h

/-- The TAG entry that is asked for may change the fault level, and calls for an evaluation then. -/
theorem State.Room.askTagEntry (h : s.Room n kept) (hroom : n < 7) (failed : Bool) :
    (s.askTagEntry failed).Room n kept := by
  have requested (entries : List FaultEntry) : (s.requestFaults entries).Room n kept := by
    obtain ⟨_, _, line, _, _, _, _, _, _, van, _⟩ := s.requestWrite_frame (.faults entries) .fault
    unfold State.requestFaults
    split <;> rename_i heq <;> rw [heq] at line van <;> dsimp only at line van
    · rename_i v ref
      exact State.Room.evaluateSince
        (s := { v with fault := { v.fault with writes := v.fault.writes ++ [{ ref := ref, entries := entries }] } })
        (h.congr line (congrArg VanUnit.offer van)) hroom s
    all_goals exact h.congr line (congrArg VanUnit.offer van)
  unfold State.askTagEntry
  split
  · unfold State.changeFaults
    split
    · split
      · exact h.congr rfl rfl
      · exact h
    · split
      · exact requested _
      · exact h
  · exact h

/-- The TAG mark takes the place of its FLT. -/
theorem State.Room.tagMarked (h : s.Room n kept) (hroom : n < 6) : s.tagMarked.Room (n + 1) kept := by
  unfold State.tagMarked
  split
  · exact h.mono (by omega)
  · exact (State.Room.send (s := { s with fault := { s.fault with tagMark := true } }) (h.congr rfl rfl) (by simp)
      (by omega)).evaluateSince (by omega) s

theorem State.Room.tagReport (h : s.Room n kept) (hroom : n < 6) (failed : Bool) :
    (s.tagReport failed).Room (n + 1) kept := (h.tagMarked hroom).askTagEntry (by omega) failed

theorem State.Room.raiseDuplicate (h : s.Room n kept) (hroom : n < 6) : s.raiseDuplicate.Room (n + 1) kept := by
  unfold State.raiseDuplicate
  split
  · exact h.mono (by omega)
  · exact (State.Room.send (s := { s with fault := { s.fault with duplicate := true } }) (h.congr rfl rfl) (by simp)
      (by omega)).evaluateSince (by omega) s

/-- The duplicate-bike check takes the place of an FLT. -/
theorem State.Room.duplicateCheck (h : s.Room n kept) (hroom : n < 6) : s.duplicateCheck.Room (n + 1) kept := by
  have still : s.Room (n + 1) kept := h.mono (by omega)
  unfold State.duplicateCheck
  split
  · exact State.Room.raiseDuplicate (h.congr rfl rfl) hroom
  · exact still.congr rfl rfl
  · exact still
  · exact still

end

end Sys2Proof.Machine
end

section
/-! The tag's answers and its silence, and the read-back that ends a write (R74 to R82). -/

namespace Sys2Proof.Machine

/-! ### Evaluations that offer nothing (R168, R170) -/

section
variable {s : State}

/-- A post that is no candidate of any window makes no offer. -/
theorem State.evaluateSince_of_noCandidate (h : ∀ w, s.ownCandidate w = false) (before : State) :
    s.evaluateSince before = s := by
  have still : s.evaluateOffer = s := by
    cases hw : s.van.window with
    | none => exact s.evaluateOffer_of_none (.inl hw)
    | some w => exact State.evaluateOffer_of_unranked hw (by simp [h w])
  rw [State.evaluateSince, still, ite_self]

/-- A docked bike with a copy that is not HELD is a candidate neither to collect nor to deliver. -/
theorem State.ownCandidate_of_unread (hdocked : s.dock.docked = true) (hcopy : s.tag.copy.state ≠ .held) (w : VanWindow) :
    s.ownCandidate w = false := by
  cases hmode : w.mode <;> simp [State.ownCandidate, State.copyHeld, hmode, hdocked, hcopy]

/-- The causes of an evaluation compare with five readings of the state before. -/
theorem evaluationCaused_congr {a b : State} (hhire : a.hire.state = b.hire.state) (hdock : a.dock = b.dock)
    (hbike : a.bikeLevel = b.bikeLevel) (hpost : a.postLevel = b.postLevel) (t : State) :
    evaluationCaused a t = evaluationCaused b t := by
  simp [evaluationCaused, hhire, hdock, hbike, hpost]

/-! ### The tag's answer (R74, R80) -/

/-- The answer to the start-up read docks the bike, and an evaluation offers nothing while its copy is READING. -/
theorem State.startUpDocking_eq (released : Ms) (s : State) :
    let c : Capture := { ms := released, scheme := s.time.stampScheme released, startUp := true }
    s.startUpDocking released =
      { s with
        time := { s.time with boltClosed := none }
        dock := { s.dock with docked := true, count := 15, dockedSince := some c }
        tag := { s.tag with docking := some c, copy := { TagCopy.none_ with state := .reading } } } :=
  State.evaluateSince_of_noCandidate (State.ownCandidate_of_unread rfl (by simp)) s

end

theorem tagAnswerIsNoted : Claims.TagAnswerIsNoted := by
  intro s issued
  refine ⟨fun got startUp hop hnot => congrArg answerNext ?_, fun w second back hop => congrArg answerNext ?_,
    fun hop => congrArg answerNext ?_⟩
  · rcases hnot with h | h <;> simp [State.tagAnswers, hop, h]
  · simp [State.tagAnswers, hop]
  · simp [State.tagAnswers, hop, State.startUpDocking_eq, TagCopy.none_]

/-! ### The sections of a read set (R74, R77) -/

/-- A section read of an answered command is taken as it is. -/
theorem exec_sectionReadComplete_of_readSet {bytes : List Byte} {s : State} {startUp : Bool} {got : List (List Byte)}
    {issued : Ms} (hop : s.tag.operation = .readSet startUp got true issued) :
    exec (.sectionReadComplete bytes) s = answerNext (s.sectionRead bytes) := by
  refine congrArg answerNext ?_
  simp [hop, TagOperation.reading, State.tagAnswers]

theorem sectionReadGoesOn : Claims.SectionReadGoesOn := by
  intro bytes s startUp got issued hop hgot r
  rw [exec_sectionReadComplete_of_readSet hop]
  refine congrArg answerNext ?_
  simp [State.sectionRead, hop, Nat.not_le.2 hgot, r]

/-! ### A read set cut short (R78) -/

section
variable {s : State}

/-- The write-back of a settlement waits for the same bike's copy and an IDLE hire (R145). -/
theorem State.writeBack_of_apart {r : ReturnRecord} {t : Settlement} (h : s.copyId = none ∨ s.hire.state ≠ .idle) :
    s.writeBack r t = s := by
  refine if_neg ?_
  rcases h with h | h <;> simp [h]

/-- The duplicate-bike check raises or leaves DUPLICATE, and no other mark of the fault unit moves. -/
theorem State.duplicateCheck_fault (s : State) : ∃ d, s.duplicateCheck.fault = { s.fault with duplicate := d } := by
  unfold State.duplicateCheck
  split
  · exact ⟨true, State.raiseDuplicate_fault _⟩
  all_goals exact ⟨s.fault.duplicate, rfl⟩

/-- The tag port as a silent tag leaves it: nothing in progress, and the copy NO-TAG. -/
def State.silenced (s : State) : State :=
  { s with
    tag := { s.tag with
      operation := .idle
      docking := none
      copy := { state := .noTag, id := .unread, hire := .unread, last := none, faults := .unread } } }

/-- What a silent tag's read set hands to the return sequence. -/
def State.silentResult (s : State) (got : List (List Byte)) : ReadResult :=
  { noTag := true, id := (judgeSections got).1, hire := (judgeSections got).2.1, last := (judgeSections got).2.2.1
    capture := s.dockingCapture }

/-- The settlement of a return without a tag is told before the TAG mark is, and nothing is written (R78, R129). -/
theorem State.readSetSilent_eq (got : List (List Byte)) (hrequests : s.tag.requests = []) :
    s.readSetSilent got =
      State.duplicateCheck (State.tagMarked ((s.silenced.evaluateSince s).send .stl
        (stlBody (stlValues (s.silentResult got).record (tagSettlement (s.silentResult got)))))) := by
  let v := (s.silenced.evaluateSince s).send .stl
    (stlBody (stlValues (s.silentResult got).record (tagSettlement (s.silentResult got))))
  have vtag : v.tag = s.silenced.tag := by simp [v]
  have stl : (s.silenced.evaluateSince s).immediateStl (s.silentResult got).record
      (tagSettlement (s.silentResult got)) = v :=
    State.writeBack_of_apart (.inl (by simp [State.copyId, State.silenced]))
  have ask : v.tagReport false = v.tagMarked :=
    State.askTagEntry_of_none (s := v.tagMarked) (.inl (by simp [State.copyHeld, vtag, State.silenced]))
  have silent : s.readSetSilent got =
      (((s.silenced.evaluateSince s).immediateStl (s.silentResult got).record
        (tagSettlement (s.silentResult got))).tagReport false).duplicateCheck.beginWrite := rfl
  rw [silent, stl, ask]
  exact State.beginWrite_of_none (by simpa [vtag, State.silenced] using hrequests)

theorem State.readSetSilent_outcome (got : List (List Byte)) (hrequests : s.tag.requests = []) :
    let t := s.readSetSilent got
    t.tag = s.silenced.tag ∧ t.settle = s.settle ∧ t.hire = s.hire ∧ t.fault.tagMark = true := by
  rw [State.readSetSilent_eq got hrequests]
  obtain ⟨d, fault⟩ := State.duplicateCheck_fault (State.tagMarked ((s.silenced.evaluateSince s).send .stl
    (stlBody (stlValues (s.silentResult got).record (tagSettlement (s.silentResult got))))))
  simp [fault]
  simp [State.silenced]

/-- NO_TAG after a command of a docking's read set, or of a start-up read past its first, cuts it short. -/
theorem exec_noTag_of_readSet {startUp : Bool} {got : List (List Byte)} {issued : Ms}
    (hop : s.tag.operation = .readSet startUp got false issued) (hgot : startUp = true → got ≠ []) :
    exec .noTag s = answerNext ((s.reachMs (issued + 5)).readSetSilent got) := by
  have began : ¬ (startUp && decide (got = [])) = true := by simpa using hgot
  refine congrArg answerNext ?_
  simp only [State.tagSilent, hop]
  exact if_neg began

/-! ### The end of a write (R82) -/

variable {w : WriteRequest} {answer : WriteAnswer}

/-- A WRITTEN write puts its contents into the copy before the requester is answered. -/
theorem State.finishWrite_of_written (w : WriteRequest) :
    s.finishWrite w .written = ((s.tagIdled.copyWritten w.contents).writeAnswered w .written).beginWrite := rfl

/-- A failed write makes a TAG report before the requester is answered. -/
theorem State.finishWrite_of_failed (hanswer : answer ≠ .written) :
    s.finishWrite w answer =
      ((s.tagIdled.tagReport (w.contents.sameSection (.faults []))).writeAnswered w answer).beginWrite := by
  cases answer with
  | written => exact absurd rfl hanswer
  | mismatch => rfl
  | noTag => rfl

/-- A failed write of the settlement unit opens no reporting window. -/
theorem State.settleWriteAnswered_of_failed (hanswer : answer ≠ .written) (ref : Nat) :
    (s.settleWriteAnswered ref answer).fault = s.fault := by
  unfold State.settleWriteAnswered
  split
  · rw [if_neg hanswer]
  · rfl

/-- A failed write of the settlement unit leaves the copy and the hire, and the TAG mark held. -/
theorem State.finishWrite_settlement_failed (hanswer : answer ≠ .written) (hrequester : w.requester = .settlement) :
    let t := s.finishWrite w answer
    t.tag.copy = s.tag.copy ∧ t.fault.tagMark = true ∧ t.hire = s.hire := by
  rw [State.finishWrite_of_failed hanswer]
  simp [State.writeAnswered, hrequester, State.settleWriteAnswered_of_failed hanswer]

/-- NO_TAG fails a write in progress. -/
theorem exec_noTag_of_write {second back : Bool} {issued : Ms}
    (hop : s.tag.operation = .write w second back false issued) :
    exec .noTag s = answerNext ((s.reachMs (issued + 5)).finishWrite w .noTag) := by
  refine congrArg answerNext ?_
  simp [State.tagSilent, hop]

end

theorem silentTagEndsTheOperation : Claims.SilentTagEndsTheOperation := by
  intro s issued
  refine ⟨fun hop => congrArg answerNext ?_, fun got hop hrequests => ?_, fun w second back hop hrequester _ => ?_⟩
  · simp [State.tagSilent, hop]
  · obtain ⟨tag, _, hire, mark⟩ :=
      State.readSetSilent_outcome (s := s.reachMs (issued + 5)) got (by simpa using hrequests)
    refine completes_of_answer (exec_noTag_of_readSet hop (by simp)) ?_
    simp only [conclude_frame, tag, hire, mark, State.reachMs_frame]
    simp [State.silenced]
  · obtain ⟨copy, mark, hire⟩ :=
      State.finishWrite_settlement_failed (s := s.reachMs (issued + 5)) (answer := .noTag) (by simp) hrequester
    refine completes_of_answer (exec_noTag_of_write hop) ?_
    simp only [conclude_frame, copy, mark, hire, State.reachMs_frame, and_self]

/-- Settles O42: the arms of TAG_ANSWER and NO_TAG by the operation in progress, and the read sets' own course. -/
theorem tagAnswersAndSilence : Obligations.TagAnswersAndSilence :=
  ⟨tagAnswerIsNoted, sectionReadGoesOn, silentTagEndsTheOperation⟩

/-! ### The read-back (R81, R82, R127, R155) -/

theorem sectionWriteIsReadBack : Claims.SectionWriteIsReadBack := by
  intro s w second answered issued hop r
  refine congrArg answerNext ?_
  simp [hop, r]

section
variable {s : State} {w : WriteRequest}

/-- The copy with the contents written. -/
def TagCopy.written (copy : TagCopy) : SectionContents → TagCopy
  | .hire h => { copy with hire := .good h }
  | .last l => { copy with last := l }
  | .faults entries => { copy with faults := .good entries }

/-- The tag port with the contents written, and nothing in progress. -/
def State.tagWritten (s : State) (contents : SectionContents) : State :=
  { s with tag := { s.tag with operation := .idle, copy := s.tag.copy.written contents } }

/-- FAULTS alone move the fault level, so the copy takes the contents with one evaluation at most. -/
theorem State.copyWritten_tagIdled (s : State) (contents : SectionContents) :
    s.tagIdled.copyWritten contents = (s.tagWritten contents).evaluateSince s := by
  have same (h : (s.tagWritten contents).bikeLevel = s.bikeLevel) :
      (s.tagWritten contents).evaluateSince s = s.tagWritten contents := by
    refine State.evaluateSince_of_uncaused _ _ ?_
    rw [evaluationCaused_congr (a := s) (b := s.tagWritten contents) rfl rfl h.symm rfl]
    exact evaluationCaused_self _
  cases contents with
  | hire h => exact (same rfl).symm
  | last l => exact (same rfl).symm
  | faults entries =>
    show (s.tagWritten (.faults entries)).evaluateSince s.tagIdled = _
    rw [State.evaluateSince, evaluationCaused_congr (a := s.tagIdled) (b := s) rfl rfl rfl rfl]
    rfl

/-- The clock is none of the causes of an evaluation. -/
theorem State.evaluateSince_reachMs (due : Ms) (t : State) : t.evaluateSince (s.reachMs due) = t.evaluateSince s := by
  obtain ⟨k, hk⟩ := s.reachMs_eq due
  rw [hk]
  rfl

/-- The settlement unit with no RETURNED write on record takes any answer unmoved. -/
theorem State.settleWriteAnswered_of_none (h : s.settle.returned = []) (ref : Nat) (answer : WriteAnswer) :
    s.settleWriteAnswered ref answer = s := by
  obtain ⟨_, _, _, _, _, _, _, _, _, _, ⟨_, _, _, _, returned⟩, _, _, _, _, _⟩ := s
  obtain rfl : returned = [] := h
  rfl

/-- A settlement write ended WRITTEN, with no write behind it. -/
theorem State.finishWrite_settlement_written (hrequester : w.requester = .settlement) (hrequests : s.tag.requests = []) :
    s.finishWrite w .written =
      ((s.tagWritten w.contents).evaluateSince s).settleWriteAnswered w.ref .written := by
  rw [State.finishWrite_of_written, State.copyWritten_tagIdled]
  simp only [State.writeAnswered, hrequester]
  exact State.beginWrite_of_none (by simpa [State.tagWritten] using hrequests)

end

theorem readBackEndsTheWrite : Claims.ReadBackEndsTheWrite := by
  intro bytes s w second issued hop hrequests r
  refine ⟨fun hbytes hsecond => ?_, fun hbytes hrequester hreturned => ?_, fun hbytes hsecond hrequester => ?_⟩
  · rw [exec_sectionReadComplete_of_readBack hop]
    refine congrArg answerNext ?_
    simp [State.sectionRead, hop, hbytes, hsecond, r]
  · intro written
    have copied : r.tagWritten w.contents = written := by
      simp only [State.tagWritten, written, r, State.reachMs_frame]
      cases w.contents <;> rfl
    rw [exec_sectionReadComplete_of_readBack hop, State.sectionRead_written hop hbytes,
      State.finishWrite_settlement_written hrequester (by simpa using hrequests), State.evaluateSince_reachMs, copied,
      State.settleWriteAnswered_of_none (by simpa [written, r] using hreturned)]
    rfl
  · subst hsecond
    obtain ⟨copy, mark, hire⟩ :=
      State.finishWrite_settlement_failed (s := s.reachMs (issued + 15)) (answer := .mismatch) (by simp) hrequester
    refine completes_of_answer (exec_sectionReadComplete_of_readBack hop) ?_
    rw [State.sectionRead_mismatch hop hbytes]
    simp only [conclude_frame, copy, mark, hire, State.reachMs_frame, and_self]

/-- WRITTEN ends the record of a RETURNED write, and opens the member's window where R155's conditions hold. -/
theorem State.settleWriteAnswered_opens {s : State} {ride : ReturnedWrite} (hreturned : s.settle.returned = [ride])
    (hstartUp : ride.startUp = false) (hmember : ride.member ≠ 0) (hdocked : s.dock.docked = true)
    (hwithin : (s.clock.ms - ride.capture).toNat < 60000) :
    let t := s.settleWriteAnswered ride.ref .written
    t.fault.window =
        some { crew := false, reporter := ride.member, expiresAt := ride.capture + 60000, used := false } ∧
      t.settle.returned = [] ∧ t.tag = s.tag := by
  have opens : (!ride.startUp && decide (ride.member ≠ 0) && s.dock.docked &&
      decide ((s.clock.ms - ride.capture).toNat < 60000)) = true := by
    simp only [hstartUp, hdocked, hwithin, hmember, ne_eq, not_false_eq_true, decide_true, Bool.not_false, Bool.and_self]
  have answered : s.settleWriteAnswered ride.ref .written =
      State.openMemberWindow ride { s with settle := { s.settle with returned := [] } } := by
    simp [State.settleWriteAnswered, hreturned]
  rw [answered, State.openMemberWindow, if_pos (by exact opens)]
  exact ⟨rfl, rfl, rfl⟩

theorem writtenReturnOpensAWindow : Claims.WrittenReturnOpensAWindow := by
  intro bytes s w second issued ride hop hbytes hrequests hrequester hreturned href hstartUp hmember hdocked hwithin
  let r := s.reachMs (issued + 15)
  let v := (r.tagWritten w.contents).evaluateSince r
  have ends : s.sectionRead bytes = v.settleWriteAnswered ride.ref .written := by
    rw [State.sectionRead_written hop hbytes, href]
    exact State.finishWrite_settlement_written hrequester (by simpa using hrequests)
  obtain ⟨window, returned, tag⟩ := State.settleWriteAnswered_opens (s := v)
    (by simpa [v, r, State.tagWritten] using hreturned) hstartUp hmember
    (by simpa [v, r, State.tagWritten] using hdocked) (by simp only [v, State.evaluateSince_frame]; exact hwithin)
  refine completes_of_answer (exec_sectionReadComplete_of_readBack hop) ?_
  rw [ends]
  simp only [conclude_frame, window, returned, tag]
  simp [v, State.tagWritten]

/-- Settles O45: the copy takes what was written with one evaluation, a failed write makes a TAG report, and the answer of a
RETURNED write opens the window. -/
theorem writesAreReadBack : Obligations.WritesAreReadBack :=
  ⟨sectionWriteIsReadBack, readBackEndsTheWrite, writtenReturnOpensAWindow⟩

end Sys2Proof.Machine
end

section
/-! A read set that completes (R77): the copy it holds, and the return of an OPEN hire into a free slot (R126 to R133). -/

namespace Sys2Proof.Machine

/-! ### The copy of a completed read set (R75, R77) -/

section
variable {s : State} {id hire last bytes : List Byte} {got : List (List Byte)}

theorem judgeSections_four (id hire last bytes : List Byte) :
    judgeSections [id, hire, last, bytes] = (judgeId id, judgeHire hire, judgeLast last, judgeFaults bytes) := rfl

/-- The tag port with the sections read in its copy, and nothing in progress. -/
def State.readHeld (s : State) (got : List (List Byte)) : State :=
  { s with
    tag := { s.tag with
      operation := .idle
      docking := none
      copy := { state := .held, id := (judgeSections got).1, hire := (judgeSections got).2.1
                last := (judgeSections got).2.2.1, faults := (judgeSections got).2.2.2 } } }

/-- The copy taken, and the own offer evaluated on it. -/
def State.copyTaken (s : State) (got : List (List Byte)) : State := (s.readHeld got).evaluateSince s

/-- What a completed read set hands to the return sequence. -/
def State.readResult (s : State) (got : List (List Byte)) : ReadResult :=
  { noTag := false, id := (judgeSections got).1, hire := (judgeSections got).2.1, last := (judgeSections got).2.2.1
    capture := s.dockingCapture }

@[simp] theorem State.copyTaken_frame (s : State) (got : List (List Byte)) :
    (s.copyTaken got).straps = s.straps ∧ (s.copyTaken got).clock = s.clock ∧ (s.copyTaken got).peers = s.peers ∧
      (s.copyTaken got).dock = s.dock ∧ (s.copyTaken got).hire = s.hire ∧ (s.copyTaken got).settle = s.settle ∧
      (s.copyTaken got).fault = s.fault ∧ (s.copyTaken got).van.window = s.van.window ∧
      (s.copyTaken got).tag = (s.readHeld got).tag := by
  simp [State.copyTaken, State.readHeld]

theorem State.copyTaken_touches (s : State) (got : List (List Byte)) :
    ({ tag := true } : Touched).frame s (s.copyTaken got) :=
  .trans (u := s.readHeld got) (by simp [Touched.frame, State.readHeld]) (State.evaluateSince_touches _ _ _)

theorem State.Room.copyTaken {n : Nat} {kept : List TxEntry} (h : s.Room n kept) (hroom : n < 7) :
    (s.copyTaken got).Room n kept := State.Room.evaluateSince (s := s.readHeld got) (h.congr rfl rfl) hroom s

/-- The sections of the copy taken, when all four were read. -/
theorem State.copyTaken_copy (s : State) (id hire last bytes : List Byte) :
    (s.copyTaken [id, hire, last, bytes]).tag.copy =
      { state := .held, id := judgeId id, hire := judgeHire hire, last := judgeLast last
        faults := judgeFaults bytes } := by
  simp [State.readHeld, judgeSections_four]

/-- A section that reads other than DAMAGED queues no rewrite. -/
theorem State.faultsDamaged_of_copy (h : s.tag.copy.faults ≠ .damaged) : s.faultsDamaged = false := by
  unfold State.faultsDamaged
  split
  · rename_i hdamaged
    exact absurd hdamaged h
  · rfl

/-- With FAULTS good and no write waiting, the return sequence is told of the copy taken. -/
theorem State.readSetComplete_of_goodFaults {entries : List FaultEntry} (hfaults : judgeFaults bytes = .good entries)
    (hrequests : s.tag.requests = []) :
    s.readSetComplete [id, hire, last, bytes] =
      ((s.copyTaken [id, hire, last, bytes]).returnSequence
        (s.readResult [id, hire, last, bytes])).duplicateCheck.faultTakesRead := by
  let c := s.copyTaken [id, hire, last, bytes]
  have good : c.faultsDamaged = false :=
    State.faultsDamaged_of_copy (by simp [c, State.copyTaken_copy, hfaults, -State.copyTaken_frame])
  have undamaged : c.queueRewrite = c := if_neg (by simp [good])
  have still : c.beginWrite = c := State.beginWrite_of_none (by simpa [c, State.readHeld] using hrequests)
  have complete : s.readSetComplete [id, hire, last, bytes] =
      (c.queueRewrite.beginWrite.returnSequence (s.readResult [id, hire, last, bytes])).duplicateCheck.faultTakesRead := rfl
  rw [complete, undamaged, still]

/-- The fault unit has nothing to report of sections none of which reads DAMAGED. -/
theorem State.faultTakesRead_of_whole (hid : s.tag.copy.id ≠ .damaged) (hhire : s.tag.copy.hire ≠ .damaged)
    (hfaults : s.tag.copy.faults ≠ .damaged) : s.faultTakesRead = s := by
  simp [State.faultTakesRead, hid, hhire, State.faultsDamaged_of_copy hfaults]

/-- The fourth section completes the read set. -/
theorem exec_sectionReadComplete_of_fourth {startUp : Bool} {issued : Ms}
    (hop : s.tag.operation = .readSet startUp [id, hire, last] true issued) :
    exec (.sectionReadComplete bytes) s =
      answerNext ((s.reachMs (issued + 15)).readSetComplete [id, hire, last, bytes]) := by
  rw [exec_sectionReadComplete_of_readSet hop]
  refine congrArg answerNext ?_
  simp [State.sectionRead, hop]

end

/-! ### Nothing to settle (R126) -/

section
variable {s : State} {id hire last bytes : List Byte} {i : IdSection} {h : HireSection} {entries : List FaultEntry}

/-- A HIRE section CLOSED or RETURNED is no return. -/
theorem State.returnSequence_of_closed {r : ReadResult} (hnoTag : r.noTag = false) (hhire : r.hire = .good h)
    (hmark : h.mark = .closed ∨ h.mark = .returned) : s.returnSequence r = s := by
  rcases hmark with hmark | hmark <;> simp [State.returnSequence, hnoTag, hhire, hmark]

theorem State.duplicateCheck_touches (s : State) :
    ({ peers := true, fault := true } : Touched).frame s s.duplicateCheck := by
  have raised (u : State) : ({ fault := true } : Touched).frame u u.raiseDuplicate := by
    unfold State.raiseDuplicate
    split
    · exact .refl _ u
    · exact .trans (.trans (by simp [Touched.frame]) ((State.offerAutoFlt_touches _ _ _).mono (by decide)))
        (State.evaluateSince_touches _ _ _)
  unfold State.duplicateCheck
  split
  · exact .trans (by simp [Touched.frame]) ((raised _).mono (by decide))
  · simp [Touched.frame]
  · exact .refl _ s
  · exact .refl _ s

/-- With nothing to settle and no section damaged, the duplicate-bike check alone is told of the copy. -/
theorem State.readSetComplete_of_closed (hid : judgeId id = .good i) (hhire : judgeHire hire = .good h)
    (hmark : h.mark = .closed ∨ h.mark = .returned) (hfaults : judgeFaults bytes = .good entries)
    (hrequests : s.tag.requests = []) :
    s.readSetComplete [id, hire, last, bytes] = (s.copyTaken [id, hire, last, bytes]).duplicateCheck := by
  rw [State.readSetComplete_of_goodFaults hfaults hrequests,
    State.returnSequence_of_closed (r := s.readResult [id, hire, last, bytes]) rfl hhire hmark]
  have copy := s.copyTaken_copy id hire last bytes
  apply State.faultTakesRead_of_whole <;>
    simp [copy, hid, hhire, hfaults, -State.copyTaken_frame]

end

/-- The check touches the peer table and the fault unit's DUPLICATE beside the copy. -/
theorem State.readSetComplete_of_closed_outcome {s : State} {id hire last bytes : List Byte} {i : IdSection}
    {h : HireSection} {entries : List FaultEntry} (hid : judgeId id = .good i) (hhire : judgeHire hire = .good h)
    (hmark : h.mark = .closed ∨ h.mark = .returned) (hfaults : judgeFaults bytes = .good entries)
    (hrequests : s.tag.requests = []) :
    let t := s.readSetComplete [id, hire, last, bytes]
    t.tag = (s.readHeld [id, hire, last, bytes]).tag ∧ t.settle = s.settle ∧ t.fault.tagMark = s.fault.tagMark ∧
      t.fault.writes = s.fault.writes ∧ t.hire = s.hire ∧
      ({ tag := true, peers := true, fault := true } : Touched).frame s t := by
  rw [State.readSetComplete_of_closed hid hhire hmark hfaults hrequests]
  obtain ⟨d, fault⟩ := State.duplicateCheck_fault (s.copyTaken [id, hire, last, bytes])
  exact ⟨by simp, by simp, by simp [fault], by simp [fault], by simp,
    ((s.copyTaken_touches _).mono (by decide)).trans ((State.duplicateCheck_touches _).mono (by decide))⟩

theorem readSetHoldsTheCopy : Claims.ReadSetHoldsTheCopy := by
  intro bytes id hire last s startUp issued i h entries _ hop hid hhire hmark hfaults hrequests
  obtain ⟨tag, settle, mark, writes, hire', touches⟩ := State.readSetComplete_of_closed_outcome
    (s := s.reachMs (issued + 15)) (last := last) hid hhire hmark hfaults (by simpa using hrequests)
  have reached : ({} : Touched).frame s (s.reachMs (issued + 15)) := by simp [Touched.frame]
  refine completes_of_answer (exec_sectionReadComplete_of_fourth hop)
    ⟨?_, ?_, ?_, ?_, ?_, conclude_frame_of _ _ _ ((reached.mono (by decide)).trans touches)⟩ <;>
  simp only [conclude_frame, tag, settle, mark, writes, hire', State.readHeld, judgeSections_four, hid, hhire, hfaults,
    State.reachMs_frame]

/-! ### The writes of a return (R81, R127) -/

section
variable {s : State} {h : HireSection} {c : Capture} {last : Option LastSection}

/-- The RETURNED write begins at once while nothing is in progress or waiting, and is on record with its ride. -/
theorem State.requestReturned_idle (hcopy : s.tag.copy.state = .held) (hop : s.tag.operation = .idle)
    (hrequests : s.tag.requests = []) :
    s.requestReturned h c =
      { s with
        tag := { s.tag with
          operation :=
            .write { contents := .hire { h with mark := .returned, endAt := endSecond c.scheme }
                     requester := .settlement, ref := s.tag.nextRef } false false false s.clock.ms
          nextRef := s.tag.nextRef + 1 }
        settle := { s.settle with
          returned := s.settle.returned ++
            [{ ref := s.tag.nextRef, member := h.member, capture := c.ms, startUp := c.startUp }] } } := by
  simp only [State.requestReturned, State.requestWrite_idle _ _ s (.inl hcopy) hop hrequests]

/-- The requests behind a RETURNED write: the clearing of a LAST SETTLEMENT that reads present. -/
def clearingOf (last : Option LastSection) (ref : Nat) : List WriteRequest :=
  if last.isSome = true then [{ contents := .last none, requester := .settlement, ref := ref }] else []

/-- The clearing of a LAST SETTLEMENT waits behind the operation in progress. -/
theorem State.requestLastClear_waits (hcopy : s.tag.copy.state = .held) (hop : s.tag.operation ≠ .idle)
    (hrequests : s.tag.requests = []) :
    let t := s.requestLastClear last
    t.tag.operation = s.tag.operation ∧ t.tag.requests = clearingOf last s.tag.nextRef ∧ t.settle = s.settle := by
  cases last with
  | none => exact ⟨rfl, hrequests, rfl⟩
  | some l =>
    have waits := State.requestWrite_waits (.last none) .settlement s (by simp [hcopy]) hop (by simp [hrequests])
    simp [State.requestLastClear, waits, clearingOf, hrequests]

/-- The writes of a return of a whole tag, the tag port at rest: RETURNED begins, and the clearing of LAST waits (R127). -/
theorem State.returnWrites (hcopy : s.tag.copy.state = .held) (hop : s.tag.operation = .idle)
    (hrequests : s.tag.requests = []) :
    let t := (s.requestReturned h c).requestLastClear last
    t.tag.operation =
        .write { contents := .hire { h with mark := .returned, endAt := endSecond c.scheme }, requester := .settlement,
                 ref := s.tag.nextRef } false false false s.clock.ms ∧
      t.tag.requests = clearingOf last (s.tag.nextRef + 1) ∧
      t.settle =
        { s.settle with
          returned := s.settle.returned ++
            [{ ref := s.tag.nextRef, member := h.member, capture := c.ms, startUp := c.startUp }] } := by
  have begun := State.requestReturned_idle (h := h) (c := c) hcopy hop hrequests
  obtain ⟨operation, requests, settle⟩ := State.requestLastClear_waits (last := last) (s := s.requestReturned h c)
    (by simpa using hcopy) (by simp [begun]) (by simpa [begun] using hrequests)
  exact ⟨operation.trans (by rw [begun]), requests.trans (by rw [begun]), settle.trans (by rw [begun])⟩

end

/-! ### A slot that rates at once (R131 to R133, R139) -/

/-- With the end known, the plan's record held and a station id adopted, the slot is allocated in RATING. -/
theorem State.allocate_rates {s : State} {r : ReturnRecord} {ms : Nat} {plan : PlanRecord} (hend : r.end_ = .known ms)
    (hplan : s.settle.active.planRecord r.plan = some plan) (hid : s.peers.adoptedId ≠ 0) :
    s.allocate .a r =
      s.setSlot .a (some
        { record := r
          phase := .rating
            { start := r.start, end_ := ms / 1000, plan := plan, bands := s.settle.active.bandTable
              version := s.settle.active.version, startSpend := r.startSpend, ebike := r.ebike
              atStartPost := s.atStartPost r } (s.clock.ms + 2) }) := by
  simp [State.allocate, State.leaveGathering, State.enterRating, State.ratingInputs, State.setPhase, State.setSlot,
    SettlementUnit.slot, State.atStartPost, State.number, endMissing, tariffMissing, hend, hplan, hid]
  rfl

/-- What the return sequence is handed of a whole tag whose HIRE reads OPEN. -/
theorem ReadResult.record_of_open {r : ReadResult} {i : IdSection} {h : HireSection} (hid : r.id = .good i)
    (hhire : r.hire = .good h) (hmark : h.mark = .opened) :
    r.record =
      { bikeId := i.bikeId, ebike := decide (i.kind = .ebike), member := h.member, plan := h.plan, start := h.start
        startStation := h.startStation, startPost := h.startPost, startDay := h.startDay, startSpend := h.startSpend
        capture := r.capture.ms, startUp := r.capture.startUp, end_ := r.capture.scheme } := by
  simp [ReadResult.record, ReadResult.openHire, ReadResult.goodHire, ReadResult.goodId, hid, hhire, hmark]

/-- The docking capture handed over is the one the tag port holds. -/
theorem State.dockingCapture_of_some {s : State} {c : Capture} (h : s.tag.docking = some c) : s.dockingCapture = c := by
  simp [State.dockingCapture, h]

/-- A whole tag with HIRE OPEN and a free slot A: the slot first, and then the writes (R126, R127, R131). -/
theorem State.returnSequence_of_open {s : State} {r : ReadResult} {i : IdSection} {h : HireSection}
    (hnoTag : r.noTag = false) (hid : r.id = .good i) (hhire : r.hire = .good h) (hmark : h.mark = .opened)
    (hslot : s.settle.slotA = none) :
    s.returnSequence r =
      ((s.allocate .a r.record).requestReturned h r.capture).requestLastClear r.last := by
  simp [State.returnSequence, State.settleReturn, hnoTag, hid, hhire, hmark, hslot]

/-- A return into a free slot A, the tag port at rest: the slot rates, and the RETURNED write begins. -/
theorem State.readSetComplete_of_open {s : State} {id hire last bytes : List Byte} {i : IdSection} {h : HireSection}
    {entries : List FaultEntry} {c : Capture} {ms : Nat} {plan : PlanRecord} (hid : judgeId id = .good i)
    (hhire : judgeHire hire = .good h) (hmark : h.mark = .opened) (hfaults : judgeFaults bytes = .good entries)
    (hrequests : s.tag.requests = []) (hdocking : s.tag.docking = some c) (hscheme : c.scheme = .known ms)
    (hadopted : s.peers.adoptedId ≠ 0) (hslot : s.settle.slotA = none)
    (hplan : s.settle.active.planRecord h.plan = some plan) :
    let t := s.readSetComplete [id, hire, last, bytes]
    t.tag.operation =
        .write { contents := .hire { h with mark := .returned, endAt := ms / 1000 }, requester := .settlement,
                 ref := s.tag.nextRef } false false false s.clock.ms ∧
      t.tag.requests = clearingOf (judgeLast last) (s.tag.nextRef + 1) ∧
      t.settle =
        { s.settle with
          slotA := some
            { record :=
                { bikeId := i.bikeId, ebike := decide (i.kind = .ebike), member := h.member, plan := h.plan
                  start := h.start, startStation := h.startStation, startPost := h.startPost, startDay := h.startDay
                  startSpend := h.startSpend, capture := c.ms, startUp := c.startUp, end_ := .known ms }
              phase := .rating
                { start := h.start, end_ := ms / 1000, plan := plan, bands := s.settle.active.bandTable
                  version := s.settle.active.version, startSpend := h.startSpend, ebike := decide (i.kind = .ebike)
                  atStartPost := decide (s.peers.adoptedId = h.startStation) && decide (h.startPost = s.number) }
                (s.clock.ms + 2) }
          returned := s.settle.returned ++
            [{ ref := s.tag.nextRef, member := h.member, capture := c.ms, startUp := c.startUp }] } := by
  let v := s.copyTaken [id, hire, last, bytes]
  let result := s.readResult [id, hire, last, bytes]
  have capture : result.capture = c := State.dockingCapture_of_some hdocking
  have record := ReadResult.record_of_open (r := result) hid hhire hmark
  have vcopy : v.tag.copy = _ := s.copyTaken_copy id hire last bytes
  have rates : v.allocate .a result.record = v.setSlot .a _ :=
    State.allocate_rates (ms := ms) (plan := plan) (by rw [record, capture, hscheme])
      (by simpa [record, v] using hplan) (by simpa [v] using hadopted)
  have sequence : v.returnSequence result =
      ((v.allocate .a result.record).requestReturned h c).requestLastClear (judgeLast last) := by
    rw [State.returnSequence_of_open rfl hid hhire hmark (by simpa [v] using hslot), capture]
    rfl
  obtain ⟨operation, requests, settled⟩ := State.returnWrites (s := v.allocate .a result.record) (h := h) (c := c)
    (last := judgeLast last) (by simp [vcopy]) (by simp [v, State.readHeld]) (by simpa [v, State.readHeld] using hrequests)
  have whole : (v.returnSequence result).duplicateCheck.faultTakesRead = (v.returnSequence result).duplicateCheck := by
    apply State.faultTakesRead_of_whole <;> simp [vcopy, hid, hhire, hfaults]
  rw [State.readSetComplete_of_goodFaults hfaults hrequests, whole, sequence]
  simp only [State.duplicateCheck_frame]
  rw [operation, requests, settled, rates]
  simp [v, State.readHeld, State.setSlot, record, capture, hscheme, endSecond, State.atStartPost, State.number, hadopted]
  rfl

theorem openHireIsReturned : Claims.OpenHireIsReturned := by
  intro bytes id hire last s startUp issued i h entries c ms plan _ hop hid hhire hmark hfaults hrequests hdocking hscheme
    hadopted hslot hplan now
  obtain ⟨operation, requests, settled⟩ := State.readSetComplete_of_open (s := s.reachMs (issued + 15)) (last := last)
    hid hhire hmark hfaults (by simpa using hrequests) (by simpa using hdocking) hscheme (by simpa using hadopted)
    (by simpa using hslot) (by simpa using hplan)
  refine completes_of_answer (exec_sectionReadComplete_of_fourth hop) ?_
  simp only [conclude_frame, operation, requests, settled, State.reachMs_frame, State.number, clearingOf, now, true_and]
  rfl

/-- Settles O43: the read set's course with FAULTS good, by what HIRE reads. -/
theorem readSetHoldsOrReturns : Obligations.ReadSetHoldsOrReturns := ⟨readSetHoldsTheCopy, openHireIsReturned⟩

end Sys2Proof.Machine
end

section
/-! Returns that no slot takes (R128, R129, R131): a van-taken bike closed, and rides settled at once. -/

namespace Sys2Proof.Machine

/-! ### A van-taken bike (R128) -/

section
variable {s : State} {id hire last bytes : List Byte} {i : IdSection} {h : HireSection} {entries : List FaultEntry}

/-- The tag port with a write of these contents begun, no other being in progress (R81). -/
def State.writes (contents : SectionContents) (requester : Requester) (s : State) : State :=
  { s with
    tag := { s.tag with
      operation :=
        .write { contents := contents, requester := requester, ref := s.tag.nextRef } false false false s.clock.ms
      nextRef := s.tag.nextRef + 1 } }

/-- A HIRE section VAN is closed, its other fields as read, while nothing is in progress or waiting. -/
theorem State.returnSequence_of_van {r : ReadResult} (hnoTag : r.noTag = false) (hhire : r.hire = .good h)
    (hmark : h.mark = .van) (hcopy : s.tag.copy.state = .held) (hop : s.tag.operation = .idle)
    (hrequests : s.tag.requests = []) :
    s.returnSequence r = s.writes (.hire { h with mark := .closed }) .settlement := by
  have closes : s.returnSequence r = s.requestClosed h := by simp [State.returnSequence, hnoTag, hhire, hmark]
  rw [closes, State.requestClosed, State.requestWrite_idle _ _ s (.inl hcopy) hop hrequests]
  rfl

/-- Without a window the duplicate-bike check queues an FLT at most. -/
theorem State.mem_duplicateCheck_queue (hwindow : s.van.window = none) {q : TxEntry}
    (hq : q ∈ s.duplicateCheck.line.queue) (hk : q.kind ≠ .flt) : q ∈ s.line.queue := by
  have sent (u : State) (hu : u.van.window = none) (hq : q ∈ u.raiseDuplicate.line.queue) : q ∈ u.line.queue := by
    unfold State.raiseDuplicate at hq
    split at hq
    · exact hq
    · rw [State.evaluateSince_of_none _ _ (.inl (by simpa using hu)), State.offerAutoFlt, State.send_flt] at hq
      split at hq
      · exact hq
      · rcases State.enqueue_cases .flt _ _ with he | ⟨kept, hsub, _, he⟩
        · rwa [he] at hq
        · rw [he] at hq
          rcases (mem_insertEntry _ _ _).1 hq with rfl | hq
          · exact absurd rfl hk
          · exact hsub.subset hq
  unfold State.duplicateCheck at hq
  split at hq
  · have queued := sent _ (by exact hwindow) hq
    exact queued
  all_goals exact hq

@[simp] theorem State.duplicateCheck_tagMark (s : State) : s.duplicateCheck.fault.tagMark = s.fault.tagMark := by
  obtain ⟨d, fault⟩ := State.duplicateCheck_fault s
  rw [fault]

/-- The CLOSED write begins, and no STL is queued where no window is open. -/
theorem State.readSetComplete_of_van (hid : judgeId id = .good i) (hhire : judgeHire hire = .good h)
    (hmark : h.mark = .van) (hfaults : judgeFaults bytes = .good entries) (hrequests : s.tag.requests = []) :
    let t := s.readSetComplete [id, hire, last, bytes]
    t.tag.operation =
        .write { contents := .hire { h with mark := .closed }, requester := .settlement, ref := s.tag.nextRef } false
          false false s.clock.ms ∧
      t.tag.requests = [] ∧ t.settle = s.settle ∧ t.fault.tagMark = s.fault.tagMark ∧
      (s.van.window = none → ∀ q ∈ t.line.queue, q.kind = .stl → q ∈ s.line.queue) := by
  let v := s.copyTaken [id, hire, last, bytes]
  let u := v.writes (.hire { h with mark := .closed }) .settlement
  have vcopy : v.tag.copy = _ := s.copyTaken_copy id hire last bytes
  have closes : v.returnSequence (s.readResult [id, hire, last, bytes]) = u :=
    State.returnSequence_of_van rfl hhire hmark (by simp [vcopy]) (by simp [v, State.readHeld])
      (by simpa [v, State.readHeld] using hrequests)
  have ucopy : u.tag.copy = v.tag.copy := rfl
  have whole : u.duplicateCheck.faultTakesRead = u.duplicateCheck := by
    apply State.faultTakesRead_of_whole <;> simp [ucopy, vcopy, hid, hhire, hfaults]
  rw [State.readSetComplete_of_goodFaults hfaults hrequests, closes, whole]
  refine ⟨?_, ?_, ?_, ?_, fun hwindow q hq hk => ?_⟩
  · simp [u, State.writes, v, State.readHeld]
  · simpa [u, State.writes, v, State.readHeld] using hrequests
  · simp [u, State.writes, v]
  · simp [u, State.writes, v]
  · have queued := State.mem_duplicateCheck_queue (s := u) (by simpa [u, State.writes, v] using hwindow) hq (by simp [hk])
    have still : v = s.readHeld [id, hire, last, bytes] := State.evaluateSince_of_none _ _ (.inl hwindow)
    have line : v.line = s.line := (congrArg State.line still).trans rfl
    exact line ▸ (queued : q ∈ v.line.queue)

end

theorem vanTakenBikeIsClosed : Claims.VanTakenBikeIsClosed := by
  intro bytes id hire last s startUp issued i h entries _ hop hid hhire hmark hfaults hrequests
  obtain ⟨operation, requests, settle, mark, queue⟩ := State.readSetComplete_of_van (s := s.reachMs (issued + 15))
    (last := last) hid hhire hmark hfaults (by simpa using hrequests)
  refine completes_of_answer (exec_sectionReadComplete_of_fourth hop) ⟨?_, ?_, ?_, ?_, fun hwindow q hq hk => ?_⟩
  · simp only [conclude_frame, operation, State.reachMs_frame]
  · simp only [conclude_frame, requests]
  · simp only [conclude_frame, settle, State.reachMs_frame]
  · simp only [conclude_frame, mark, State.reachMs_frame]
  · obtain ⟨x, hx, href, hkind⟩ := mem_conclude_queue hq
    have queued := queue (by simpa using hwindow) x hx (hkind.trans hk)
    exact ⟨x, by simpa using queued, href⟩

/-! ### The STL of a ride settled at once (R129, R131, R144) -/

/-- An STL with these values is queued. -/
def State.TellsStl (t : State) (v : StlValues) : Prop := ∃ q ∈ t.line.queue, q.kind = .stl ∧ q.body = stlBody v

section
variable {s u : State} {n : Nat} {kept : List TxEntry} {r : ReturnRecord} {w : Settlement} {v : StlValues}

theorem State.TellsStl.of_eq {v' : StlValues} (h : s.TellsStl v) (hv : v = v') : s.TellsStl v' := hv ▸ h

/-- An STL is of class 1: a clash mark does not refuse it (R19). -/
theorem State.refusesOffer_stl (hpost : s.straps.role = .post) (hbarred : s.barred = false) :
    s.refusesOffer .stl = false := by
  simp [State.refusesOffer, hbarred, State.sends, strapSends, hpost, Kind.cls]

/-- The STL takes its place in the queue, and the write-back that follows takes none. -/
theorem State.Room.immediateStl (h : s.Room n kept) (hr : s.refusesOffer .stl = false) (hroom : n < 7) :
    (s.immediateStl r w).Room (n + 1) (s.newEntry .stl (stlBody (stlValues r w)) :: kept) :=
  (h.send_kept hr (by simp) hroom).congr (by simp [State.immediateStl]) (by simp [State.immediateStl])

/-- A kept STL is told when the step has concluded. -/
theorem State.Room.tells (h : s.Room n (u.newEntry .stl (stlBody v) :: kept)) : (Machine.conclude s).TellsStl v :=
  ⟨_, h.conclude (List.mem_cons_self ..) (by simp [State.newEntry]), rfl, rfl⟩

/-- The STL of an UNRATED return (Table 8-11). -/
theorem stlValues_unrated (r : ReturnRecord) (reason : Reason) :
    stlValues r (unrated r reason) =
      { member := r.member, bikeId := r.bikeId, hireStation := r.startStation, start := r.start
        end_ := endSecond r.end_, fare := .unrated, reason := reason, version := 0, newSpend := r.startSpend
        day := r.start / 86400, ebike := r.ebike } := rfl

/-- The writes of a return leave the settlement slots. -/
@[simp] theorem State.writeBack_slots (r : ReturnRecord) (w : Settlement) (s : State) :
    (s.writeBack r w).settle.slotA = s.settle.slotA ∧ (s.writeBack r w).settle.slotB = s.settle.slotB := by
  unfold State.writeBack
  split <;> simp

@[simp] theorem State.immediateStl_slots (r : ReturnRecord) (w : Settlement) (s : State) :
    (s.immediateStl r w).settle.slotA = s.settle.slotA ∧ (s.immediateStl r w).settle.slotB = s.settle.slotB := by
  simp [State.immediateStl]

end

/-! ### A bike landed with its capture -/

/-- The docking of a return at a post that may send: its capture is handed over, no write waits, and the queue has room for
an STL, the FLTs of the fault unit and the own offer. -/
structure State.Lands (s : State) (c : Capture) : Prop where
  post : s.straps.role = .post
  barred : s.barred = false
  requests : s.tag.requests = []
  docking : s.tag.docking = some c
  room : s.Room 3 []

section
variable {s : State} {id hire last bytes : List Byte} {h : HireSection} {entries : List FaultEntry} {c : Capture}

theorem State.Lands.reachMs (l : s.Lands c) (due : Ms) : (s.reachMs due).Lands c where
  post := by simpa using l.post
  barred := by simpa [State.barred] using l.barred
  requests := by simpa using l.requests
  docking := by simpa using l.docking
  room := l.room.congr (by simp) (by simp)

theorem State.lands_of_queue (hpost : s.straps.role = .post) (hbarred : s.barred = false) (hrequests : s.tag.requests = [])
    (hdocking : s.tag.docking = some c) (hlen : s.line.queue.length ≤ 3)
    (hrefs : ∀ e ∈ s.line.queue, e.ref < s.line.nextRef) : s.Lands c :=
  ⟨hpost, hbarred, hrequests, hdocking, hrefs, by omega, by simp⟩

theorem State.Lands.mayTell (l : s.Lands c) {u : State} (hu : u.straps = s.straps) : u.refusesOffer .stl = false :=
  State.refusesOffer_stl (hu ▸ l.post) (by rw [State.barred, hu]; exact l.barred)

/-! ### A damaged tag (R129) -/

/-- With FAULTS good, a damaged ID or HIRE section ends in a TAG report. -/
theorem State.readSetComplete_of_damaged (hfaults : judgeFaults bytes = .good entries) (hrequests : s.tag.requests = [])
    (hdamaged : judgeId id = .damaged ∨ judgeHire hire = .damaged) :
    s.readSetComplete [id, hire, last, bytes] =
      ((s.copyTaken [id, hire, last, bytes]).returnSequence
        (s.readResult [id, hire, last, bytes])).duplicateCheck.tagReport false := by
  rw [State.readSetComplete_of_goodFaults hfaults hrequests]
  let v := ((s.copyTaken [id, hire, last, bytes]).returnSequence (s.readResult [id, hire, last, bytes])).duplicateCheck
  have vcopy : v.tag.copy = _ :=
    (by simp only [v, State.duplicateCheck_frame, State.returnSequence_frame] :
      v.tag.copy = (s.copyTaken [id, hire, last, bytes]).tag.copy).trans (s.copyTaken_copy id hire last bytes)
  have named : (decide (v.tag.copy.id = .damaged) || decide (v.tag.copy.hire = .damaged)) = true := by
    simpa [vcopy] using hdamaged
  have whole : (v.tagReport false).faultsDamaged = false :=
    State.faultsDamaged_of_copy (by simp [vcopy, hfaults])
  show v.faultTakesRead = v.tagReport false
  simp only [State.faultTakesRead, if_pos named, whole]
  rfl

/-- A ride settled at once keeps its STL through the duplicate-bike check and the TAG report, and takes no slot. -/
theorem State.Room.settled {v u : State} {values : StlValues} (room : v.Room 4 [u.newEntry .stl (stlBody values)]) :
    let t := Machine.conclude (v.duplicateCheck.tagReport false)
    t.TellsStl values ∧ (t.settle.slotA = v.settle.slotA ∧ t.settle.slotB = v.settle.slotB) ∧ t.fault.tagMark = true :=
  ⟨((room.duplicateCheck (by omega)).tagReport (by omega) false).tells, by simp, by simp⟩

/-- A damaged HIRE section is settled with nothing known of the ride. -/
theorem State.Lands.damaged_hire (l : s.Lands c) (hfaults : judgeFaults bytes = .good entries)
    (hhire : judgeHire hire = .damaged) :
    let t := conclude (s.readSetComplete [id, hire, last, bytes])
    let r := s.readResult [id, hire, last, bytes]
    t.TellsStl (stlValues r.record (tagSettlement r)) ∧
      (t.settle.slotA = s.settle.slotA ∧ t.settle.slotB = s.settle.slotB) ∧ t.fault.tagMark = true := by
  have sequence : (s.copyTaken [id, hire, last, bytes]).returnSequence (s.readResult [id, hire, last, bytes]) =
      (s.copyTaken [id, hire, last, bytes]).immediateStl (s.readResult [id, hire, last, bytes]).record
        (tagSettlement (s.readResult [id, hire, last, bytes])) := by
    simp [State.returnSequence, State.readResult, judgeSections_four, hhire]
  rw [State.readSetComplete_of_damaged hfaults l.requests (.inr hhire), sequence]
  have settled := State.Room.settled ((l.room.copyTaken (got := [id, hire, last, bytes]) (by omega)).immediateStl
    (r := (s.readResult [id, hire, last, bytes]).record) (w := tagSettlement (s.readResult [id, hire, last, bytes]))
    (l.mayTell (by simp)) (by omega))
  simpa using settled

/-- With HIRE OPEN and ID DAMAGED the RETURNED write begins, and nothing else but a FAULTS section is requested. -/
theorem State.Lands.damaged_id (l : s.Lands c) (hfaults : judgeFaults bytes = .good entries)
    (hid : judgeId id = .damaged) (hhire : judgeHire hire = .good h) (hmark : h.mark = .opened) :
    let t := conclude (s.readSetComplete [id, hire, last, bytes])
    let r := s.readResult [id, hire, last, bytes]
    t.TellsStl (stlValues r.record (tagSettlement r)) ∧
      t.tag.operation =
        .write { contents := .hire { h with mark := .returned, endAt := endSecond c.scheme }, requester := .settlement,
                 ref := s.tag.nextRef } false false false s.clock.ms ∧
      (∀ r ∈ t.tag.requests, r.contents ≠ .last none) ∧
      (t.settle.slotA = s.settle.slotA ∧ t.settle.slotB = s.settle.slotB) ∧ t.fault.tagMark = true := by
  let result := s.readResult [id, hire, last, bytes]
  let v := s.copyTaken [id, hire, last, bytes]
  let b := v.requestReturned h c
  let sent := b.send .stl (stlBody (stlValues result.record (tagSettlement result)))
  have vcopy : v.tag.copy = _ := s.copyTaken_copy id hire last bytes
  have begun : b = _ := State.requestReturned_idle (s := v) (h := h) (c := c) (by simp [vcopy])
    (by simp [v, State.readHeld]) (by simpa [v, State.readHeld] using l.requests)
  have stl : b.immediateStl result.record (tagSettlement result) = sent :=
    State.writeBack_of_apart (.inl (by simp [State.copyId, b, vcopy, hid]))
  have capture : result.capture = c := State.dockingCapture_of_some l.docking
  have sequence : v.returnSequence result =
      (v.requestReturned h result.capture).immediateStl result.record (tagSettlement result) := by
    simp [State.returnSequence, result, State.readResult, judgeSections_four, hhire, hmark, hid]
  have marked : sent.duplicateCheck.tagMarked.tag = b.tag := by simp [sent]
  obtain ⟨operation, requests⟩ :=
    State.askTagEntry_busy (s := sent.duplicateCheck.tagMarked) (by rw [marked]; simp [begun]) false
  rw [marked] at operation requests
  have broom : b.Room 3 [] :=
    (l.room.copyTaken (got := [id, hire, last, bytes]) (by omega)).congr (by simp [b, v]) (by simp [b, v])
  have room : sent.Room 4 [b.newEntry .stl (stlBody (stlValues result.record (tagSettlement result)))] :=
    broom.send_kept (l.mayTell (by simp [b, v])) (by simp) (by omega)
  obtain ⟨told, slots, mark⟩ := room.settled
  rw [State.readSetComplete_of_damaged hfaults l.requests (.inl hid), sequence, capture, stl]
  refine ⟨told, ?_, fun q hq => ?_, ?_, mark⟩
  · simp only [conclude_frame, State.tagReport_eq, operation]
    simp [begun, v, State.readHeld]
  · have waits : b.tag.requests = [] := by simpa [begun, v, State.readHeld] using l.requests
    rcases requests q (by simpa only [conclude_frame, State.tagReport_eq] using hq) with hq | ⟨entries, hq⟩
    · simp [waits] at hq
    · simp [hq]
  · simp [sent, begun, v]

/-! ### The values of a ride not read whole (R129) -/

/-- A ride of which no HIRE section OPEN tells is known by its bike and its end alone. -/
theorem stlValues_of_noRide {r : ReadResult} (hride : r.openHire = none) (reason : Reason) :
    stlValues r.record (unrated r.record reason) =
      { member := 0, bikeId := (r.goodId.map IdSection.bikeId).getD 0, hireStation := 0, start := 0
        end_ := endSecond r.capture.scheme, fare := .unrated, reason := reason, version := 0, newSpend := 0, day := 0
        ebike := decide (r.goodId.map IdSection.kind = some .ebike) } := by
  simp [stlValues_unrated, ReadResult.record, hride]

/-- A ride by its HIRE section OPEN, and by its bike where ID reads good. -/
theorem stlValues_of_ride {r : ReadResult} {h : HireSection} (hride : r.openHire = some h) (reason : Reason) :
    stlValues r.record (unrated r.record reason) =
      { member := h.member, bikeId := (r.goodId.map IdSection.bikeId).getD 0, hireStation := h.startStation
        start := h.start, end_ := endSecond r.capture.scheme, fare := .unrated, reason := reason, version := 0
        newSpend := h.startSpend, day := h.start / 86400
        ebike := decide (r.goodId.map IdSection.kind = some .ebike) } := by
  simp [stlValues_unrated, ReadResult.record, hride]

end

/-- An end in scheme seconds as the statements write it. -/
theorem endSecond_eq (scheme : SchemeMs) :
    (match scheme with
      | .known ms => ms / 1000
      | .pending => 0xFFFFFFFF
      | .unknown => 0xFFFFFFFF) = endSecond scheme := by
  cases scheme <;> rfl

theorem damagedTagIsSettledAtOnce : Claims.DamagedTagIsSettledAtOnce := by
  intro bytes id hire last s startUp issued c entries hpost hbarred hop hfaults hrequests hdocking hlen hrefs endAt told
    slots
  have lands : (s.reachMs (issued + 15)).Lands c :=
    (State.lands_of_queue hpost hbarred hrequests hdocking hlen hrefs).reachMs _
  let result := (s.reachMs (issued + 15)).readResult [id, hire, last, bytes]
  have capture : result.capture = c := State.dockingCapture_of_some lands.docking
  have ended : endSecond c.scheme = endAt := (endSecond_eq c.scheme).symm
  have goodId : result.goodId =
      match judgeId id with
      | .good i => some i
      | .damaged => none
      | .unread => none := rfl
  have step := exec_sectionReadComplete_of_fourth (bytes := bytes) hop
  have unknown (hhire : judgeHire hire = .damaged) : completes (.sectionReadComplete bytes) s (fun t =>
      told { member := 0, bikeId := (result.goodId.map IdSection.bikeId).getD 0, hireStation := 0, start := 0
             end_ := endAt, fare := .unrated, reason := .tag, version := 0, newSpend := 0, day := 0
             ebike := decide (result.goodId.map IdSection.kind = some .ebike) } t ∧
      slots t ∧ t.fault.tagMark = true) := by
    obtain ⟨tells, kept, mark⟩ := lands.damaged_hire (id := id) (last := last) hfaults hhire
    have noRide : result.openHire = none := by
      simp [result, State.readResult, judgeSections_four, ReadResult.openHire, ReadResult.goodHire, hhire]
    have values := stlValues_of_noRide noRide .tag
    rw [capture, ended] at values
    simp only [State.reachMs_frame] at kept
    exact completes_of_answer step ⟨tells.of_eq values, kept, mark⟩
  refine ⟨fun i hid hhire => ?_, fun hid hhire => ?_, fun h hid hhire hmark => ?_⟩
  · simpa [goodId, hid] using unknown hhire
  · simpa [goodId, hid] using unknown hhire
  · obtain ⟨tells, operation, requests, kept, mark⟩ := lands.damaged_id (last := last) hfaults hid hhire hmark
    have ride : result.openHire = some h := by
      simp [result, State.readResult, judgeSections_four, ReadResult.openHire, ReadResult.goodHire, hhire, hmark]
    have values := stlValues_of_ride ride .tag
    simp only [goodId, hid, capture, ended] at values
    simp only [ended, State.reachMs_frame] at operation kept
    exact completes_of_answer step ⟨tells.of_eq values, operation, requests, kept, mark⟩

/-! ### A read set that a silent tag cuts short (R78, R129) -/

section
variable {s : State} {c : Capture} {got : List (List Byte)}

/-- The STL of a silent tag's ride keeps its place through the TAG report and the duplicate-bike check. -/
theorem State.Lands.silent (l : s.Lands c) :
    (conclude (s.readSetSilent got)).TellsStl
      (stlValues (s.silentResult got).record (tagSettlement (s.silentResult got))) := by
  have silenced : (s.silenced.evaluateSince s).Room 3 [] :=
    State.Room.evaluateSince (s := s.silenced) (l.room.congr rfl rfl) (by omega) s
  have room := silenced.send_kept (kind := .stl)
    (body := stlBody (stlValues (s.silentResult got).record (tagSettlement (s.silentResult got))))
    (l.mayTell (by simp [State.silenced])) (by simp) (by omega)
  rw [State.readSetSilent_eq got l.requests]
  exact ((room.tagMarked (by omega)).duplicateCheck (by omega)).tells

/-- The good ID section of what was read. -/
theorem State.silentResult_goodId (s : State) (got : List (List Byte)) :
    (s.silentResult got).goodId =
      match got.map judgeId with
      | .good i :: _ => some i
      | _ => none := by
  cases got with
  | nil => rfl
  | cons id rest =>
    show ReadResult.goodId { s.silentResult (id :: rest) with id := judgeId id } = _
    simp only [ReadResult.goodId, List.map_cons]
    cases judgeId id <;> rfl

/-- The HIRE section OPEN of what was read. -/
theorem State.silentResult_openHire (s : State) (got : List (List Byte)) :
    (s.silentResult got).openHire =
      match got.map judgeHire with
      | _ :: .good h :: _ => if h.mark = .opened then some h else none
      | _ => none := by
  match got with
  | [] => rfl
  | [_] => rfl
  | _ :: hire :: rest =>
    simp only [State.silentResult, judgeSections, ReadResult.openHire, ReadResult.goodHire, List.map_cons,
      List.getElem?_cons_succ, List.getElem?_cons_zero]
    cases judgeHire hire <;> rfl

end

theorem silentReadSetIsSettledAtOnce : Claims.SilentReadSetIsSettledAtOnce := by
  intro got s startUp issued c hpost hbarred hop hgot hrequests hdocking hlen hrefs endAt id ride ofRide
  have lands : (s.reachMs (issued + 5)).Lands c :=
    (State.lands_of_queue hpost hbarred hrequests hdocking hlen hrefs).reachMs _
  let result := (s.reachMs (issued + 5)).silentResult got
  have capture : result.capture = c := State.dockingCapture_of_some lands.docking
  have ended : endSecond c.scheme = endAt := (endSecond_eq c.scheme).symm
  have goodId : result.goodId = id := State.silentResult_goodId _ got
  have openHire : result.openHire = ride := State.silentResult_openHire _ got
  obtain ⟨tag, settle, _, mark⟩ := State.readSetSilent_outcome got lands.requests
  refine completes_of_answer (exec_noTag_of_readSet hop hgot)
    ⟨lands.silent.of_eq ((stlValues_unrated result.record .tag).trans ?_), ?_, ?_, ?_, ?_, ?_⟩
  · simp only [ReadResult.record, goodId, openHire, capture, ended, ofRide]
  · simp only [conclude_frame, tag, State.silenced]
  · simp only [conclude_frame, tag, State.silenced]
  · simpa only [conclude_frame, tag, State.silenced] using lands.requests
  · simp only [conclude_frame, settle, State.reachMs_frame]
  · simp only [conclude_frame, mark]

/-! ### A return that finds both slots taken (R131) -/

section
variable {s : State} {id hire last bytes : List Byte} {i : IdSection} {h : HireSection} {entries : List FaultEntry}
  {c : Capture} {a b : Slot}

/-- A request in the place of the same requester's waiting one for its section (R81). -/
theorem State.requestWrite_supersedes {contents : SectionContents} {requester : Requester} {w : WriteRequest}
    (hcopy : s.tag.copy.state ≠ .empty) (hop : s.tag.operation ≠ .idle) (hrequests : s.tag.requests = [w])
    (hsection : w.contents.sameSection contents = true) (hrequester : w.requester = requester) :
    (s.requestWrite contents requester).1.tag =
      { s.tag with
        requests := [{ contents := contents, requester := requester, ref := s.tag.nextRef }]
        nextRef := s.tag.nextRef + 1 } := by
  unfold State.requestWrite
  rw [if_neg hcopy]
  simp only [hrequests, List.find?_cons, hsection, if_pos hrequester]
  rw [State.beginWrite_of_busy (by simpa using hop)]
  simp [hsection]

/-- The write-back of a settlement waits in place of the clearing of LAST, behind the RETURNED write (R145, log 12). -/
theorem State.requestWrite_last (hcopy : s.tag.copy.state ≠ .empty) (hop : s.tag.operation ≠ .idle) {ref : Nat}
    {cleared : Option LastSection} (hrequests : s.tag.requests = clearingOf cleared ref) (l : Option LastSection) :
    let t := (s.requestWrite (.last l) .settlement).1
    t.tag.operation = s.tag.operation ∧
      t.tag.requests = [{ contents := .last l, requester := .settlement, ref := s.tag.nextRef }] := by
  cases cleared with
  | none =>
    have waits : s.tag.requests = [] := by simpa [clearingOf] using hrequests
    simp [State.requestWrite_waits (.last l) .settlement s hcopy hop (by simp [waits]), waits]
  | some x =>
    have waits : s.tag.requests = [{ contents := .last none, requester := .settlement, ref := ref }] := by
      simpa [clearingOf] using hrequests
    simp [State.requestWrite_supersedes (contents := .last l) hcopy hop waits rfl rfl]

/-- The write-back is requested of the same bike's copy while the hire is IDLE (R145). -/
theorem State.writeBack_of_same {r : ReturnRecord} {w : Settlement} (hid : s.copyId = some i)
    (hbike : i.bikeId = r.bikeId) (hidle : s.hire.state = .idle) :
    s.writeBack r w =
      (s.requestWrite (.last (some { fare := w.fare, reason := w.reason, endAt := w.endAt, tariff := w.version }))
        .settlement).1 := if_pos (by simp [hid, hbike, hidle])

/-- With both slots taken the writes of a return begin, its STL is queued UNRATED SLOTS, and the write-back waits (R131). -/
theorem State.settleReturn_full {r : ReadResult} (hcopy : s.tag.copy.state = .held) (hid : s.tag.copy.id = .good i)
    (hbike : i.bikeId = r.record.bikeId) (hop : s.tag.operation = .idle) (hrequests : s.tag.requests = [])
    (hslotA : s.settle.slotA = some a) (hslotB : s.settle.slotB = some b) (hidle : s.hire.state = .idle)
    (hsends : s.refusesOffer .stl = false) (room : s.Room 3 []) :
    let t := s.settleReturn r h
    let stl := stlBody (stlValues r.record (unrated r.record .slots))
    t.Room 4 [s.newEntry .stl stl] ∧
      t.tag.operation =
        .write { contents := .hire { h with mark := .returned, endAt := endSecond r.capture.scheme }
                 requester := .settlement, ref := s.tag.nextRef } false false false s.clock.ms ∧
      (∃ ref, t.tag.requests =
        [{ contents := .last (some
             { fare := .unrated, reason := .slots, endAt := endSecond r.capture.scheme, tariff := 0 })
           requester := .settlement, ref := ref }]) ∧
      t.settle.slotA = some a ∧ t.settle.slotB = some b := by
  let e := (s.requestReturned h r.capture).requestLastClear r.last
  let sent := e.send .stl (stlBody (stlValues r.record (unrated r.record .slots)))
  have frame : e.straps = s.straps ∧ e.clock = s.clock ∧ e.line = s.line ∧ e.van = s.van := by simp [e]
  obtain ⟨straps, clock, line, van⟩ := frame
  obtain ⟨operation, requests, settle⟩ :=
    State.returnWrites (h := h) (c := r.capture) (last := r.last) hcopy hop hrequests
  have sentTag : sent.tag = e.tag := by simp [sent]
  have sentCopy : sent.tag.copy = s.tag.copy := by simp [sent, e]
  have full : s.settleReturn r h = e.immediateStl r.record (unrated r.record .slots) := by
    rw [State.settleReturn, hslotA, hslotB]
  have back : e.immediateStl r.record (unrated r.record .slots) =
      (sent.requestWrite (.last (some
        { fare := .unrated, reason := .slots, endAt := endSecond r.capture.scheme, tariff := 0 })) .settlement).1 :=
    State.writeBack_of_same (s := sent) (i := i) (by simp [State.copyId, sentCopy, hcopy, hid]) hbike
      (by simpa [sent, e] using hidle)
  obtain ⟨writing, waiting⟩ := State.requestWrite_last (s := sent) (by simp [sentCopy, hcopy])
    (by rw [sentTag, operation]; simp) (by rw [sentTag]; exact requests)
    (some { fare := .unrated, reason := .slots, endAt := endSecond r.capture.scheme, tariff := 0 })
  have told := State.Room.send_kept (s := e) (kind := .stl)
    (body := stlBody (stlValues r.record (unrated r.record .slots))) (room.congr line (congrArg VanUnit.offer van))
    ((State.refusesOffer_congr straps (congrArg Line.clash line)).trans hsends) (by simp) (by omega)
  have entry (body : List Byte) : e.newEntry .stl body = s.newEntry .stl body := by
    simp only [State.newEntry, line, clock]
  have slots : sent.settle.slotA = some a ∧ sent.settle.slotB = some b := by
    have settled : sent.settle = _ := (by simp [sent] : sent.settle = e.settle).trans settle
    simp [settled, hslotA, hslotB]
  rw [entry] at told
  rw [full, back]
  exact ⟨told.congr (by simp [sent]) (by simp [sent]), by rw [writing, sentTag]; exact operation, ⟨_, waiting⟩,
    by simpa using slots⟩

/-- Such a return, when the step has concluded. -/
theorem State.Lands.unslotted (l : s.Lands c) (hid : judgeId id = .good i) (hhire : judgeHire hire = .good h)
    (hmark : h.mark = .opened) (hfaults : judgeFaults bytes = .good entries) (hslotA : s.settle.slotA = some a)
    (hslotB : s.settle.slotB = some b) (hidle : s.hire.state = .idle) :
    let t := conclude (s.readSetComplete [id, hire, last, bytes])
    let r := s.readResult [id, hire, last, bytes]
    t.TellsStl (stlValues r.record (unrated r.record .slots)) ∧
      t.tag.operation =
        .write { contents := .hire { h with mark := .returned, endAt := endSecond c.scheme }, requester := .settlement,
                 ref := s.tag.nextRef } false false false s.clock.ms ∧
      (∃ ref, t.tag.requests =
        [{ contents := .last (some { fare := .unrated, reason := .slots, endAt := endSecond c.scheme, tariff := 0 })
           requester := .settlement, ref := ref }]) ∧
      t.settle.slotA = some a ∧ t.settle.slotB = some b := by
  let result := s.readResult [id, hire, last, bytes]
  let v := s.copyTaken [id, hire, last, bytes]
  have vcopy : v.tag.copy = _ := s.copyTaken_copy id hire last bytes
  have capture : result.capture = c := State.dockingCapture_of_some l.docking
  have record := ReadResult.record_of_open (r := result) hid hhire hmark
  have sequence : v.returnSequence result = v.settleReturn result h := by
    simp [State.returnSequence, result, State.readResult, judgeSections_four, hhire, hmark, hid]
  obtain ⟨room, operation, requests, slots⟩ := State.settleReturn_full (s := v) (r := result) (i := i) (h := h)
    (a := a) (b := b) (by simp [vcopy]) (by simp [vcopy, hid]) (by rw [record]) (by simp [v, State.readHeld])
    (by simpa [v, State.readHeld] using l.requests) (by simpa [v] using hslotA) (by simpa [v] using hslotB)
    (by simpa [v] using hidle) (l.mayTell (by simp [v])) (l.room.copyTaken (by omega))
  rw [← sequence] at room operation requests slots
  have whole : (v.returnSequence result).duplicateCheck.faultTakesRead = (v.returnSequence result).duplicateCheck := by
    apply State.faultTakesRead_of_whole <;> simp [vcopy, hid, hhire, hfaults]
  rw [State.readSetComplete_of_goodFaults hfaults l.requests, whole]
  refine ⟨(room.duplicateCheck (by omega)).tells, ?_, ?_, ?_⟩
  · simp only [conclude_frame, State.duplicateCheck_frame, operation, capture]
    simp [v, State.readHeld]
  · simpa only [conclude_frame, State.duplicateCheck_frame, capture] using requests
  · simpa only [conclude_frame, State.duplicateCheck_frame] using slots

end

theorem returnWithoutASlotIsUnrated : Claims.ReturnWithoutASlotIsUnrated := by
  intro bytes id hire last s startUp issued i h entries c ms a b hpost hbarred hop hid hhire hmark hfaults hrequests
    hdocking hscheme hslotA hslotB hidle hlen hrefs
  have lands : (s.reachMs (issued + 15)).Lands c :=
    (State.lands_of_queue hpost hbarred hrequests hdocking hlen hrefs).reachMs _
  let result := (s.reachMs (issued + 15)).readResult [id, hire, last, bytes]
  have capture : result.capture = c := State.dockingCapture_of_some lands.docking
  have ended : endSecond c.scheme = ms / 1000 := by rw [hscheme]; rfl
  have record := ReadResult.record_of_open (r := result) hid hhire hmark
  obtain ⟨tells, operation, ⟨ref, requests⟩, slotA, slotB⟩ := lands.unslotted (last := last) hid hhire hmark hfaults
    (by simpa using hslotA) (by simpa using hslotB) (by simpa using hidle)
  refine completes_of_answer (exec_sectionReadComplete_of_fourth hop)
    ⟨slotA, slotB, tells.of_eq ((stlValues_unrated result.record .slots).trans ?_), ?_, _, requests, rfl, ?_⟩
  · simp only [record, capture, ended]
  · simp only [operation, ended, State.reachMs_frame]
  · simp only [ended]

end Sys2Proof.Machine
end

section
/-! A FAULTS section that reads DAMAGED (R79, R152, R153): its rewrite, the changes deferred meanwhile, and its answer. -/

namespace Sys2Proof.Machine

section
variable {s t : State}

/-! ### A DAMAGED section in the copy -/

theorem State.faultsDamaged_iff :
    s.faultsDamaged = true ↔ s.tag.copy.state = .held ∧ s.tag.copy.faults = .damaged := by
  unfold State.faultsDamaged
  split <;> simp_all

/-- A DAMAGED section counts as one TAG entry (R149). -/
theorem State.workingList_of_damaged (h : s.faultsDamaged = true) : s.workingList = [tagEntry] := if_pos h

/-- A list that counts a TAG entry is asked for no other (R152). -/
theorem State.tagReport_of_damaged (h : s.faultsDamaged = true) : s.tagReport false = s.tagMarked := by
  have damaged : s.tagMarked.faultsDamaged = true := State.faultsDamaged_iff.2 (by simpa using State.faultsDamaged_iff.1 h)
  exact State.askTagEntry_of_none (s := s.tagMarked)
    (.inr (.inr (by simp [State.workingList_of_damaged damaged, tagEntry])))

/-- A docked bike with a DAMAGED FAULTS section and the TAG mark held stands at level 2 (R149). -/
theorem State.bikeLevel_of_damaged (hdocked : s.dock.docked = true) (h : s.faultsDamaged = true)
    (hmark : s.fault.tagMark = true) : s.bikeLevel = 2 := by
  obtain ⟨held, _⟩ := State.faultsDamaged_iff.1 h
  have level : listLevel [tagEntry] = 2 := by decide
  simp only [State.bikeLevel, State.workingList_of_damaged h, hdocked, held, hmark, level]
  cases s.fault.lowCharge <;> cases s.fault.flat <;> cases s.fault.duplicate <;> rfl

/-! ### The rewrite begins (R79) -/

/-- The rewrite goes ahead of nothing else, and begins at once. -/
theorem State.queueRewrite_begins (h : s.faultsDamaged = true) (hop : s.tag.operation = .idle)
    (hrequests : s.tag.requests = []) :
    s.queueRewrite.beginWrite = s.writes (.faults [tagEntry]) .tagPort := by
  obtain ⟨held, _⟩ := State.faultsDamaged_iff.1 h
  simp [State.queueRewrite, h, State.beginWrite, hop, held, State.writes, hrequests]

/-- The read set of a bike with nothing to settle and a DAMAGED FAULTS section. -/
theorem State.readSetComplete_of_damagedFaults {id hire last bytes : List Byte} {i : IdSection} {h : HireSection}
    (hid : judgeId id = .good i) (hhire : judgeHire hire = .good h) (hmark : h.mark = .closed ∨ h.mark = .returned)
    (hfaults : judgeFaults bytes = .damaged) (hrequests : s.tag.requests = []) :
    s.readSetComplete [id, hire, last, bytes] =
      ((s.copyTaken [id, hire, last, bytes]).writes (.faults [tagEntry]) .tagPort).duplicateCheck.tagMarked := by
  let v := s.copyTaken [id, hire, last, bytes]
  let u := (v.writes (.faults [tagEntry]) .tagPort).duplicateCheck
  have vcopy : v.tag.copy = _ := s.copyTaken_copy id hire last bytes
  have begun : v.queueRewrite.beginWrite = v.writes (.faults [tagEntry]) .tagPort :=
    State.queueRewrite_begins (State.faultsDamaged_iff.2 (by simp [vcopy, hfaults])) (by simp [v, State.readHeld])
      (by simpa [v, State.readHeld] using hrequests)
  have still : v.queueRewrite.beginWrite.returnSequence (s.readResult [id, hire, last, bytes]) = v.queueRewrite.beginWrite :=
    State.returnSequence_of_closed rfl hhire hmark
  have ucopy : u.tag.copy = v.tag.copy := by simp [u, State.writes]
  have damaged : u.faultsDamaged = true := State.faultsDamaged_iff.2 (by simp [ucopy, vcopy, hfaults])
  have told : u.faultTakesRead = u.tagReport false := by
    simp [State.faultTakesRead, ucopy, vcopy, hid, hhire, damaged]
  have complete : s.readSetComplete [id, hire, last, bytes] =
      (v.queueRewrite.beginWrite.returnSequence (s.readResult [id, hire, last, bytes])).duplicateCheck.faultTakesRead := rfl
  rw [complete, still, begun]
  exact told.trans (State.tagReport_of_damaged damaged)

theorem State.readSetComplete_of_damagedFaults_outcome {id hire last bytes : List Byte} {i : IdSection} {h : HireSection}
    (hid : judgeId id = .good i) (hhire : judgeHire hire = .good h) (hmark : h.mark = .closed ∨ h.mark = .returned)
    (hfaults : judgeFaults bytes = .damaged) (hrequests : s.tag.requests = []) :
    let t := s.readSetComplete [id, hire, last, bytes]
    t.tag.operation =
        .write { contents := .faults [tagEntry], requester := .tagPort, ref := s.tag.nextRef } false false false
          s.clock.ms ∧
      t.faultsDamaged = true ∧ t.tag.requests = [] ∧ t.fault.tagMark = true ∧ t.fault.deferred = s.fault.deferred ∧
      t.dock = s.dock := by
  rw [State.readSetComplete_of_damagedFaults hid hhire hmark hfaults hrequests]
  have copy := s.copyTaken_copy id hire last bytes
  obtain ⟨d, fault⟩ :=
    State.duplicateCheck_fault ((s.copyTaken [id, hire, last, bytes]).writes (.faults [tagEntry]) .tagPort)
  refine ⟨?_, State.faultsDamaged_iff.2 ?_, ?_, ?_, ?_, ?_⟩
  · simp [State.writes, State.readHeld]
  · simp [State.writes, copy, hfaults, -State.copyTaken_frame]
  · simpa [State.writes, State.readHeld] using hrequests
  · simp
  · simp only [State.tagMarked_outcome, fault]
    simp [State.writes]
  · simp [State.writes]

/-! ### The rewrite's answer (R153) -/

/-- A FAULTS section requested while nothing is in progress or waiting is written at once, and counts from then on (R149). -/
theorem State.requestFaults_begins (entries : List FaultEntry) (hcopy : s.tag.copy.state = .held)
    (hop : s.tag.operation = .idle) (hrequests : s.tag.requests = []) :
    let t := s.requestFaults entries
    t.tag = (s.writes (.faults entries) .fault).tag ∧
      t.fault = { s.fault with writes := s.fault.writes ++ [{ ref := s.tag.nextRef, entries := entries }] } := by
  simp [State.requestFaults, State.requestWrite_idle _ _ s (.inl hcopy) hop hrequests, State.writes]

/-- The fault unit's most recent unanswered write is its working list (R149). -/
theorem State.workingList_of_write {entries : List FaultEntry} {writes : List FaultsWrite} {ref : Nat}
    (hdamaged : s.tag.copy.faults ≠ .damaged) (hwrites : s.fault.writes = writes ++ [{ ref := ref, entries := entries }]) :
    s.workingList = entries := by
  simp [State.workingList, State.faultsDamaged_of_copy hdamaged, hwrites]

/-- With no write unanswered the copy is the working list. -/
theorem State.workingList_of_copy {entries : List FaultEntry} (hheld : s.tag.copy.state = .held)
    (hfaults : s.tag.copy.faults = .good entries) (hwrites : s.fault.writes = []) : s.workingList = entries := by
  have good : s.faultsDamaged = false := State.faultsDamaged_of_copy (by simp [hfaults])
  simp [State.workingList, good, State.copyFaults, hheld, hfaults, hwrites]

/-- The rewrite WRITTEN: the copy has the entry, and the deferred changes have been taken off the fault unit's hands. -/
def State.rewritten (s : State) : State :=
  let u := (s.tagWritten (.faults [tagEntry])).evaluateSince s
  { u with fault := { u.fault with deferred := [] } }

theorem State.rewritten_outcome (s : State) :
    s.rewritten.tag =
        { s.tag with operation := .idle, copy := { s.tag.copy with faults := .good [tagEntry] } } ∧
      s.rewritten.fault = { s.fault with deferred := [] } ∧ s.rewritten.clock = s.clock := by
  simp [State.rewritten, State.tagWritten, TagCopy.written]

/-- The deferred changes go onto the rewritten list as one write. -/
theorem State.finishWrite_of_rewrite {ref : Nat} (h : s.faultsDamaged = true) (hwrites : s.fault.writes = []) :
    s.finishWrite { contents := .faults [tagEntry], requester := .tagPort, ref := ref } .written =
      State.beginWrite
        ((applyDeferred [tagEntry] s.fault.deferred).elim s.rewritten fun entries => s.rewritten.requestFaults entries) := by
  let u := (s.tagWritten (.faults [tagEntry])).evaluateSince s
  obtain ⟨held, _⟩ := State.faultsDamaged_iff.1 h
  obtain ⟨tag, fault, _⟩ := s.rewritten_outcome
  have list : s.rewritten.workingList = [tagEntry] :=
    State.workingList_of_copy (by simpa [tag] using held) (by simp [tag]) (by simpa [fault] using hwrites)
  have changes : u.fault.deferred = s.fault.deferred := by simp [u, State.tagWritten]
  have answered : u.rewriteAnswered true =
      (applyDeferred s.rewritten.workingList u.fault.deferred).elim s.rewritten fun entries =>
        s.rewritten.requestFaults entries := by
    simp only [State.rewriteAnswered, if_true]
    show _ = (applyDeferred (State.workingList { u with fault := { u.fault with deferred := [] } })
      u.fault.deferred).elim _ _
    split <;> rename_i heq <;> rw [heq] <;> rfl
  rw [State.finishWrite_of_written, State.copyWritten_tagIdled]
  show (u.rewriteAnswered true).beginWrite = _
  rw [answered, list, changes]

/-- A deferred entry is written behind the TAG entry, which the copy has by then. -/
theorem State.finishWrite_of_rewrite_add {ref : Nat} {e : FaultEntry} (h : s.faultsDamaged = true)
    (hrequests : s.tag.requests = []) (hwrites : s.fault.writes = []) (hdeferred : s.fault.deferred = [.add e]) :
    let t := s.finishWrite { contents := .faults [tagEntry], requester := .tagPort, ref := ref } .written
    t.tag.copy.faults = .good [tagEntry] ∧ t.fault.deferred = [] ∧ t.workingList = [tagEntry, e] ∧
      t.tag.operation =
        .write { contents := .faults [tagEntry, e], requester := .fault, ref := s.tag.nextRef } false false false
          s.clock.ms := by
  obtain ⟨held, _⟩ := State.faultsDamaged_iff.1 h
  obtain ⟨tag, fault, clock⟩ := s.rewritten_outcome
  have changed : applyDeferred [tagEntry] [.add e] = some [tagEntry, e] := rfl
  obtain ⟨writing, counted⟩ := State.requestFaults_begins (s := s.rewritten) [tagEntry, e] (by simpa [tag] using held)
    (by simp [tag]) (by simpa [tag] using hrequests)
  have busy : (s.rewritten.requestFaults [tagEntry, e]).beginWrite = s.rewritten.requestFaults [tagEntry, e] :=
    State.beginWrite_of_busy (by simp [writing, State.writes])
  rw [State.finishWrite_of_rewrite h hwrites, hdeferred, changed, Option.elim_some, busy]
  have copied : (s.rewritten.requestFaults [tagEntry, e]).tag.copy.faults = .good [tagEntry] := by simp [tag]
  refine ⟨copied, by simp [fault], State.workingList_of_write (by rw [copied]; simp) (by rw [counted]), ?_⟩
  simp [writing, State.writes, tag, clock]

/-- Without a deferred change the tag port is at rest after the rewrite. -/
theorem State.finishWrite_of_rewrite_alone {ref : Nat} (h : s.faultsDamaged = true) (hrequests : s.tag.requests = [])
    (hwrites : s.fault.writes = []) (hdeferred : s.fault.deferred = []) :
    s.finishWrite { contents := .faults [tagEntry], requester := .tagPort, ref := ref } .written = s.rewritten := by
  obtain ⟨tag, _⟩ := s.rewritten_outcome
  have unchanged : applyDeferred [tagEntry] [] = none := rfl
  rw [State.finishWrite_of_rewrite h hwrites, hdeferred, unchanged, Option.elim_none]
  exact State.beginWrite_of_none (by simpa [tag] using hrequests)

/-- A rewrite that fails discards the deferred changes, and asks for no TAG entry. -/
theorem State.finishWrite_of_failedRewrite {ref : Nat} (hrequests : s.tag.requests = []) :
    let t := s.finishWrite { contents := .faults [tagEntry], requester := .tagPort, ref := ref } .mismatch
    t.tag = { s.tag with operation := .idle } ∧ t.fault = { s.fault with tagMark := true, deferred := [] } := by
  have told : s.tagIdled.tagReport true = s.tagIdled.tagMarked :=
    State.askTagEntry_of_none (s := s.tagIdled.tagMarked) (.inr (.inl rfl))
  rw [State.finishWrite_of_failed (by simp)]
  show (State.rewriteAnswered false (s.tagIdled.tagReport true)).beginWrite.tag = _ ∧
    (State.rewriteAnswered false (s.tagIdled.tagReport true)).beginWrite.fault = _
  rw [told, State.beginWrite_of_none (by simpa [State.rewriteAnswered] using hrequests)]
  simp [State.rewriteAnswered]

end

theorem damagedFaultsAreRewritten : Claims.DamagedFaultsAreRewritten := by
  intro bytes s issued _ entry
  have hentry : entry = tagEntry := rfl
  clear_value entry
  subst hentry
  refine ⟨fun id hire last startUp i h hop hid hhire hmark hfaults hrequests hdocked => ?_,
    fun change hdamaged hpending => ?_, fun ref second hdamaged hrequests hwrites hop => ?_⟩
  · obtain ⟨operation, damaged, requests, mark, deferred, dock⟩ := State.readSetComplete_of_damagedFaults_outcome
      (s := s.reachMs (issued + 15)) (last := last) hid hhire hmark hfaults (by simpa using hrequests)
    obtain ⟨held, faults⟩ := State.faultsDamaged_iff.1 damaged
    refine completes_of_answer (exec_sectionReadComplete_of_fourth hop) ⟨?_, ?_, ?_, ?_, ?_, ?_, ?_⟩
    · simp only [conclude_frame, operation, State.reachMs_frame]
    · simp only [conclude_frame, held]
    · simp only [conclude_frame, faults]
    · simp only [conclude_frame, requests]
    · simp only [conclude_frame, mark]
    · simp only [conclude_frame, deferred, State.reachMs_frame]
    · refine State.bikeLevel_of_damaged ?_ (State.faultsDamaged_iff.2 ?_) ?_
      · simpa only [conclude_frame, dock, State.reachMs_frame] using hdocked
      · simp only [conclude_frame, held, faults, and_self]
      · simp only [conclude_frame, mark]
  · simp [State.changeFaults, hdamaged, hpending]
  · have damaged : (s.reachMs (issued + 15)).faultsDamaged = true :=
      State.faultsDamaged_iff.2 (by simpa using State.faultsDamaged_iff.1 hdamaged)
    have step := exec_sectionReadComplete_of_readBack (bytes := bytes) hop
    refine ⟨fun e hbytes hdeferred => ?_, fun hbytes hdeferred => ?_, fun hbytes hsecond => ?_⟩
    · obtain ⟨copied, deferred, list, operation⟩ := State.finishWrite_of_rewrite_add (s := s.reachMs (issued + 15))
        (ref := ref) damaged (by simpa using hrequests) (by simpa using hwrites) (by simpa using hdeferred)
      rw [State.sectionRead_written hop hbytes] at step
      refine completes_of_answer step ⟨?_, ?_, ?_, ?_⟩
      · simpa only [conclude_frame] using copied
      · simpa only [conclude_frame] using deferred
      · exact (State.workingList_congr (by simp only [conclude_frame]) (by simp only [conclude_frame])).trans list
      · simpa only [conclude_frame, State.reachMs_frame] using operation
    · obtain ⟨tag, fault, _⟩ := State.rewritten_outcome (s.reachMs (issued + 15))
      rw [State.sectionRead_written hop hbytes] at step
      refine completes_of_answer (step.trans (congrArg answerNext (State.finishWrite_of_rewrite_alone damaged
        (by simpa using hrequests) (by simpa using hwrites) (by simpa using hdeferred)))) ⟨?_, ?_, ?_⟩
      · simp only [conclude_frame, tag]
      · simp only [conclude_frame, tag]
      · simp only [conclude_frame, fault]
    · subst hsecond
      obtain ⟨tag, fault⟩ := State.finishWrite_of_failedRewrite (s := s.reachMs (issued + 15)) (ref := ref)
        (by simpa using hrequests)
      rw [State.sectionRead_mismatch hop hbytes] at step
      refine completes_of_answer step ⟨?_, ?_, ?_, ?_⟩
      · simp only [conclude_frame, tag, State.reachMs_frame]
      · simp only [conclude_frame, fault]
      · simp only [conclude_frame, fault]
      · simp only [conclude_frame, tag]

/-- Settles O44: each return that no slot takes, and the rewrite of FAULTS with its answer. -/
theorem returnsByTheSections : Obligations.ReturnsByTheSections :=
  ⟨vanTakenBikeIsClosed, damagedTagIsSettledAtOnce, silentReadSetIsSettledAtOnce, returnWithoutASlotIsUnrated,
    damagedFaultsAreRewritten⟩

end Sys2Proof.Machine
end

section
/-! The member view (R92 to R98): what a search finds after a use, what an insertion keeps of a full view, and the day spend
read by its day. -/

namespace Sys2Proof.Machine

/-! ### Uses and searches (R92, R94) -/

/-- A use leaves the entry to be found (R94). -/
theorem MemberView.find_use (v : MemberView) (e : ViewEntry) : (v.use e).find e.member = some e := by
  have gone : (v.entries.filter (fun x => decide (x.member ≠ e.member))).find? (fun x => decide (x.member = e.member)) =
      none := by
    simp [List.find?_eq_none]
  rw [MemberView.find, MemberView.use, List.find?_append, gone]
  simp

/-- A list within its bound gives up its oldest element when it is full, and none before. -/
theorem drop_to_room {α : Type} {l : List α} {n : Nat} (h : l.length ≤ n) :
    l.drop (l.length + 1 - n) = if l.length = n then l.drop 1 else l := by
  split
  · rename_i hfull
    rw [show l.length + 1 - n = 1 by omega]
  · rw [show l.length + 1 - n = 0 by omega, List.drop_zero]

/-- An entry inserted whole is the most recently used, and the least recently used of 256 goes first (R92, R93). -/
theorem MemberView.put_eq {v : MemberView} (h : v.entries.length ≤ 256) (e : ViewEntry) :
    let others := v.entries.filter (fun x => decide (x.member ≠ e.member))
    v.put e = { v with entries := (if others.length = 256 then others.drop 1 else others) ++ [e] } := by
  intro others
  have hlen : others.length ≤ 256 := (List.length_filter_le _ _).trans h
  rw [← drop_to_room hlen]
  rfl

/-! ### The day spend and the card reading (R95, R96, R115) -/

section
variable {s : State} {e : ViewEntry} {member : Nat}

theorem State.daySpend_of_stored (h : s.time.quality = .unset ∨ s.today ≤ e.day) : s.daySpend e = e.spend := by
  rcases h with h | h <;> simp [State.daySpend, State.timeUnset, h]

theorem State.daySpend_of_set (h : s.timeUnset = false) : s.daySpend e = if s.today ≤ e.day then e.spend else 0 := by
  simp [State.daySpend, h]

theorem State.daySpend_of_past (hset : s.time.quality ≠ .unset) (h : e.day < s.today) : s.daySpend e = 0 := by
  rw [State.daySpend_of_set (by simpa [State.timeUnset] using hset), if_neg (by omega)]

/-- The answer of an entry as it is read on a day (R95, R96). -/
def ViewEntry.answerOn (e : ViewEntry) (today : Nat) : Answer :=
  { status := e.status, plan := e.plan, allowance := e.allowance, bikesOut := e.bikesOut
    spend := if today ≤ e.day then e.spend else 0, minSequence := e.minSequence, unverified := false }

theorem State.answerOf_of_set (h : s.timeUnset = false) : s.answerOf e = e.answerOn s.today := by
  simp only [State.answerOf, State.daySpend_of_set h, ViewEntry.answerOn]

/-- Without the time no entry is known (R95). -/
theorem State.cardReading_unset (h : s.timeUnset = true) : s.cardReading member = (s, none) := if_pos h

/-- A member without an entry is not known, and the reading is no use (R95). -/
theorem State.cardReading_of_none (h : s.view.find member = none) : s.cardReading member = (s, none) := by
  simp [State.cardReading, h]

/-- A reading that finds an entry is a use of it, and answers from it unless it is stale (R95). -/
theorem State.cardReading_of_entry (htime : s.timeUnset = false) (h : s.view.find member = some e) :
    s.cardReading member =
      ({ s with view := s.view.use e }, if s.stale e then none else some (s.answerOf e)) := by
  simp [State.cardReading, htime, h]

/-- The answer of a reading carries the day spend as read. -/
theorem State.cardReading_spend {a : Answer} (ha : (s.cardReading member).2 = some a) (h : s.view.find member = some e) :
    a.spend = s.daySpend e := by
  cases htime : s.timeUnset
  · rw [State.cardReading_of_entry htime h] at ha
    dsimp only at ha
    split at ha
    · cases ha
    · obtain rfl := Option.some.inj ha
      rfl
  · rw [State.cardReading_unset htime] at ha
    cases ha

/-- An OPEN write on a verified answer carries the day spend of the entry as read (R115). -/
theorem State.openSpend_of_entry {a : Answer} (h : s.view.find member = some e) (ha : a.unverified = false) :
    s.openSpend member a = s.daySpend e := by
  simp [State.openSpend, ha, h]

end

/-- Settles O56: R96 by its cases, and its two readers. -/
theorem daySpendIsReadByTheDay : Obligations.DaySpendIsReadByTheDay := by
  intro s e
  refine ⟨State.daySpend_of_stored, State.daySpend_of_past, fun a => State.cardReading_spend, fun h hset => ?_,
    fun a => State.openSpend_of_entry⟩
  rw [State.cardReading_of_entry (by simpa [State.timeUnset] using hset) h]
  exact s.view.find_use e

end Sys2Proof.Machine
end

section
/-! A card's checks and the claim they end in (R107 to R112), and the end of a lookup (R101, R109). -/

namespace Sys2Proof.Machine

/-! ### The checks (R107, R108) -/

section
variable {s t : State} {card : CardRecord} {a : Answer} {h : HireRecord}

/-- Checks 2 to 5 of R107 pass. -/
structure State.MayHire (s : State) : Prop where
  time : s.timeUnset = false
  station : s.peers.adoptedId ≠ 0
  clash : s.line.clash = false
  docked : s.dock.docked = true
  condition : s.tagCondition = true
  bike : s.bikeLevel < 2
  hold : s.van.hold = false
  post : s.postLevel < 2

theorem State.MayHire.postChecks (m : s.MayHire) : s.postChecks = none := by
  have bike : s.bikeLevel ≠ 2 := Nat.ne_of_lt m.bike
  have post : s.postLevel ≠ 2 := Nat.ne_of_lt m.post
  simp [State.postChecks, m.time, m.station, m.clash, m.docked, m.condition, bike, m.hold, post]

/-- Checks 6, 7 and 9 pass. -/
theorem State.memberChecks_pass (hexpiry : s.today ≤ card.expiryDay) (hsequence : a.minSequence ≤ card.sequence)
    (hgood : a.status = .good) (hout : a.bikesOut < a.allowance) : s.memberChecks card a = none := by
  simp [State.memberChecks, Nat.not_lt.2 hexpiry, Nat.not_lt.2 hsequence, hgood, Nat.not_le.2 hout]

/-! ### The claim (R112) -/

/-- A hire that claims with room in the queue: its CLM is queued, the answer is on its record, and it is CLAIMING. -/
def State.claimed (s : State) (h : HireRecord) (a : Answer) : State :=
  { s with
    line := { s.line with
      queue := insertEntry (s.newEntry .clm (clmBody h.card.member a.allowance)) s.line.queue
      nextRef := s.line.nextRef + 1 }
    hire := { s.hire with
      state := .claiming, record := some { h with answer := some a, clmRef := some s.line.nextRef } } }

theorem State.claimWith_room (hrecord : s.hire.record = some h) (hr : s.refusesOffer .clm = false)
    (hroom : s.line.queue.length < 8) : s.claimWith a = s.claimed h a := by
  simp only [State.claimWith, State.onRecord, hrecord, Option.map_some, State.claim]
  rw [State.offer_room .clm _ _ (by exact hr) (by simp) (by exact hroom)]
  rfl

/-- The CLM waits at the end of the step. -/
theorem State.claimed_queued (hrefs : ∀ e ∈ s.line.queue, e.ref < s.line.nextRef) :
    ∃ q ∈ (conclude (s.claimed h a)).line.queue,
      q.kind = .clm ∧ q.body = be4 h.card.member ++ be1 a.allowance ∧ q.ref = s.line.nextRef :=
  conclude_holds_new_body (s := s) (body := clmBody h.card.member a.allowance) rfl (by simp) hrefs

end

/-! ### The lookup's timer (R101, R109) -/

section
variable {s : State} {l : Lookup} {h : HireRecord}

/-- The lookup is over at its expiry. -/
def State.lookupOver (s : State) (l : Lookup) : State :=
  { s.reachMs l.expiresAt with view := { s.view with lookup := none } }

theorem exec_lookupTimerExpiry (hl : s.view.lookup = some l) (hstate : s.hire.state = .lookup) :
    exec .lookupTimerExpiry s = answerNext ((s.lookupOver l).lookupExpires l.card) := by
  show answerNext s.lookupDue = _
  simp only [State.lookupDue, hl, State.lookupOver, State.reachMs_frame, hstate, if_true]

/-- No offline admission: the card does not allow it, or time is UNSET, or the card has expired. -/
theorem State.lookupExpires_fails {card : CardRecord}
    (hfails : card.offline = false ∨ s.timeUnset = true ∨ card.expiryDay < s.today) :
    s.lookupExpires card = s.refuse 2 := by
  rw [State.lookupExpires, if_neg]
  simp only [Bool.and_eq_true, Bool.not_eq_true', decide_eq_true_eq]
  rintro ⟨⟨hoffline, hset⟩, hexpiry⟩
  rcases hfails with hfails | hfails | hfails
  · simp [hoffline] at hfails
  · simp [hset] at hfails
  · omega

/-- Offline admission (R101): checks 2 to 5 pass again, and the hire claims with the offline answer. -/
theorem State.lookupExpires_admits {card : CardRecord} (m : s.MayHire) (hoffline : card.offline = true)
    (hexpiry : s.today ≤ card.expiryDay) : s.lookupExpires card = s.claimWith (offlineAnswer card) := by
  simp [State.lookupExpires, hoffline, m.time, hexpiry, m.postChecks]

end

theorem lookupFails : Claims.LookupFails := by
  intro s l hl hstate r hfails
  have step := exec_lookupTimerExpiry hl hstate
  have unset : (s.lookupOver l).timeUnset = s.timeUnset := by simp [State.timeUnset, State.lookupOver]
  rw [State.lookupExpires_fails (by rw [unset]; exact hfails)] at step
  obtain ⟨hire, refusal, touches⟩ := (s.lookupOver l).refuse_outcome 2
  have ended : ({ view := true, hire := true, dock := true } : Touched).frame s (s.lookupOver l) := by
    simp [Touched.frame, State.lookupOver]
  refine completes_of_answer step
    ⟨?_, ?_, ?_, conclude_frame_of _ _ _ (ended.trans (touches.mono (by decide)))⟩
  · simp [State.lookupOver]
  · simp only [conclude_frame, hire]
    simp [State.lookupOver]
  · simp only [conclude_dock, refusal]
    rfl

theorem lookupAdmitsOffline : Claims.LookupAdmitsOffline := by
  intro s l h hl hstate hrecord hcard hpost hbarred hoffline htime hexpiry hid hclash hdocked hcondition hbike hhold hlevel
    hqueue
  obtain ⟨k, hk⟩ := s.reachMs_eq l.expiresAt
  have ended : s.lookupOver l = { s with clock := k, view := { s.view with lookup := none } } := by
    rw [State.lookupOver, hk]
  rw [hk] at hexpiry
  obtain ⟨v, hv⟩ : ∃ v, s.lookupOver l = v := ⟨_, rfl⟩
  have may : v.MayHire := by
    rw [← hv, ended]
    exact ⟨htime, hid, hclash, hdocked, hcondition, hbike, hhold, hlevel⟩
  have line : v.line = s.line := by rw [← hv, ended]
  have hire : v.hire = s.hire := by rw [← hv, ended]
  have view : v.view = { s.view with lookup := none } := by rw [← hv, ended]
  have sends : v.refusesOffer .clm = false := by
    rw [State.refusesOffer_congr (s := s) (by rw [← hv, ended]) (by rw [line])]
    exact State.refusesOffer_of_post hpost hbarred hclash
  have step := exec_lookupTimerExpiry hl hstate
  rw [hv, State.lookupExpires_admits may hoffline (by rw [← hv, ended]; exact hexpiry),
    State.claimWith_room (h := h) (by rw [hire]; exact hrecord) sends (by simp [line, hqueue])] at step
  obtain ⟨q, hq, hkind, hbody, href⟩ := State.claimed_queued (s := v) (h := h) (a := offlineAnswer l.card)
    (by simp [line, hqueue])
  refine completes_of_answer step ⟨?_, ?_, q, hq, hkind, by rw [href, line], by rw [hbody, hcard]; rfl⟩
  · simp [State.claimed, view]
  · simp [State.claimed, hire, line, offlineAnswer]

/-- Settles O49: the lookup's expiry by the offline admission. -/
theorem lookupsEnd : Obligations.LookupsEnd := ⟨lookupFails, lookupAdmitsOffline⟩

end Sys2Proof.Machine
end

section
/-! The claim list's age (R111) and the grant test at the end of a claim window (R113 to R115). -/

namespace Sys2Proof.Machine

/-! ### The grant test (R113) -/

section
variable {s : State} {a : Answer} {c : SentClaim} {member : Nat} {serial : BitVec 8}

/-- Tests 1, 3 and 4 of R113 pass. -/
structure State.MayGrant (s : State) : Prop where
  clash : s.line.clash = false
  condition : s.tagCondition = true
  bike : s.bikeLevel < 2
  post : s.postLevel < 2

/-- With the other tests passed, the count of bikes out and claims ahead decides. -/
theorem State.MayGrant.grantTest (m : s.MayGrant) (hopen : s.grantBlocked member a = false) :
    s.grantTest member serial a =
      if s.grantBikesOut member a + s.claimsAhead member serial < a.allowance then none else some 2 := by
  have bike : s.bikeLevel ≠ 2 := Nat.ne_of_lt m.bike
  have post : s.postLevel ≠ 2 := Nat.ne_of_lt m.post
  simp [State.grantTest, m.clash, hopen, m.condition, bike, post]

theorem State.grantTest_of_blocked (hclash : s.line.clash = false) (h : s.grantBlocked member a = true) :
    s.grantTest member serial a = some 2 := by
  simp [State.grantTest, hclash, h]

/-- The claims ahead are those before the own one. -/
theorem State.claimsAhead_of_own {before after : List Claim} {own : Claim}
    (hclaims : s.hire.claims = before ++ own :: after) (hclaimant : own.claimant = s.number) (hserial : own.serial = serial)
    (hbefore : ∀ x ∈ before, ¬ (x.claimant = s.number ∧ x.serial = serial)) :
    s.claimsAhead member serial = (before.filter (fun x => decide (x.member = member))).length := by
  rw [State.claimsAhead, hclaims, List.takeWhile_append_of_pos (fun x hx => by simpa [imp_iff_not_or] using hbefore x hx)]
  simp [hclaimant, hserial]

/-- Of a member without an entry the answer counts (R113). -/
theorem State.grant_of_none (h : s.view.find member = none) (ha : a.unverified = false) :
    s.grantBlocked member a = false ∧ s.grantBikesOut member a = a.bikesOut := by
  simp [State.grantBlocked, State.grantBikesOut, h, ha]

/-- Of a member the view holds the entry counts (R113). -/
theorem State.grant_of_entry {e : ViewEntry} (h : s.view.find member = some e) (ha : a.unverified = false) :
    s.grantBlocked member a = decide (e.status ≠ .good) ∧ s.grantBikesOut member a = e.bikesOut := by
  simp [State.grantBlocked, State.grantBikesOut, h, ha]

theorem State.openSpend_of_none (h : s.view.find member = none) (ha : a.unverified = false) :
    s.openSpend member a = a.spend := by
  simp [State.openSpend, h, ha]

end

/-! ### A refusal with its WDR (R113, R114) -/

section
variable {s : State} {h : HireRecord} {c : SentClaim}

theorem State.refuseWithdrawing_outcome (group : Nat) (s : State) :
    (s.refuseWithdrawing group).hire = { s.hire with state := .idle, record := none } ∧
      (s.refuseWithdrawing group).dock.refusal = some { flashes := group, endAt := s.clock.ms + 3000 } ∧
      (s.refuseWithdrawing group).tag = s.tag ∧ (s.refuseWithdrawing group).view = s.view := by
  obtain ⟨hire, refusal, _⟩ := s.withdrawClaim.refuse_outcome group
  refine ⟨hire.trans (by simp), refusal.trans (by simp), by simp, by simp⟩

/-- A member hire whose CLM was sent withdraws its claim by a WDR (R114). -/
theorem State.withdrawClaim_of_sent (hrecord : s.hire.record = some h) (hkind : h.kind = .member)
    (hclaim : h.claim = some c) :
    s.withdrawClaim = s.send .wdr (wdrBody c.serial h.card.member) := by
  obtain ⟨kind, card, _, _, claim, _, _, _, _, _, _, _⟩ := h
  obtain rfl : kind = .member := hkind
  obtain rfl : claim = some c := hclaim
  simp [State.withdrawClaim, hrecord, State.offerWdr]

/-- Without a window the WDR waits at the end of the step. -/
theorem State.refuseWithdrawing_queued (hrecord : s.hire.record = some h) (hkind : h.kind = .member)
    (hclaim : h.claim = some c) (hr : s.refusesOffer .wdr = false) (hroom : s.line.queue.length < 8)
    (hrefs : ∀ e ∈ s.line.queue, e.ref < s.line.nextRef) (hwindow : s.van.window = none) (group : Nat) :
    ∃ q ∈ (conclude (s.refuseWithdrawing group)).line.queue,
      q.kind = .wdr ∧ q.body = [c.serial] ++ be4 h.card.member := by
  have line : (s.refuseWithdrawing group).line = s.withdrawClaim.line :=
    State.hireIdle_line (s := s.withdrawClaim.showRefusal group) (by simpa using hwindow)
  rw [State.withdrawClaim_of_sent hrecord hkind hclaim, State.send_room hr (by simp) hroom] at line
  obtain ⟨q, hq, kind, body, _⟩ := conclude_holds_new_body (s := s) (u := s.refuseWithdrawing group)
    (congrArg Line.queue line) (by simp) hrefs
  exact ⟨q, hq, kind, body⟩

end

/-! ### The claim window's end (R112, R113, R115) -/

section
variable {s : State} {due : Ms} {h : HireRecord} {a : Answer} {c : SentClaim}

theorem State.claimWindowEnds_of_refused {group : Nat} (hrecord : s.hire.record = some h) (ha : h.answer = some a)
    (hc : h.claim = some c) (htest : s.grantTest h.card.member c.serial a = some group) :
    s.claimWindowEnds = s.refuseWithdrawing group := by
  obtain ⟨kind, card, answer, _, claim, _, _, _, _, _, _, _⟩ := h
  obtain rfl : answer = some a := ha
  obtain rfl : claim = some c := hc
  simp only [State.claimWindowEnds, hrecord, htest]

theorem State.claimWindowEnds_of_granted (hrecord : s.hire.record = some h) (ha : h.answer = some a) (hc : h.claim = some c)
    (htest : s.grantTest h.card.member c.serial a = none) :
    s.claimWindowEnds = s.requestHireWrite (s.openSection h.card.member a) s.rideSummary := by
  obtain ⟨kind, card, answer, _, claim, _, _, _, _, _, _, _⟩ := h
  obtain rfl : answer = some a := ha
  obtain rfl : claim = some c := hc
  simp only [State.claimWindowEnds, hrecord, htest]

/-- A member hire in CLAIMING with an answer, whose claim was sent and whose window runs. -/
structure State.ClaimEnds (s : State) (due : Ms) (h : HireRecord) (a : Answer) (c : SentClaim) : Prop where
  state : s.hire.state = .claiming
  record : s.hire.record = some h
  kind : h.kind = .member
  window : h.windowAt = some due
  answer : h.answer = some a
  claim : h.claim = some c

/-- The claim window is over, and the hire is granted or refused. -/
def State.windowOver (s : State) (due : Ms) (h : HireRecord) : State :=
  { s.reachMs due with hire := { s.hire with record := some { h with windowAt := none } } }

@[simp] theorem State.windowOver_frame (s : State) (due : Ms) (h : HireRecord) :
    (s.windowOver due h).straps = s.straps ∧ (s.windowOver due h).line = s.line ∧
      (s.windowOver due h).peers = s.peers ∧ (s.windowOver due h).time = s.time ∧ (s.windowOver due h).tag = s.tag ∧
      (s.windowOver due h).view = s.view ∧ (s.windowOver due h).van = s.van ∧
      (s.windowOver due h).clock = (s.reachMs due).clock := by
  simp [State.windowOver]

/-- The grant test reads neither the clock nor the hire record. -/
theorem State.windowOver_grantTest {member : Nat} {serial : BitVec 8} :
    (s.windowOver due h).grantTest member serial a = s.grantTest member serial a := by
  obtain ⟨k, hk⟩ := s.reachMs_eq due
  rw [State.windowOver, hk]
  rfl

theorem State.ClaimEnds.step (k : s.ClaimEnds due h a c) :
    exec .claimWindowExpiry s = answerNext (s.windowOver due h).claimWindowEnds := by
  have timer : s.claimWindow = some due := by simp [State.claimWindow, k.state, k.record, k.window]
  have ended : (s.reachMs due).onRecord (fun r => { r with windowAt := none }) = s.windowOver due h := by
    simp [State.onRecord, State.windowOver, k.record]
  refine congrArg answerNext ?_
  simp only [timer, ended]

/-- A failed grant test ends the hire with its refusal group, and leaves the tag port and the view. -/
theorem State.ClaimEnds.refused (k : s.ClaimEnds due h a c) {group : Nat}
    (htest : s.grantTest h.card.member c.serial a = some group) :
    exec .claimWindowExpiry s = answerNext ((s.windowOver due h).refuseWithdrawing group) ∧
      let t := conclude ((s.windowOver due h).refuseWithdrawing group)
      t.hire = { s.hire with state := .idle, record := none } ∧ t.tag = s.tag ∧ t.view = s.view ∧
        t.dock.refusal = some { flashes := group, endAt := (s.reachMs due).clock.ms + 3000 } := by
  have step := k.step
  rw [State.claimWindowEnds_of_refused (h := { h with windowAt := none }) rfl k.answer k.claim
    (State.windowOver_grantTest.trans htest)] at step
  obtain ⟨hire, refusal, tag, view⟩ := (s.windowOver due h).refuseWithdrawing_outcome group
  refine ⟨step, ?_, ?_, ?_, ?_⟩
  · simp only [conclude_frame, hire]
    rfl
  · simp only [conclude_frame, tag, State.windowOver_frame]
  · simp only [conclude_frame, view, State.windowOver_frame]
  · simp only [conclude_dock, refusal, State.windowOver_frame]

/-- A granted hire whose HIRE write begins at once (R115). -/
def State.granted (s : State) (due : Ms) (h : HireRecord) (a : Answer) : State :=
  { s.windowOver due h with
    hire := { s.hire with
      state := .tagging
      record := some
        { h with
          windowAt := none, prior := s.copyHire, bike := s.copyId
          written := some ((s.windowOver due h).openSection h.card.member a)
          summary := (s.windowOver due h).rideSummary, writeRef := some s.tag.nextRef } }
    tag := { s.tag with
      operation :=
        .write
          { contents := .hire ((s.windowOver due h).openSection h.card.member a), requester := .hire
            ref := s.tag.nextRef } false false false (s.reachMs due).clock.ms
      nextRef := s.tag.nextRef + 1 } }

theorem State.ClaimEnds.granted (k : s.ClaimEnds due h a c) (htest : s.grantTest h.card.member c.serial a = none)
    (hheld : s.tag.copy.state = .held) (hop : s.tag.operation = .idle) (hrequests : s.tag.requests = []) :
    exec .claimWindowExpiry s = answerNext (s.granted due h a) := by
  have copyId : (s.windowOver due h).copyId = s.copyId := by simp only [State.copyId, State.windowOver_frame]
  have copyHire : (s.windowOver due h).copyHire = s.copyHire := by simp only [State.copyHire, State.windowOver_frame]
  have step := k.step
  rw [State.claimWindowEnds_of_granted (h := { h with windowAt := none }) rfl k.answer k.claim
    (State.windowOver_grantTest.trans htest),
    State.requestHireWrite_idle (h := { h with windowAt := none }) _ _ rfl (by simpa using hheld) (by simpa using hop)
      (by simpa using hrequests), copyId, copyHire] at step
  rw [step]
  simp [State.granted, State.windowOver]

end

theorem oldestClaimAges : Claims.OldestClaimAges := by
  intro s c rest hclaims
  show answerNext _ = answerNext _
  simp [hclaims]

theorem grantTestDecidesTheClaim : Claims.GrantTestDecidesTheClaim := by
  intro s due h a c before after own prior i hpost hstate hrecord hkind hwindow hanswer hclaim hverified hclaims hclaimant
    hserial hbefore hnone hclash hid hhire hmark hbike hlevel hrequests hop r ahead written
  have k : s.ClaimEnds due h a c := ⟨hstate, hrecord, hkind, hwindow, hanswer, hclaim⟩
  have may : s.MayGrant := ⟨hclash, State.tagCondition_iff.2 ⟨i, prior, hid, hhire, hmark⟩, hbike, hlevel⟩
  obtain ⟨notBlocked, bikesOut⟩ := State.grant_of_none hnone hverified
  have test := may.grantTest (serial := c.serial) notBlocked
  rw [bikesOut, State.claimsAhead_of_own hclaims hclaimant hserial hbefore] at test
  refine ⟨fun hbelow => ?_, fun habove hroom hbarred hclosed hrefs => ?_⟩
  · rw [if_pos hbelow] at test
    have spend : (s.windowOver due h).openSpend h.card.member a = a.spend :=
      State.openSpend_of_none (by simpa using hnone) hverified
    have opens : (s.windowOver due h).openSection h.card.member a = written := by
      simp only [State.openSection, spend, hverified, State.windowOver_frame, State.number, written]
      rfl
    refine completes_of_answer (k.granted test (State.copyId_eq_some_iff.1 hid).1 hop hrequests) ?_
    simp [State.granted, opens, hid, hhire, hclaim, r]
  · rw [if_neg (Nat.not_lt.2 habove)] at test
    obtain ⟨step, hire, tag, _, refusal⟩ := k.refused test
    have sends : (s.windowOver due h).refusesOffer .wdr = false :=
      State.refusesOffer_of_post (by simpa using hpost) (by simpa [State.barred] using hbarred) (by simpa using hclash)
    exact completes_of_answer step ⟨hire, tag, refusal,
      State.refuseWithdrawing_queued (h := { h with windowAt := none }) rfl hkind hclaim sends (by simpa using hroom)
        (by simpa using hrefs) (by simpa using hclosed) 2⟩

theorem grantTestReadsTheView : Claims.GrantTestReadsTheView := by
  intro s due h a c e prior i _ hstate hrecord hkind hwindow hanswer hclaim hverified hfirst hentry hclash hid hhire
    hmark hbike hlevel hrequests hop htime r
  have k : s.ClaimEnds due h a c := ⟨hstate, hrecord, hkind, hwindow, hanswer, hclaim⟩
  have may : s.MayGrant := ⟨hclash, State.tagCondition_iff.2 ⟨i, prior, hid, hhire, hmark⟩, hbike, hlevel⟩
  obtain ⟨own, after, hclaims, hclaimant, hserial⟩ : ∃ own after,
      s.hire.claims = [] ++ own :: after ∧ own.claimant = s.number ∧ own.serial = c.serial := by
    cases hlist : s.hire.claims with
    | nil => simp [hlist] at hfirst
    | cons own after => exact ⟨own, after, rfl, by simpa [hlist] using hfirst⟩
  have first : s.claimsAhead h.card.member c.serial = 0 := State.claimsAhead_of_own hclaims hclaimant hserial (by simp)
  obtain ⟨blocked, bikesOut⟩ := State.grant_of_entry hentry hverified
  have test (hgood : e.status = .good) := may.grantTest (serial := c.serial) (blocked.trans (by simp [hgood]))
  simp only [bikesOut, first, Nat.add_zero] at test
  refine ⟨fun hfails => ?_, fun hgood hbelow => ?_⟩
  · have fails : s.grantTest h.card.member c.serial a = some 2 := by
      by_cases hgood : e.status = .good
      · rw [test hgood, if_neg (Nat.not_lt.2 (hfails.resolve_left (not_not_intro hgood)))]
      · exact State.grantTest_of_blocked hclash (blocked.trans (by simp [hgood]))
    obtain ⟨step, ended⟩ := k.refused fails
    exact completes_of_answer step ended
  · have passes := test hgood
    rw [if_pos hbelow] at passes
    have spend : (s.windowOver due h).openSpend h.card.member a = if r.today ≤ e.day then e.spend else 0 :=
      (State.openSpend_of_entry (by simpa using hentry) hverified).trans
        (State.daySpend_of_set (by simpa [State.timeUnset] using htime))
    refine completes_of_answer (k.granted passes (State.copyId_eq_some_iff.1 hid).1 hop hrequests)
      ⟨by simp [State.granted], by simp [State.granted],
        (s.windowOver due h).openSection h.card.member a, rfl, rfl, rfl, rfl, spend, by simp [State.granted, r]⟩

/-- Settles O50: the claim list's age, and the grant test by the answer or by the view's entry. -/
theorem claimsAgeAndAreGranted : Obligations.ClaimsAgeAndAreGranted :=
  ⟨oldestClaimAges, grantTestDecidesTheClaim, grantTestReadsTheView⟩

end Sys2Proof.Machine
end

section
/-! The card port (R88 to R91): the record assembler by its state, and the end of an unreadable record. -/

namespace Sys2Proof.Machine

/-! ### The record assembler (R61, R88, R89) -/

section
variable {s : State} {c : CardChar}

/-- Every character restarts the gap timer, and a framing error leaves the decoder waiting for the idle level (R88). -/
def State.cardTimed (s : State) (c : CardChar) : State :=
  { s with card := { s.card with gapAt := some (s.clock.ms + 5), waitsIdle := !c.stopIdle } }

theorem exec_cardCharacter {u : State} (hpost : s.isPost = true) (hu : (s.cardTimed c).assemble c = u) :
    exec (.cardCharacter c) s = .next (conclude u) := by
  rw [← hu]
  show answerNext _ = _
  rw [if_pos hpost]
  rfl

/-- A character has no error, or its first one (R88). -/
theorem cardCharError_eq (c : CardChar) :
    cardCharError c =
      if c.stopIdle = true ∧ parityError c = false then none
      else some (if c.stopIdle = false then .framing else .parity) := by
  cases hstop : c.stopIdle <;> cases hparity : parityError c <;> simp [cardCharError, hstop, hparity]

/-- A record not yet begun or begun takes a good character. -/
theorem State.assemble_good (h : s.card.assembler = .idle ∨ s.card.assembler = .collecting)
    (hstop : c.stopIdle = true) (hparity : parityError c = false) : s.assemble c = s.collectCharacter c.data := by
  rcases h with h | h <;> simp [State.assemble, h, cardCharError_eq, hstop, hparity]

/-- An error voids a record not yet begun or begun. -/
theorem State.assemble_error (h : s.card.assembler = .idle ∨ s.card.assembler = .collecting)
    (herror : c.stopIdle = false ∨ parityError c = true) :
    s.assemble c = s.voidRecord (if c.stopIdle = false then .framing else .parity) := by
  have bad : ¬ (c.stopIdle = true ∧ parityError c = false) := by
    rintro ⟨hstop, hparity⟩
    rcases herror with herror | herror <;> simp_all
  rcases h with h | h <;> simp only [State.assemble, h, cardCharError_eq, if_neg bad]

theorem State.assemble_complete (h : s.card.assembler = .complete) :
    s.assemble c = (s.voidRecord .overrun).consume .card := by
  simp [State.assemble, h]

theorem State.assemble_void (h : s.card.assembler = .void) : s.assemble c = s := by simp [State.assemble, h]

end

theorem cardCharactersAreAssembled : Claims.CardCharactersAreAssembled := by
  intro c s hpost timed
  refine ⟨fun hstop hparity hstate hlen => ?_, fun hstop hparity hstate hlen => ?_, fun herror hstate => ?_,
    fun hstate => ?_, fun hstate => ?_⟩ <;> refine exec_cardCharacter hpost ?_
  · rw [State.assemble_good (s := s.cardTimed c) hstate hstop hparity, State.collectCharacter,
      if_neg (by simpa [State.cardTimed] using hlen)]
    rfl
  · rw [State.assemble_good (s := s.cardTimed c) hstate hstop hparity, State.collectCharacter,
      if_pos (by simpa [State.cardTimed] using hlen)]
    cases hpressed : s.dock.pressed <;> cases hpressAt : s.dock.pressAt <;>
      simp only [State.stamp, State.buttonHeld, State.cardTimed, hpressed, hpressAt] <;> rfl
  · rw [State.assemble_error (s := s.cardTimed c) hstate herror]
    rfl
  · rw [State.assemble_complete (s := s.cardTimed c) hstate]
    rfl
  · rw [State.assemble_void (s := s.cardTimed c) hstate]
    rfl

/-! ### An unreadable record (R90, R91, R105) -/

section
variable {s : State} {due : Ms}

/-- The record gap finds a record that cannot be read: it is short or void, or does not judge good. -/
def CardPort.unreadable (p : CardPort) : Prop :=
  p.assembler = .collecting ∨ p.assembler = .void ∨
    (p.assembler = .complete ∧ ∃ reason, cardRecordOf p.chars = .error reason)

/-- The state in which an unreadable record is counted: the assembler rests, and of the other blocks the timebase alone
may have lost the capture of a complete record. -/
structure State.GapPassed (u s : State) (due : Ms) : Prop where
  card : u.card =
    { s.card with assembler := .idle, voidReason := none, chars := [], gapAt := none, captureHeld := false }
  clock : u.clock = (s.reachMs due).clock
  dock : u.dock = s.dock
  fault : u.fault = s.fault
  hire : u.hire = s.hire
  touches : ({ card := true, time := true } : Touched).frame s u

theorem CardPort.unreadable.step (h : s.card.unreadable) (hgap : s.card.gapAt = some due) :
    ∃ u : State, exec .recordGap s = answerNext u.recordUnreadable ∧ u.GapPassed s due := by
  have rests : (s.reachMs due).assemblerIdle.GapPassed s due := by
    constructor <;> simp [State.assemblerIdle, Touched.frame]
  have consumed : ((s.reachMs due).assemblerIdle.consume .card).GapPassed s due := by
    constructor <;> simp [State.assemblerIdle, Touched.frame]
  have step : exec .recordGap s = answerNext (s.reachMs due).recordEnds := by
    refine congrArg answerNext ?_
    simp only [hgap]
  rcases h with h | h | ⟨h, reason, hreason⟩
  · exact ⟨_, by simp only [step, State.recordEnds, State.reachMs_frame, h], rests⟩
  · exact ⟨_, by simp only [step, State.recordEnds, State.reachMs_frame, h], rests⟩
  · exact ⟨_, by simp only [step, State.recordEnds, State.reachMs_frame, h, hreason], consumed⟩

/-- "Card unreadable" asks an IDLE post for the display of group 1, and nothing else (R105). -/
theorem State.takeUnreadable_outcome (s : State) :
    s.takeUnreadable.fault = s.fault ∧ s.takeUnreadable.card = s.card ∧ s.takeUnreadable.hire = s.hire ∧
      (s.hire.state = .idle → s.dock.selfTest = none →
        s.takeUnreadable.dock.refusal = some { flashes := 1, endAt := s.clock.ms + 3000 }) ∧
      ({ dock := true } : Touched).frame s s.takeUnreadable := by
  refine ⟨by simp, by simp, by simp, fun hidle htest => ?_, by simp [Touched.frame]⟩
  simp [State.takeUnreadable, hidle, htest]

/-- An unreadable record is counted, to 8 at most (R91). -/
def State.recordCounted (s : State) : State :=
  { s with card := { s.card with unreadableRun := min (s.card.unreadableRun + 1) 8 } }

/-- The eighth unreadable record in a row raises READER, and every one is told to the hire controller (R91). -/
theorem State.recordUnreadable_eq (s : State) :
    s.recordUnreadable =
      (if 7 ≤ s.card.unreadableRun then s.recordCounted.raisePost .reader else s.recordCounted).takeUnreadable := by
  have eighth : min (s.card.unreadableRun + 1) 8 = 8 ↔ 7 ≤ s.card.unreadableRun := by omega
  simp only [State.recordUnreadable, State.recordCounted, eighth]

theorem State.recordUnreadable_outcome (hpost : s.isPost = true) :
    s.recordUnreadable.card = { s.card with unreadableRun := min (s.card.unreadableRun + 1) 8 } ∧
      (7 ≤ s.card.unreadableRun → .reader ∈ s.recordUnreadable.fault.raised) ∧
      (s.card.unreadableRun < 7 → s.recordUnreadable.fault = s.fault) ∧ s.recordUnreadable.hire = s.hire ∧
      (s.hire.state = .idle → s.dock.selfTest = none →
        s.recordUnreadable.dock.refusal = some { flashes := 1, endAt := s.clock.ms + 3000 }) ∧
      ({ card := true, fault := true, dock := true } : Touched).frame s s.recordUnreadable := by
  have count : ({ card := true, fault := true, dock := true } : Touched).frame s s.recordCounted := by
    simp [Touched.frame, State.recordCounted]
  rw [State.recordUnreadable_eq]
  split
  · rename_i hrun
    obtain ⟨fault, card, hire, refusal, touches⟩ := (s.recordCounted.raisePost .reader).takeUnreadable_outcome
    rw [fault, card, hire]
    refine ⟨by simp [State.recordCounted], fun _ => State.mem_raisePost (s := s.recordCounted) hpost .reader,
      fun hlow => by omega, by simp [State.recordCounted], ?_,
      (count.trans ((s.recordCounted.raisePost_touches .reader).mono (by decide))).trans (touches.mono (by decide))⟩
    simpa [State.recordCounted] using refusal
  · rename_i hrun
    obtain ⟨fault, card, hire, refusal, touches⟩ := s.recordCounted.takeUnreadable_outcome
    rw [fault, card, hire]
    exact ⟨rfl, fun hhigh => absurd hhigh hrun, fun _ => rfl, rfl, refusal, count.trans (touches.mono (by decide))⟩

end

theorem unreadableCardIsRefused : Claims.UnreadableCardIsRefused := by
  intro s due hpost hgap hunreadable
  obtain ⟨u, step, gap⟩ := CardPort.unreadable.step hunreadable hgap
  have straps : u.straps = s.straps := gap.touches.1
  obtain ⟨card, reader, still, hire, refusal, touches⟩ :=
    State.recordUnreadable_outcome (s := u) (by simpa [State.isPost, straps] using hpost)
  rw [gap.card] at card reader still
  rw [gap.fault] at still
  rw [gap.hire] at hire
  rw [gap.hire, gap.dock, gap.clock] at refusal
  exact completes_of_answer step ⟨by simp [card], by simp [card], by simp [card], by simp [card], by simpa using reader,
    by simpa using still, by simpa using hire, by simpa using refusal,
    conclude_frame_of _ _ _ ((gap.touches.mono (by decide)).trans (touches.mono (by decide)))⟩

/-- Settles O46: the assembler's characters, and the unreadable record at its gap. -/
theorem cardsAreAssembled : Obligations.CardsAreAssembled := ⟨cardCharactersAreAssembled, unreadableCardIsRefused⟩

end Sys2Proof.Machine
end

section
/-! A good member card (R91, R95, R99, R105 to R108): its record, the first check that fails, the claim of a member the view
knows and the lookup of one it does not. -/

namespace Sys2Proof.Machine

/-! ### Levels (R149, R159) -/

section
variable {s t : State}

theorem PostFault.level_le (f : PostFault) : f.level ≤ 2 := by cases f <;> decide

/-- The post fault level is 2 exactly when a fault of level 2 is raised (R159). -/
theorem State.postLevel_eq_two_iff : s.postLevel = 2 ↔ ∃ f ∈ s.fault.raised, f.level = 2 := by
  have folded (l : List PostFault) : ∀ b, b ≤ 2 →
      ((l.map PostFault.level).foldl max b = 2 ↔ b = 2 ∨ ∃ f ∈ l, f.level = 2) := by
    induction l with
    | nil => simp
    | cons f l ih =>
      intro b hb
      have hf := f.level_le
      have either : max b f.level = 2 ↔ b = 2 ∨ f.level = 2 := by omega
      simp [ih (max b f.level) (Nat.max_le.2 ⟨hb, hf⟩), either, or_assoc]
  simp [State.postLevel, folded s.fault.raised 0 (by omega)]

/-- The bike fault level reads nothing of the post faults (R149). -/
theorem State.bikeLevel_congr {raised : List PostFault} (hdock : t.dock = s.dock) (htag : t.tag = s.tag)
    (hfault : t.fault = { s.fault with raised := raised }) : t.bikeLevel = s.bikeLevel := by
  unfold State.bikeLevel State.workingList State.faultsDamaged State.copyFaults
  rw [hdock, htag, hfault]

/-- A post fault that is not raised is cleared without a change. -/
theorem State.clearPost_of_clear {f : PostFault} (h : f ∉ s.fault.raised) : s.clearPost f = s := by
  have kept : s.fault.raised.filter (fun g => decide (g ≠ f)) = s.fault.raised :=
    List.filter_eq_self.2 fun g hg => decide_eq_true fun hgf => h (hgf ▸ hg)
  simp only [State.clearPost, kept]
  exact State.evaluateSince_of_uncaused s s (evaluationCaused_self s)

end

/-! ### The card in CHECK (R91, R105, R107) -/

section
variable {s : State} {card : CardRecord} {due : Ms}

/-- A member card is in CHECK. -/
def State.inCheck (s : State) (due : Ms) (card : CardRecord) : State :=
  { (s.reachMs due).recordJudged with
    hire := { s.hire with state := .check, record := some (HireRecord.ofCard .member card) } }

@[simp] theorem State.inCheck_frame (s : State) (due : Ms) (card : CardRecord) :
    (s.inCheck due card).straps = s.straps ∧ (s.inCheck due card).clock = (s.reachMs due).clock ∧
      (s.inCheck due card).peers = s.peers ∧ (s.inCheck due card).dock = s.dock ∧ (s.inCheck due card).tag = s.tag ∧
      (s.inCheck due card).view = s.view ∧ (s.inCheck due card).van.hold = s.van.hold ∧
      (s.inCheck due card).line.clash = s.line.clash ∧ (s.inCheck due card).time.base = s.time.base ∧
      (s.inCheck due card).time.quality = s.time.quality := by
  simp [State.inCheck]

@[simp] theorem State.inCheck_fault (s : State) (due : Ms) (card : CardRecord) :
    (s.inCheck due card).fault = { s.fault with raised := s.fault.raised.filter (fun f => decide (f ≠ .reader)) } := by
  obtain ⟨_, fault, _⟩ := (s.reachMs due).recordJudged_outcome
  simp [State.inCheck, fault]

theorem State.inCheck_touches (s : State) (due : Ms) (card : CardRecord) :
    ({ card := true, fault := true, time := true, hire := true } : Touched).frame s (s.inCheck due card) := by
  obtain ⟨_, _, judged⟩ := (s.reachMs due).recordJudged_outcome
  have reached : ({} : Touched).frame s (s.reachMs due) := by simp [Touched.frame]
  exact ((reached.mono (by decide)).trans (judged.mono (by decide))).trans (by simp [Touched.frame, State.inCheck])

theorem State.inCheck_run (s : State) (due : Ms) (card : CardRecord) : (s.inCheck due card).card.unreadableRun = 0 := by
  simp [State.inCheck, State.recordJudged]

/-- Where READER is not raised a good record leaves the line alone. -/
theorem State.inCheck_line (h : .reader ∉ s.fault.raised) : (s.inCheck due card).line = s.line := by
  simp only [State.inCheck, State.recordJudged]
  rw [State.clearPost_of_clear (by simpa [State.assemblerIdle] using h)]
  simp [State.assemblerIdle]

/-- The present second and today are those of the record gap. -/
theorem State.inCheck_present :
    (s.inCheck due card).presentSecond = (s.reachMs due).presentSecond ∧
      (s.inCheck due card).today = (s.reachMs due).today := by
  have second : (s.inCheck due card).presentSecond = (s.reachMs due).presentSecond :=
    State.presentSecond_congr (by simp) (by simp)
  exact ⟨second, by simp only [State.today, second]⟩

/-- READER is of level 1: clearing it moves no check of R107. -/
theorem State.inCheck_postChecks : (s.inCheck due card).postChecks = s.postChecks := by
  have time : (s.inCheck due card).timeUnset = s.timeUnset := by simp [State.timeUnset]
  have condition : (s.inCheck due card).tagCondition = s.tagCondition := by
    simp only [State.tagCondition, State.copyId, State.copyHire, State.inCheck_frame]
  have bike : (s.inCheck due card).bikeLevel = s.bikeLevel :=
    State.bikeLevel_congr (by simp) (by simp) (s.inCheck_fault due card)
  have post : (s.inCheck due card).postLevel = 2 ↔ s.postLevel = 2 := by
    simp only [State.postLevel_eq_two_iff, State.inCheck_fault, List.mem_filter, decide_eq_true_eq, and_assoc]
    refine exists_congr fun f => and_congr_right fun _ => and_iff_right_of_imp ?_
    rintro hlevel rfl
    cases hlevel
  simp only [State.postChecks, time, condition, bike, post, State.inCheck_frame]

/-- RECORD_GAP of a good member card at an IDLE post without a self-test checks it (R105, R107). -/
theorem State.EndsGood.checksMember (e : s.EndsGood due card) (hplan : card.plan ≠ 15) (htest : s.dock.selfTest = none)
    (hidle : s.hire.state = .idle) : exec .recordGap s = answerNext ((s.inCheck due card).checkMember card) := by
  rw [e.step]
  simp [State.takeCard, htest, hidle, State.beginHire, hplan, State.inCheck]

theorem State.checkMember_of_refused {group : Nat} (h : s.postChecks = some group) :
    s.checkMember card = s.refuse group := by
  simp [State.checkMember, h]

/-- With checks 2 to 5 passed the view decides (R108). -/
theorem State.checkMember_of_passed (h : s.postChecks = none) :
    s.checkMember card = (s.cardReading card.member).1.checkReading card (s.cardReading card.member).2 := by
  simp [State.checkMember, h]

/-- A refusal in CHECK, whatever the view has become, ends where the card was put in. -/
theorem State.inCheck_refused (hidle : s.hire.state = .idle) (view : MemberView) (group : Nat) :
    let t := conclude (State.refuse group { s.inCheck due card with view := view })
    t.hire = { s.hire with record := none } ∧ t.view = view ∧
      t.dock.refusal = some { flashes := group, endAt := (s.reachMs due).clock.ms + 3000 } := by
  obtain ⟨hire, refusal, _⟩ := State.refuse_outcome group { s.inCheck due card with view := view }
  refine ⟨?_, by simp, ?_⟩
  · simp only [conclude_frame, hire]
    simp only [State.inCheck, ← hidle]
  · simp only [conclude_dock, refusal]
    simp only [State.inCheck_frame]

end

/-! ### The checks of the post and of an unknown member (R107, R108) -/

theorem memberCardIsRefused : Claims.MemberCardIsRefused := by
  intro s due card _ hgap hcomplete hgood hplan hidle htest r refused
  have step := State.EndsGood.checksMember ⟨hgap, hcomplete, hgood⟩ hplan htest hidle
  have refuses (group : Nat) (h : (s.inCheck due card).checkMember card = (s.inCheck due card).refuse group) :
      refused group := by
    rw [h] at step
    obtain ⟨hire, _, refusal⟩ := State.inCheck_refused (due := due) (card := card) hidle s.view group
    have view : (s.inCheck due card).view = s.view := by simp
    have same : { s.inCheck due card with view := s.view } = s.inCheck due card := by rw [← view]
    rw [same] at hire refusal
    exact completes_of_answer step ⟨hire, refusal, by simp [State.inCheck_run], by simp,
      conclude_frame_of _ _ _ (((s.inCheck_touches due card).mono (by decide)).trans
        (((s.inCheck due card).refuse_outcome group).2.2.mono (by decide)))⟩
  have fails (group : Nat) (h : s.postChecks = some group) : refused group :=
    refuses group (State.checkMember_of_refused (State.inCheck_postChecks.trans h))
  refine ⟨fun h => fails 4 ?_, fun htime hid hclash h => fails 3 ?_,
    fun htime hid hclash hdocked hcondition hbike hhold hlevel => fails 5 ?_,
    fun htime hid hclash hdocked hcondition hbike hhold hlevel hnone hexpired => refuses 1 ?_⟩
  · rcases h with h | h | h <;> simp [State.postChecks, h]
  · rcases h with h | h | h | h <;> simp [State.postChecks, htime, hid, hclash, h]
  · simp [State.postChecks, htime, hid, hclash, hdocked, hcondition, Nat.ne_of_lt hbike, hhold, hlevel]
  · have may : s.MayHire := ⟨htime, hid, hclash, hdocked, hcondition, hbike, hhold, hlevel⟩
    have expired : card.expiryDay < (s.inCheck due card).today := by rwa [State.inCheck_present.2]
    rw [State.checkMember_of_passed (State.inCheck_postChecks.trans may.postChecks),
      State.cardReading_of_none (by simpa using hnone)]
    simp [State.checkReading, expired]

/-! ### A member the view knows (R95, R108) -/

/-- The reading in CHECK of an entry that is not stale uses it and answers from it (R95). -/
theorem State.inCheck_reading {s : State} {card : CardRecord} {due : Ms} {e : ViewEntry} (htime : s.timeUnset = false)
    (hentry : s.view.find card.member = some e) (hfresh : (s.reachMs due).presentSecond ≤ e.updatedAt + 86400) :
    (s.inCheck due card).cardReading card.member =
      ({ s.inCheck due card with view := s.view.use e }, some (e.answerOn (s.reachMs due).today)) := by
  obtain ⟨second, today⟩ := State.inCheck_present (s := s) (due := due) (card := card)
  have set : (s.inCheck due card).timeUnset = false := by simpa [State.timeUnset] using htime
  have fresh : (s.inCheck due card).stale e = false := by
    rw [State.stale, second]
    exact decide_eq_false (Nat.not_lt.2 hfresh)
  have view : (s.inCheck due card).view = s.view := by simp
  rw [State.cardReading_of_entry set (by rw [view, hentry]), fresh, State.answerOf_of_set set, today, view]
  rfl

theorem knownMemberClaims : Claims.KnownMemberClaims := by
  intro s due card e hpost hbarred hgap hcomplete hgood hplan hidle htest hlevel htime hid hclash hdocked hcondition hbike
    hhold hentry hreader r hfresh used refused
  have may : s.MayHire := ⟨htime, hid, hclash, hdocked, hcondition, hbike, hhold, hlevel⟩
  have step := State.EndsGood.checksMember ⟨hgap, hcomplete, hgood⟩ hplan htest hidle
  let v : State := { s.inCheck due card with view := s.view.use e }
  let a := e.answerOn r.today
  have vtoday : v.today = r.today := (State.inCheck_present (card := card)).2
  have reading : (s.inCheck due card).cardReading card.member = (v, some a) := State.inCheck_reading htime hentry hfresh
  rw [State.checkMember_of_passed (State.inCheck_postChecks.trans may.postChecks), reading] at step
  have refuses (group : Nat) (h : v.memberChecks card a = some group) : refused group := by
    simp only [State.checkReading, h] at step
    exact completes_of_answer step (State.inCheck_refused hidle _ group)
  refine ⟨fun h => refuses 1 ?_, fun hexpiry hsequence h => refuses 2 ?_,
    fun hexpiry hsequence hstatus hout hroom hrefs => ?_⟩
  · simp [State.memberChecks, vtoday, a, ViewEntry.answerOn, h]
  · have valid : ¬ (card.expiryDay < r.today ∨ card.sequence < e.minSequence) := by omega
    by_cases hstatus : e.status = .good
    · simp [State.memberChecks, vtoday, a, ViewEntry.answerOn, valid, hstatus, h.resolve_left (not_not_intro hstatus)]
    · simp [State.memberChecks, vtoday, a, ViewEntry.answerOn, valid, hstatus]
  · have line : v.line = s.line := State.inCheck_line (card := card) hreader
    have passes : v.memberChecks card a = none :=
      State.memberChecks_pass (by rw [vtoday]; exact hexpiry) hsequence hstatus hout
    have sends : v.refusesOffer .clm = false := by
      rw [State.refusesOffer_congr (s := s) (by simp [v]) (by rw [line])]
      exact State.refusesOffer_of_post hpost hbarred hclash
    have claims : v.checkReading card (some a) = v.claimed (HireRecord.ofCard .member card) a := by
      simp only [State.checkReading, passes]
      exact State.claimWith_room rfl sends (by rw [line]; exact hroom)
    rw [claims] at step
    obtain ⟨q, hq, kind, body, ref⟩ := State.claimed_queued (s := v) (h := HireRecord.ofCard .member card) (a := a)
      (by rw [line]; exact hrefs)
    rw [line] at ref
    refine completes_of_answer step ⟨?_, ?_, ?_,
      ⟨{ HireRecord.ofCard .member card with answer := some a, clmRef := some s.line.nextRef }, ?_, rfl, rfl, rfl, rfl,
        ?_⟩,
      q, hq, kind, ref, body⟩
    · simp [State.claimed]
    · simp [State.claimed, v, State.inCheck]
    · simp [State.claimed, v, used, MemberView.use]
    · simp only [State.claimed, conclude_frame, line]
    · simp only [a, ViewEntry.answerOn, hstatus]

/-! ### A member the view does not know (R99, R108) -/

theorem unknownMemberIsLookedUp : Claims.UnknownMemberIsLookedUp := by
  intro s due card hpost hbarred hgap hcomplete hgood hplan hidle htest hlevel htime hid hclash hdocked hcondition hbike
    hhold hnone hqueue hreader r hexpiry
  have may : s.MayHire := ⟨htime, hid, hclash, hdocked, hcondition, hbike, hhold, hlevel⟩
  have step := State.EndsGood.checksMember ⟨hgap, hcomplete, hgood⟩ hplan htest hidle
  let v := s.inCheck due card
  have line : v.line = s.line := State.inCheck_line (card := card) hreader
  have sends : v.refusesOffer .lkp = false := by
    rw [State.refusesOffer_congr (s := s) (by simp [v]) (by rw [line])]
    exact State.refusesOffer_of_post hpost hbarred hclash
  have valid : ¬ card.expiryDay < v.today := by
    rw [State.inCheck_present.2]
    exact Nat.not_lt.2 hexpiry
  have looksUp : v.checkMember card = v.startLookup card := by
    rw [State.checkMember_of_passed (State.inCheck_postChecks.trans may.postChecks),
      State.cardReading_of_none (by simpa [v] using hnone)]
    exact if_neg valid
  have started := State.offer_room .lkp (lkpBody card.member card.sequence) v sends (by simp) (by simp [line, hqueue])
  rw [looksUp] at step
  simp only [State.startLookup, started] at step
  obtain ⟨q, hq, kind, body, _⟩ := conclude_holds_new_body (s := v) (kind := .lkp)
    (body := lkpBody card.member card.sequence) (u := v.startLookup card) (by simp only [State.startLookup, started])
    (by simp) (by simp [line, hqueue])
  simp only [State.startLookup, started] at hq
  refine completes_of_answer step ⟨?_, ⟨HireRecord.ofCard .member card, ?_, rfl, rfl, rfl⟩, ?_, q, hq, kind, body⟩
  · simp only [conclude_frame]
  · simp only [conclude_frame]
    rfl
  · simp only [conclude_frame, line]
    simp [v, r]

/-- Settles O47: the checks in their order, the claim and the lookup. -/
theorem cardsAreCheckedOrLookedUp : Obligations.CardsAreCheckedOrLookedUp :=
  ⟨memberCardIsRefused, knownMemberClaims, unknownMemberIsLookedUp⟩

end Sys2Proof.Machine
end

section
/-! Notices heard at the claim list and the member view (R93, R97, R98, R100, R110, R111). -/

namespace Sys2Proof.Machine

/-! ### A notice of a peer at the blocks -/

/-- A peer change handed on touches the peer table and the fault unit of a post, and the event queue elsewhere (R31). -/
theorem State.handOn_touches (f : Frame) (s before : State) :
    ({ peers := true, fault := true, port := !s.isPost } : Touched).frame s (s.handOn f before) := by
  have told (e : Event) : ({ port := true } : Touched).frame s (s.appendEvent e) := by simp [Touched.frame]
  have still : ({ peers := true, fault := true, port := !s.isPost } : Touched).frame s s := .refl _ s
  unfold State.handOn State.peerChange
  split
  · split <;> rename_i hr
    · exact (s.evaluateOffer_untouched.mono (by simp [Touched.within])).trans
        (s.evaluateOffer.duplicateCheck_touches.mono (by simp [Touched.within]))
    · exact (told _).mono (by simp [Touched.within, State.isPost, hr])
    · exact (told _).mono (by simp [Touched.within, State.isPost, hr])
    · exact still
  · exact still

/-- A notice of a peer that is no OFR reaches the blocks at its end, after the peer table and the peer change. -/
theorem State.takes.notice {c : LineChar} {f : Frame} {s : State} (h : s.takes c f) (hbcn : f.kind ≠ .bcn)
    (hofr : f.kind ≠ .ofr) :
    ∃ u, exec (.frameReceived c) s = answerNext (u.blocksTake f none) ∧ u.clock.ms = s.heardAt c ∧
      ({ peers := true, fault := true, port := !s.isPost } : Touched).frame s u := by
  obtain ⟨k, l, step, hclock, _⟩ := h.step
  let v : State := { s with clock := k, line := l }
  have heard : v.peerHears f = v.hearFrom f.sender v.clock.ms := v.peerHears_of_notice hbcn
  refine ⟨(v.peerHears f).handOn f v, by simpa [State.takeFromPeer, hofr] using step, by simp [v, hclock], ?_⟩
  have hears : ({ peers := true, fault := true, port := !s.isPost } : Touched).frame s (v.peerHears f) := by
    rw [heard]
    simp [Touched.frame, v, State.hearFrom]
  have handed := (v.peerHears f).handOn_touches f v
  rw [show (v.peerHears f).isPost = s.isPost by rw [heard]; rfl] at handed
  exact hears.trans handed

/-- A notice at a post goes to the post's blocks. -/
theorem State.takes.post {c : LineChar} {f : Frame} {s : State} (h : s.takes c f) (hpost : s.straps.role = .post)
    (hbcn : f.kind ≠ .bcn) (hofr : f.kind ≠ .ofr) :
    ∃ u, exec (.frameReceived c) s = answerNext (u.postTakes f none) ∧ u.clock.ms = s.heardAt c ∧
      u.hire = s.hire ∧ u.view = s.view ∧ ({ peers := true, fault := true } : Touched).frame s u := by
  obtain ⟨u, step, hclock, touches⟩ := h.notice hbcn hofr
  have frame := touches
  obtain ⟨straps, _, _, _, _, _, _, view, hire, _⟩ := frame
  refine ⟨u, ?_, hclock, hire rfl, view rfl, touches.mono (by simp [Touched.within, State.isPost, hpost])⟩
  simpa [State.blocksTake, straps, hpost] using step

/-! ### The view's changes (R93, R97, R98) -/

section
variable {v : MemberView} {e : ViewEntry} {member : Nat} {body : List Byte}

/-- A use of an entry changed in other fields than its member puts it at the most recently used end. -/
theorem MemberView.use_entries {x : ViewEntry} (h : x.member = member) :
    (v.use x).entries = v.entries.filter (fun y => decide (y.member ≠ member)) ++ [x] := by
  simp only [MemberView.use, h]

/-- An HIR raises the bikes out of a member with an entry (R97). -/
theorem MemberView.hired_of_entry (hmember : member ≠ 0) (h : v.find member = some e) :
    (v.hired member).entries = v.entries.filter (fun y => decide (y.member ≠ member)) ++
      [{ e with bikesOut := min (e.bikesOut + 1) 15 }] := by
  have use : v.hired member = v.use { e with bikesOut := min (e.bikesOut + 1) 15 } := by
    simp [MemberView.hired, hmember, h]
  rw [use]
  exact MemberView.use_entries (MemberView.mem_of_find h).2

theorem MemberView.hired_of_none (h : member = 0 ∨ v.find member = none) : v.hired member = v := by
  rcases h with h | h <;> simp [MemberView.hired, h]

/-- The entry after an STL (R98). -/
def ViewEntry.returned (e : ViewEntry) (body : List Byte) : ViewEntry :=
  let spend := fieldAt body 24 3
  let day := fieldAt body 27 2
  if fieldAt body 18 3 = 0xFFFFFF ∨ day < e.day then { e with bikesOut := e.bikesOut - 1 }
  else if day = e.day then { e with bikesOut := e.bikesOut - 1, spend := max e.spend spend }
  else { e with bikesOut := e.bikesOut - 1, day := day, spend := spend }

theorem ViewEntry.returned_member (e : ViewEntry) (body : List Byte) : (e.returned body).member = e.member := by
  unfold ViewEntry.returned
  dsimp only
  (repeat' split) <;> rfl

theorem MemberView.settled_of_entry (hmember : fieldAt body 0 4 ≠ 0) (h : v.find (fieldAt body 0 4) = some e) :
    (v.settled body).entries = v.entries.filter (fun y => decide (y.member ≠ fieldAt body 0 4)) ++ [e.returned body] := by
  have use : v.settled body = v.use (e.returned body) := by
    simp only [MemberView.settled, hmember, ne_eq, not_false_eq_true, decide_true, h, stlRated, Fare.code,
      ViewEntry.charged, ViewEntry.returned]
    congr 1
    by_cases hrated : fieldAt body 18 3 = 0xFFFFFF
    · simp [hrated]
    · rcases Nat.lt_trichotomy (fieldAt body 27 2) e.day with hday | hday | hday
      · simp [hrated, hday, Nat.ne_of_lt hday, Nat.lt_asymm hday]
      · simp [hrated, hday]
      · simp [hrated, hday, Nat.ne_of_gt hday, Nat.lt_asymm hday]
  rw [use]
  exact MemberView.use_entries ((e.returned_member body).trans (MemberView.mem_of_find h).2)

theorem MemberView.settled_of_none (h : fieldAt body 0 4 = 0 ∨ v.find (fieldAt body 0 4) = none) :
    v.settled body = v := by
  rcases h with h | h <;> simp [MemberView.settled, h]

/-- An MBR of a member for whom no lookup is outstanding is put in the view (R93). -/
theorem State.takeMbr_of_other {s : State} (hentry : mbrOf body = some e)
    (hother : ∀ l, s.view.lookup = some l → l.card.member ≠ e.member) :
    s.takeMbr body = { s with view := s.view.put e } := by
  cases hlookup : s.view.lookup with
  | none => simp [State.takeMbr, hentry, hlookup]
  | some l => simp [State.takeMbr, hentry, hlookup, hother l hlookup]

/-- Today is read from the clock and the timebase. -/
theorem State.today_congr {s t : State} (ht : t.time = s.time) (hc : t.clock.ms = s.clock.ms) : t.today = s.today := by
  simp only [State.today, State.presentSecond, State.presentMs, ht, hc]

/-- The lookup outstanding is ended by the entry put in the view. -/
def State.lookupEnded (s : State) (e : ViewEntry) : State := { s with view := { s.view.put e with lookup := none } }

@[simp] theorem State.lookupEnded_frame (s : State) (e : ViewEntry) :
    (s.lookupEnded e).straps = s.straps ∧ (s.lookupEnded e).clock = s.clock ∧ (s.lookupEnded e).line = s.line ∧
      (s.lookupEnded e).peers = s.peers ∧ (s.lookupEnded e).time = s.time ∧ (s.lookupEnded e).hire = s.hire ∧
      (s.lookupEnded e).view.lookup = none := by
  simp [State.lookupEnded]

/-- The view is read by none of checks 2 to 5. -/
theorem State.MayHire.of_view {s : State} (m : s.MayHire) (view : MemberView) : State.MayHire { s with view := view } := by
  obtain ⟨time, station, clash, docked, condition, bike, hold, post⟩ := m
  exact ⟨time, station, clash, docked, condition, bike, hold, post⟩

/-- An MBR of the member of the lookup outstanding ends it with the entry's answer for the hire (R100). -/
theorem State.takeMbr_of_lookup {s : State} {l : Lookup} (hentry : mbrOf body = some e) (hlookup : s.view.lookup = some l)
    (hmember : l.card.member = e.member) (hstate : s.hire.state = .lookup) :
    s.takeMbr body = (s.lookupEnded e).lookupAnswered l.card (s.answerOf e) := by
  have spend : (s.lookupEnded e).daySpend e = s.daySpend e := State.daySpend_congr (by simp) (by simp) e
  have answer : (s.lookupEnded e).answerOf e = s.answerOf e := by simp only [State.answerOf, spend]
  rw [← answer]
  simp only [State.takeMbr, hentry, hlookup, hmember, hstate, if_true, State.lookupEnded]

/-- An answered lookup whose checks pass claims (R109). -/
theorem State.MayHire.lookupAnswered {s : State} {card : CardRecord} {a : Answer} (m : s.MayHire)
    (h : s.memberChecks card a = none) : s.lookupAnswered card a = s.claimWith a := by
  simp [State.lookupAnswered, m.postChecks, h]

end

/-! ### The claim list (R110, R111) -/

/-- A CLM heard is entered newest; its duplicate goes first, and then the oldest of 16 (R110). -/
theorem enterClaim_eq {x : Claim} {claims : List Claim} (h : claims.length ≤ 16) :
    let others := claims.filter (fun y => !(decide (y.claimant = x.claimant) && decide (y.serial = x.serial)))
    enterClaim x claims = (if others.length = 16 then others.drop 1 else others) ++ [x] := by
  intro others
  rw [← drop_to_room ((List.length_filter_le _ _).trans h)]
  simp [enterClaim, dropClaims]

theorem State.takeClm_malformed {sender : Nat} {serial : BitVec 8} {body : List Byte} {s : State}
    (h : fieldAt body 0 4 = 0 ∨ fieldAt body 4 1 = 0 ∨ 4 < fieldAt body 4 1) : s.takeClm sender serial body = s := by
  rw [State.takeClm, if_pos]
  simpa [or_assoc] using h

theorem State.takeClm_good {sender : Nat} {serial : BitVec 8} {body : List Byte} {s : State}
    (hmember : fieldAt body 0 4 ≠ 0) (h1 : 1 ≤ fieldAt body 4 1) (h4 : fieldAt body 4 1 ≤ 4) :
    s.takeClm sender serial body =
      { s with
        hire := { s.hire with
          claims :=
            enterClaim { member := fieldAt body 0 4, claimant := sender, serial := serial, heard := s.clock.ms }
              s.hire.claims } } := by
  rw [State.takeClm, if_neg]
  simp only [Bool.or_eq_true, decide_eq_true_eq]
  omega

theorem claimHeardEntersTheList : Claims.ClaimHeardEntersTheList := by
  intro c f s htakes hpost hk member allowance others
  obtain ⟨u, step, hclock, hire, _, touches⟩ := htakes.post hpost (by simp [hk]) (by simp [hk])
  have takes : u.postTakes f none = u.takeClm f.sender f.serial f.body := by simp only [State.postTakes, hk]
  rw [takes] at step
  refine ⟨fun hbad => ?_, fun hmember h1 h4 hlen => ?_⟩
  · rw [State.takeClm_malformed hbad] at step
    exact completes_of_answer step (by simp [hire])
  · rw [State.takeClm_good hmember h1 h4] at step
    refine completes_of_answer step
      ⟨?_, conclude_frame_of _ _ _ ((touches.mono (by decide)).trans (by simp [Touched.frame]))⟩
    simp only [conclude_frame, hire, hclock, enterClaim_eq hlen]
    rfl

theorem withdrawalOrHireRemovesTheClaim : Claims.WithdrawalOrHireRemovesTheClaim := by
  intro c f s htakes hpost member claims
  refine ⟨fun hk => ?_, fun hk => ?_⟩ <;>
    obtain ⟨u, step, _, hire, view, touches⟩ := htakes.post hpost (by simp [hk]) (by simp [hk])
  · have takes : u.postTakes f none = { u with hire := { s.hire with claims := claims } } := by
      simp only [State.postTakes, hk, State.removeClaim, hire]
      rfl
    rw [takes] at step
    refine completes_of_answer step
      ⟨by simp, by simp [view], conclude_frame_of _ _ _ ((touches.mono (by decide)).trans (by simp [Touched.frame]))⟩
  · have takes : u.postTakes f none =
        { u with hire := { s.hire with claims := claims }, view := s.view.hired member } := by
      simp only [State.postTakes, hk, State.removeClaim, hire, view]
      rfl
    rw [takes] at step
    refine completes_of_answer step ⟨by simp, fun e hmember hentry => ?_, fun hnone => ?_,
      conclude_frame_of _ _ _ ((touches.mono (by decide)).trans (by simp [Touched.frame]))⟩
    · simp only [conclude_frame]
      rw [MemberView.hired_of_entry hmember hentry]
    · simp only [conclude_frame]
      exact MemberView.hired_of_none hnone

/-- Settles O19: the claim list by the kinds that change it. -/
theorem claimsHeardAndWithdrawn : Obligations.ClaimsHeardAndWithdrawn :=
  ⟨claimHeardEntersTheList, withdrawalOrHireRemovesTheClaim⟩

/-! ### Settlements (R98) -/

theorem settlementHeardUpdatesTheView : Claims.SettlementHeardUpdatesTheView := by
  intro c f s htakes hr hk member spend day
  obtain ⟨u, step, _, touches⟩ := htakes.notice (by simp [hk]) (by simp [hk])
  have takes : (u.blocksTake f none).view = s.view.settled f.body ∧
      ({ peers := true, fault := true, view := true, port := true } : Touched).frame s (u.blocksTake f none) := by
    have before : ({ peers := true, fault := true, view := true, port := true } : Touched).frame s u :=
      touches.mono (by simp [Touched.within])
    obtain ⟨straps, _, _, _, _, _, _, view, _⟩ := touches
    rcases hr with hr | hr
    · have post : u.blocksTake f none = { u with view := u.view.settled f.body } := by
        simp only [State.blocksTake, straps, hr, State.postTakes, hk]
      rw [post, view rfl]
      exact ⟨rfl, before.trans (by simp [Touched.frame])⟩
    · have terminal : u.blocksTake f none = State.appendEvent { at_ := u.clock.ms, body := .settle f.sender f.body }
          { u with view := u.view.settled f.body } := by
        simp only [State.blocksTake, straps, hr, State.terminalTakes, hk]
      rw [terminal, view rfl]
      exact ⟨by simp, before.trans (by simp [Touched.frame])⟩
  obtain ⟨view, frame⟩ := takes
  refine completes_of_answer step ⟨fun e hmember hentry => ?_, fun hnone => ?_, conclude_frame_of _ _ _ frame⟩
  · simp only [conclude_frame, view]
    rw [MemberView.settled_of_entry hmember hentry]
    rfl
  · simp only [conclude_frame, view]
    exact MemberView.settled_of_none hnone

/-! ### Member notices (R93, R100) -/

theorem memberNoticeReplacesTheEntry : Claims.MemberNoticeReplacesTheEntry := by
  intro c f s htakes hpost hk
  obtain ⟨u, step, _, hire, view, touches⟩ := htakes.post hpost (by simp [hk]) (by simp [hk])
  have takes : u.postTakes f none = if f.sender = 0 then u.takeMbr f.body else u := by simp only [State.postTakes, hk]
  rw [takes] at step
  refine ⟨fun e hsender hentry hlen hother => ?_, fun hbad => ?_⟩
  · intro others
    rw [if_pos hsender, State.takeMbr_of_other hentry (by rwa [view]), view, MemberView.put_eq hlen] at step
    exact completes_of_answer step
      ⟨by simp [others], conclude_frame_of _ _ _ ((touches.mono (by decide)).trans (by simp [Touched.frame]))⟩
  · have same : (if f.sender = 0 then u.takeMbr f.body else u) = u := by
      split
      · rename_i hsender
        simp [State.takeMbr, hbad.resolve_left (not_not_intro hsender)]
      · rfl
    rw [same] at step
    exact completes_of_answer step (by simp [hire, view])

theorem memberNoticeAnswersTheLookup : Claims.MemberNoticeAnswersTheLookup := by
  intro c f e l h s htakes hpost hk hsender hentry hlookup hmember hstate hrecord hcard hlive hqueue hbarred hclash htime
    hid hdocked hcondition hbike hhold hlevel today hexpiry hsequence hgood hout
  obtain ⟨k, line, step, hclock, queue, _, clash⟩ := htakes.step
  let u : State := State.hearFrom f.sender k.ms { s with clock := k, line := line }
  let w : State := u.lookupEnded e
  let a := e.answerOn today
  have time : (s.characterEnds c).time = s.time := by simp
  have now : u.today = today := State.today_congr (s := s.characterEnds c) (t := u) time.symm hclock
  have answer : u.answerOf e = a := by rw [State.answerOf_of_set (by exact htime), now]
  have taken : State.takeFromPeer f { s with clock := k, line := line } = u.takeMbr f.body := by
    rw [State.takeFromPeer_of_live (by simp [hk]) (by rw [hsender]; exact hlive)]
    simp only [State.blocksTake, State.hearFrom_frame, hpost, State.postTakes, hk, hsender, if_true, u]
  have may : u.MayHire := ⟨htime, hid, clash.trans hclash, hdocked, hcondition, hbike, hhold, hlevel⟩
  have passes : w.memberChecks l.card a = none := by
    have later : w.today = u.today := State.today_congr (by simp [w]) (by simp [w])
    exact State.memberChecks_pass (by rw [later, now]; exact hexpiry) hsequence hgood hout
  have ended : w.MayHire := may.of_view _
  have wline : w.line = line := by simp [w, u]
  have whire : w.hire = u.hire := by simp [w]
  have sends : w.refusesOffer .clm = false := by
    rw [State.refusesOffer_congr (s := s) (by simp [w, u]) (by rw [wline, clash])]
    exact State.refusesOffer_of_post hpost hbarred hclash
  have empty : w.line.queue = [] := by rw [wline, queue, hqueue]
  rw [taken, State.takeMbr_of_lookup (s := u) hentry hlookup hmember hstate, answer,
    ended.lookupAnswered passes,
    State.claimWith_room (s := w) (h := h) (by rw [whire]; exact hrecord) sends (by simp [empty])] at step
  obtain ⟨q, hq, kind, body, ref⟩ := State.claimed_queued (s := w) (h := h) (a := a) (by simp [empty])
  refine completes_of_answer step ⟨?_, ?_, w.line.nextRef, ?_, q, hq, ref, kind, body⟩
  · simp [State.claimed, w]
  · simp [State.claimed]
  · simp only [State.claimed, conclude_frame, a, ViewEntry.answerOn, hgood]

/-- Settles O20: the settlements, the entries of the terminal, and the answer to a lookup. -/
theorem settlementsAndMemberNotices : Obligations.SettlementsAndMemberNotices :=
  ⟨settlementHeardUpdatesTheView, memberNoticeReplacesTheEntry, memberNoticeAnswersTheLookup⟩

end Sys2Proof.Machine
end

section
/-! The evaluation of the own offer (R168 to R171): what it offers, and the two steps of which each cause is one evaluation, the
end of a release treated as a take (R118) and a battery below 5 % (R68). -/

namespace Sys2Proof.Machine

/-! ### One evaluation (R168, R170) -/

section
variable {s : State} {w : VanWindow}

/-- A rank within the places left is one of a window that has a place left. -/
theorem State.place_of_ownRank (hrank : s.ownRank w + w.accepted.length ≤ w.places) : w.accepted.length < w.places := by
  have first : 1 ≤ s.ownRank w := Nat.le_add_right ..
  omega

/-- A candidate whose OFR is refused at once waits for the retry timer (R171). -/
theorem State.evaluateOffer_refused (hpost : s.isPost = true) (hw : s.van.window = some w) (ho : s.van.offer = .none_)
    (hc : s.ownCandidate w = true) (hrank : s.ownRank w + w.accepted.length ≤ w.places)
    (hr : s.refusesOffer .ofr = true) : s.evaluateOffer = s.ofrBusy := by
  have free := State.place_of_ownRank hrank
  have ranks : s.ownRank w ≤ w.places - w.accepted.length := by omega
  simp [State.evaluateOffer, hw, ho, hpost, hc, free, ranks, s.offer_refused .ofr _ hr]

/-- A post with a post fault of level 2 is no candidate (R168). -/
theorem State.ownCandidate_of_postLevel (h : 1 < s.postLevel) (w : VanWindow) : s.ownCandidate w = false := by
  simp [State.ownCandidate, Nat.not_le.2 h]

end

theorem evaluationOffersTheCandidate : Claims.EvaluationOffersTheCandidate := by
  refine fun s => ⟨fun w hw ho hpost hc hfree hrank => ⟨fun hr hroom => ?taken, fun hr => ?refused⟩, fun hnone => ?none,
    s.evaluateOffer_eq⟩
  case taken =>
    rw [State.evaluateOffer_queues (by simpa [State.isPost] using hpost) hw ho hc hfree (by omega) hr hroom, ofrBody,
      State.offerBike_eq]
    exact ⟨rfl, rfl⟩
  case refused =>
    rw [State.evaluateOffer_refused hpost hw ho hc hrank hr, State.ofrBusy, ← ho]
    exact ⟨rfl, rfl⟩
  case none =>
    rcases hnone with h | h | h | h | h | h | ⟨w, hw, hunfit⟩
    · exact s.evaluateOffer_of_none (.inl h)
    · exact s.evaluateOffer_of_none (.inr (.inl h))
    · exact s.evaluateOffer_of_none (.inr (.inr (.inr (.inr h))))
    · exact s.evaluateOffer_of_none (.inr (.inr (.inl h)))
    · exact s.evaluateOffer_of_none (.inr (.inr (.inr (.inl h))))
    · cases hw : s.van.window with
      | none => exact s.evaluateOffer_of_none (.inl hw)
      | some w => exact State.evaluateOffer_of_unranked hw (by simp [State.ownCandidate_of_postLevel h w])
    · refine State.evaluateOffer_of_unranked hw fun ⟨hc, hrank⟩ => ?_
      rcases hunfit with h | h
      · simp [h] at hc
      · omega

/-! ### The offer made -/

/-- The own offer is QUEUED with the OFR `e`, and it is not void. -/
structure State.Offers (s : State) (e : TxEntry) : Prop where
  held : s.line.HoldsOfr e
  offer : s.van.offer = .queued
  ref : s.van.offerRef = e.ref
  valid : s.van.voidMark = false

section
variable {s t : State} {w : VanWindow} {e : TxEntry} {n : Nat}

/-- A candidate that ranks within the places left makes its offer, where the line has room for the OFR. -/
theorem State.offers_evaluateOffer (hpost : s.straps.role = .post) (hw : s.van.window = some w)
    (ho : s.van.offer = .none_) (hc : s.ownCandidate w = true) (hrank : s.ownRank w + w.accepted.length ≤ w.places)
    (hr : s.refusesOffer .ofr = false) (hline : s.line.Within n) (hn : n < 8) :
    ∃ e, s.evaluateOffer.Offers e ∧ e.body = ofrBody w.serial (s.offerBike w) (s.ownRank w) := by
  have queued := State.evaluateOffer_queues hpost hw ho hc (State.place_of_ownRank hrank) (by omega) hr
    (Nat.lt_of_le_of_lt hline.len hn)
  rw [queued]
  exact ⟨_, ⟨State.newEntry_holdsOfr rfl rfl hline.refs, rfl, rfl, rfl⟩, rfl⟩

/-- The offer is one of the line and the van window unit. -/
theorem State.Offers.congr (h : s.Offers e) (hline : t.line = s.line) (hvan : t.van = s.van) : t.Offers e :=
  ⟨hline ▸ h.held, hvan ▸ h.offer, hvan ▸ h.ref, hvan ▸ h.valid⟩

/-- The post evaluates its offer once: one that is made stands. -/
theorem State.Offers.evaluateSince (h : s.Offers e) (before : State) : s.evaluateSince before = s :=
  State.evaluateSince_of_closed (.inl (by simp [h.offer])) before

/-- An FLT displaces no OFR (R8). -/
theorem State.Offers.send_flt (h : s.Offers e) (body : List Byte) : (s.send .flt body).Offers e := by
  have took : s.line.tookFlt (s.send .flt body).line := .inr ⟨s, body, rfl, rfl⟩
  exact ⟨took.holdsOfr h.held, by simp [h.offer], by simp [h.ref], by simp [h.valid]⟩

theorem State.Offers.raiseFlat (h : s.Offers e) : s.raiseFlat.Offers e := by
  unfold State.raiseFlat
  split
  · exact h
  · have flat : State.Offers { s with fault := { s.fault with flat := true } } e := h.congr rfl rfl
    have told : (State.offerAutoFlt 10 2 { s with fault := { s.fault with flat := true } }).Offers e := flat.send_flt _
    rwa [told.evaluateSince]

theorem State.Offers.raisePost (h : s.Offers e) (f : PostFault) : (s.raisePost f).Offers e := by
  unfold State.raisePost
  split
  · have raised : State.Offers { s with fault := { s.fault with raised := s.fault.raised ++ [f] } } e := h.congr rfl rfl
    have told := raised.send_flt (fltBody 0 f.cls f.level .auto s.number none)
    rwa [told.evaluateSince]
  · exact h

theorem State.Offers.clearPost (h : s.Offers e) (f : PostFault) : (s.clearPost f).Offers e := by
  have cleared : State.Offers { s with fault := { s.fault with raised := s.fault.raised.filter (fun g => decide (g ≠ f)) } } e :=
    h.congr rfl rfl
  rwa [State.clearPost, cleared.evaluateSince]

theorem State.Offers.takeCh2 (h : s.Offers e) (code : BitVec 10) : (s.takeCh2 code).Offers e := by
  have stored : State.Offers { s with dock := { s.dock with ch2 := Channel.judged code } } e := h.congr rfl rfl
  unfold State.takeCh2 State.judgeCh2
  split
  · exact stored.raisePost _
  · split
    · exact stored.clearPost _
    · exact stored

theorem State.Offers.takeCh3 (h : s.Offers e) (lit : Bool) (code : BitVec 10) : (s.takeCh3 lit code).Offers e := by
  have stored : State.Offers { s with dock := { s.dock with ch3 := Channel.judged code } } e := h.congr rfl rfl
  unfold State.takeCh3 State.judgeCh3
  split
  · exact stored.raisePost _
  · exact stored

@[simp] theorem State.nextBurst_fault (s : State) : s.nextBurst.fault = s.fault := by
  obtain ⟨_, fault, _⟩ := s.nextBurst_outcome
  exact fault

/-- The next burst is the converter's matter. -/
theorem State.Offers.nextBurst (h : s.Offers e) : s.nextBurst.Offers e := by
  unfold State.nextBurst
  split <;> exact h.congr rfl rfl

/-- A notice is a matter of the line alone. -/
theorem State.send_eq (kind : Kind) (body : List Byte) (s : State) :
    s.send kind body = { s with line := (s.send kind body).line } := by
  have offered := s.offer_eq kind body
  unfold State.send
  generalize (s.offer kind body).1 = t at offered
  rw [offered]

/-- A notice sent leaves the candidates and their ranks. -/
theorem State.send_candidate (kind : Kind) (body : List Byte) (s : State) (w : VanWindow) :
    (s.send kind body).ownCandidate w = s.ownCandidate w ∧ (s.send kind body).ownRank w = s.ownRank w ∧
      (s.send kind body).offerBike w = s.offerBike w := by
  rw [State.send_eq]
  exact ⟨rfl, rfl, rfl⟩

end

/-! ### A released bike treated as taken (R118) -/

section
variable {s : State} {w : VanWindow} {h : HireRecord} {n : Nat}

/-- A take is told with one notice at most. -/
theorem State.announceTake_cases (r : HireRecord) (s : State) :
    s.announceTake r = s ∨ ∃ kind body, kind ≠ .bcn ∧ s.announceTake r = s.send kind body := by
  unfold State.announceTake
  split
  · unfold State.offerHir
    split
    · exact .inr ⟨_, _, by simp, rfl⟩
    · exact .inl rfl
  · split
    · exact .inr ⟨_, _, by simp, rfl⟩
    · exact .inl rfl

theorem State.announceTake_eq (r : HireRecord) (s : State) : s.announceTake r = { s with line := (s.announceTake r).line } := by
  rcases s.announceTake_cases r with same | ⟨kind, body, _, told⟩
  · rw [same]
  · rw [told]
    exact s.send_eq kind body

theorem Line.Within.announceTake (hline : s.line.Within n) (hn : n < 8) (r : HireRecord) :
    (s.announceTake r).line.Within (n + 1) := by
  rcases s.announceTake_cases r with same | ⟨kind, body, hk, told⟩
  · rw [same]
    exact hline.mono (by omega)
  · rw [told]
    exact hline.offer hk hn

/-- The end of a hire is a cause of R170, and finds the post IDLE behind the take's notice. -/
theorem State.hireTakes_evaluates (hrecord : s.hire.record = some h) (hstate : s.hire.state ≠ .idle) :
    s.hireTakes =
      State.evaluateOffer
        { s with line := (s.announceTake h).line, hire := { s.hire with state := .idle, record := none } } := by
  have takes : s.hireTakes = (s.announceTake h).hireIdle := by simp [State.hireTakes, hrecord]
  rw [takes, State.announceTake_eq]
  simp [State.hireIdle, State.evaluateSince, evaluationCaused, hstate]

/-- A bike that leaves an IDLE post makes its offer to collect void (R171), and no other is made. -/
theorem State.Offers.bikeLeaves {e : TxEntry} (hoffers : s.Offers e) (hdocked : s.dock.docked = true)
    (hidle : s.hire.state = .idle) (hw : s.van.window = some w) (hcollect : w.mode = .collect) :
    s.bikeLeaves = s.partsLeave ∧ s.partsLeave.van = { s.van with hold := false, voidMark := true } := by
  have left : s.partsLeave.van = { s.van with hold := false, voidMark := true } := by
    simp [State.partsLeave, State.vanLeaves, State.duplicateLeaves, State.faultLeaves, State.tagLeaves, State.dockLeaves,
      State.offerQueuedIn, hw, hcollect, hoffers.offer]
  refine ⟨?_, left⟩
  rw [State.bikeLeaves_of_idle hdocked hidle]
  exact State.evaluateSince_of_closed (s := s.partsLeave) (.inl (by simp [left, hoffers.offer])) s

end

/-- The end of the hire makes the offer, and the bike's leaving then makes it void: one command, two causes (R170, log 41). -/
theorem releaseTreatedAsTakenOffers {s : State} {w : VanWindow} {due : Ms} {h : HireRecord}
    (hpost : s.straps.role = .post) (hw : s.van.window = some w) (hcollect : w.mode = .collect)
    (ho : s.van.offer = .none_) (hbarred : s.barred = false) (hclash : s.line.clash = false) (hline : s.line.Within 4)
    (hstate : s.hire.state = .releasing) (hrecord : s.hire.record = some h) (hdue : h.settleAt = some due)
    (hcount : s.dock.count < 6) (hdocked : s.dock.docked = true) :
    let u : State := { s.reachMs due with hire := { s.hire with state := .idle, record := none } }
    u.ownCandidate w = true → u.ownRank w + w.accepted.length ≤ w.places →
    ∃ e t, exec .settleTimerExpiry s = answerNext t ∧ t.line.HoldsOfr e ∧
      e.body = ofrBody w.serial (u.offerBike w) (u.ownRank w) ∧ t.van.offer = .queued ∧ t.van.offerRef = e.ref ∧
      t.van.voidMark = true ∧ t.dock.docked = false ∧ t.hire.state = .idle := by
  intro u hc hrank
  let r := s.reachMs due
  let idle : State := { u with line := (r.announceTake h).line }
  obtain ⟨e, offers, body⟩ :=
    State.offers_evaluateOffer (s := idle) (w := w) (n := 5) (by simpa [idle, u] using hpost)
      (by simpa [idle, u] using hw) (by simpa [idle, u] using ho) hc hrank
      (State.refusesOffer_of_post (by simpa [idle, u] using hpost) (by simpa [idle, u, State.barred] using hbarred)
        (by simpa [idle, u, r] using hclash))
      (Line.Within.announceTake (s := r) (by simpa [r] using hline) (by omega) h) (by omega)
  have takes : r.hireTakes = idle.evaluateOffer := by
    rw [State.hireTakes_evaluates (h := h) (by simpa [r] using hrecord) (by simp [r, hstate])]
    simp [idle, u, r]
  obtain ⟨leaves, left⟩ := offers.bikeLeaves (w := w) (by simpa [idle, u] using hdocked) (by simp [idle, u])
    (by simpa [idle, u] using hw) hcollect
  have step := exec_settleTimerExpiry hstate hrecord hdue
  rw [State.settleEnds, if_neg (by simpa using Nat.not_le.2 hcount), State.treatAsTaken, takes, leaves] at step
  refine ⟨e, _, step, ?_, body, ?_, ?_, ?_, ?_, ?_⟩
  · simpa using offers.held
  · simp [left, offers.offer]
  · simp [left, offers.ref]
  · simp [left]
  · simp
  · simp [idle, u]

/-! ### A battery below 5 % (R68) -/

section
variable {s : State} {w : VanWindow} {code : BitVec 10}

/-- A docked and read bike at fault level 0 has neither LOW-CHARGE nor FLAT held (R149). -/
theorem State.lowCharge_of_bikeLevel (hdocked : s.dock.docked = true) (hheld : s.copyHeld = true) (hlevel : s.bikeLevel = 0) :
    s.fault.lowCharge = false := by
  cases hl : s.fault.lowCharge with
  | false => rfl
  | true =>
    have copy : s.tag.copy.state = .held := by simpa [State.copyHeld] using hheld
    simp [State.bikeLevel, hdocked, copy, hl] at hlevel

/-- LOW-CHARGE of a docked and read bike lifts its fault level from 0 (R149). -/
theorem State.bikeLevel_of_lowCharge (hdocked : s.dock.docked = true) (hheld : s.copyHeld = true)
    (hlow : s.fault.lowCharge = true) : s.bikeLevel ≠ 0 :=
  fun hlevel => by simpa [hlow] using State.lowCharge_of_bikeLevel hdocked hheld hlevel

/-- LOW-CHARGE raised at fault level 0 is a cause of R170, evaluated behind its FLT. -/
theorem State.raiseLowCharge_evaluates (hdocked : s.dock.docked = true) (hheld : s.copyHeld = true)
    (hlevel : s.bikeLevel = 0) :
    ∃ body, s.raiseLowCharge =
      State.evaluateOffer (State.send .flt body { s with fault := { s.fault with lowCharge := true } }) := by
  let low : State := State.offerAutoFlt 9 1 { s with fault := { s.fault with lowCharge := true } }
  have clear : s.fault.lowCharge = false := State.lowCharge_of_bikeLevel hdocked hheld hlevel
  have raises : s.raiseLowCharge = low.evaluateSince s := by simp [State.raiseLowCharge, clear, low]
  have lifted : low.bikeLevel ≠ 0 :=
    State.bikeLevel_of_lowCharge (by simpa [low] using hdocked) (by simpa [low, State.copyHeld] using hheld) (by simp [low])
  have caused : evaluationCaused s low = true := by simp [evaluationCaused, hlevel, Ne.symm lifted]
  rw [raises, State.evaluateSince, if_pos caused]
  exact ⟨_, rfl⟩

/-- Below 5 % LOW-CHARGE comes before FLAT, each with its evaluation. -/
theorem State.judgeCh1_of_flat (hlow : chargePercent code < 5) : s.judgeCh1 code = s.raiseLowCharge.raiseFlat := by
  have low : chargePercent code < 15 := by omega
  have clears : ¬ 20 ≤ chargePercent code := by omega
  simp [State.judgeCh1, hlow, low, clears]

end

/-- The offer is made behind the FLT of LOW-CHARGE, at level 1; FLAT and the burst's other channels find it made (log 11). -/
theorem flatBatteryOffersAtLowCharge {s : State} {w : VanWindow} {i : Instant} {code0 code1 code2 code3 : BitVec 10}
    (hpost : s.straps.role = .post) (hw : s.van.window = some w) (ho : s.van.offer = .none_) (hbarred : s.barred = false)
    (hclash : s.line.clash = false) (hline : s.line.Within 4) (hconv : s.dock.converter = .busy (.periodic true) i)
    (hdocked : s.dock.docked = true) (hheld : s.copyHeld = true) (hlevel : s.bikeLevel = 0)
    (hlow : chargePercent code1 < 5) :
    let u : State :=
      { s.reachInstant i with
        dock := { s.dock with ch1 := { last := some code1, fresh := false } }, fault := { s.fault with lowCharge := true } }
    u.ownCandidate w = true → u.ownRank w + w.accepted.length ≤ w.places →
    ∃ e t, exec (.burstComplete code0 code1 code2 code3) s = answerNext t ∧ t.Offers e ∧
      e.body = ofrBody w.serial (u.offerBike w) (u.ownRank w) ∧ t.fault.lowCharge = true ∧ t.fault.flat = true := by
  intro u hc hrank
  let stored : State :=
    { s.reachInstant i with dock := { s.dock with ch1 := { last := some code1, fresh := false } } }
  have taken : (s.reachInstant i).takeCh1 code1 = stored.raiseLowCharge.raiseFlat := by
    rw [← State.judgeCh1_of_flat hlow]
    simp [State.takeCh1, stored, hdocked, Channel.judged]
  have level : stored.bikeLevel = 0 := by
    obtain ⟨k, hk⟩ := s.reachInstant_eq i
    simp only [stored, hk]
    exact hlevel
  obtain ⟨flt, raises⟩ := State.raiseLowCharge_evaluates (s := stored) hdocked
    (by simpa [stored, State.copyHeld] using hheld) level
  have lowered : stored.raiseLowCharge = (u.send .flt flt).evaluateOffer := by
    rw [raises]
    simp [u, stored]
  obtain ⟨candidate, rank, bike⟩ := u.send_candidate .flt flt w
  obtain ⟨e, offers, body⟩ :=
    State.offers_evaluateOffer (s := u.send .flt flt) (w := w) (n := 5) (by simpa [u] using hpost) (by simpa [u] using hw)
      (by simpa [u] using ho) (candidate.trans hc) (by rwa [rank])
      (State.refusesOffer_of_post (by simpa [u] using hpost) (by simpa [u, State.barred] using hbarred)
        (by simpa [u] using hclash))
      (Line.Within.offer (s := u) (by simpa [u] using hline) (by simp) (by omega)) (by omega)
  rw [bike, rank] at body
  rw [← lowered] at offers
  have step := exec_burstComplete code0 code1 code2 code3 hconv
  rw [State.takeBurst_battery, taken] at step
  refine ⟨e, _, step, ((offers.raiseFlat.takeCh2 code2).takeCh3 _ code3).nextBurst, body, ?_, ?_⟩
  · simp [State.raiseFlat_fault, State.raiseLowCharge_fault]
  · simp [State.raiseFlat_fault]

theorem eachCauseIsEvaluated : Claims.EachCauseIsEvaluated := by
  intro s w hpost hw hcollect ho _ hbarred hclash hlen hrefs offered
  have line : s.line.Within 4 := ⟨by omega, hrefs⟩
  have body (u : State) : ofrBody w.serial (u.offerBike w) (u.ownRank w) =
      be1 w.serial ++ be4 ((u.copyId.map IdSection.bikeId).getD 0) ++ be1 (u.ownRank w) := by
    rw [ofrBody, State.offerBike_eq, if_pos hcollect]
  refine ⟨?release, ?battery⟩
  case release =>
    intro due h hstate hrecord hdue hcount hdocked u hc hrank
    obtain ⟨e, t, step, held, ebody, offer, ref, void, docked, idle⟩ :=
      releaseTreatedAsTakenOffers hpost hw hcollect ho hbarred hclash line hstate hrecord hdue hcount hdocked hc hrank
    exact completes_of_answer step ⟨⟨by simp [offer], e, held.conclude, held.kind, by simp [ref], ebody.trans (body u)⟩,
      by simp [void], by simp [docked], by simp [idle]⟩
  case battery =>
    intro i code0 code1 code2 code3 hconv hdocked hheld hlevel hlow u hc hrank
    obtain ⟨e, t, step, offers, ebody, low, flat⟩ :=
      flatBatteryOffersAtLowCharge (code0 := code0) (code2 := code2) (code3 := code3) hpost hw ho hbarred hclash line hconv
        hdocked hheld hlevel hlow hc hrank
    exact completes_of_answer step ⟨⟨by simp [offers.offer], e, offers.held.conclude, offers.held.kind,
      by simp [offers.ref], ebody.trans (body u)⟩, by simp [low], by simp [flat], by simp [offers.valid]⟩

/-- Settles O23: an evaluation offers the candidate within the places, and each cause of a step is one evaluation. -/
theorem evaluationsAreMade : Obligations.EvaluationsAreMade := ⟨evaluationOffersTheCandidate, eachCauseIsEvaluated⟩

end Sys2Proof.Machine
end

section
/-! A settlement slot in GATHERING: what its marks leave of it, and the inputs it rates with (R132, R133, R139). -/

namespace Sys2Proof.Machine

/-! ### Replaced slots -/

section
variable {s : State} {name : SlotName} {slot : Slot}

theorem State.setPhase_of_slot (h : s.settle.slot name = some slot) (phase : SlotPhase) :
    s.setPhase name phase = s.setSlot name (some { slot with phase := phase }) := by
  rw [State.setPhase, h]

/-- A slot replaced is the settlement unit's change alone. -/
theorem State.setSlot_touches (name : SlotName) (slot : Option Slot) (s : State) :
    ({ settle := true } : Touched).frame s (s.setSlot name slot) := by
  simp [Touched.frame]

/-- Bringing the clock to a timer touches no block. -/
theorem State.reachMs_touches (b : Touched) (due : Ms) (s : State) : b.frame s (s.reachMs due) := by
  simp [Touched.frame]

/-! ### A slot that rates (R133, R139) -/

/-- A slot whose rating has its inputs enters RATING. -/
theorem State.enterRating_of_inputs {inputs : RatingInputs} (hslot : s.settle.slot name = some slot)
    (hinputs : s.ratingInputs slot.record = some inputs) :
    s.enterRating name = s.setSlot name (some { slot with phase := .rating inputs (s.clock.ms + 2) }) := by
  simp only [State.enterRating, hslot, hinputs]
  exact State.setPhase_of_slot hslot _

/-- With the end known and the plan's record in the active tariff, a return has the inputs of its rating. -/
theorem State.ratingInputs_of_known {r : ReturnRecord} {ms : Nat} {plan : PlanRecord} (hend : r.end_ = .known ms)
    (hplan : s.settle.active.planRecord r.plan = some plan) :
    s.ratingInputs r = some
      { start := r.start, end_ := ms / 1000, plan := plan, bands := s.settle.active.bandTable
        version := s.settle.active.version, startSpend := r.startSpend, ebike := r.ebike
        atStartPost := s.atStartPost r } := by
  rw [State.ratingInputs, hplan, hend]

/-- The inputs are read from the active tariff, the number and the station id. -/
theorem State.ratingInputs_congr {t : State} (hactive : t.settle.active = s.settle.active)
    (hstraps : t.straps = s.straps) (hadopted : t.peers.adoptedId = s.peers.adoptedId) (r : ReturnRecord) :
    t.ratingInputs r = s.ratingInputs r := by
  have start : t.atStartPost r = s.atStartPost r := by
    rw [State.atStartPost, State.atStartPost, State.number, State.number, hstraps, hadopted]
  rw [State.ratingInputs, State.ratingInputs, hactive, start]

end

/-! ### A slot marked (R132) -/

section
variable {s : State} {name n : SlotName} {r : ReturnRecord} {time tariff station : Bool} {at_ : Ms}
  {f : ReturnRecord → Bool × Bool × Bool → Bool × Bool × Bool}

/-- A slot with a mark set stays in GATHERING. -/
theorem State.leaveGathering_of_marked
    (hslot : s.settle.slot name = some { record := r, phase := .gathering time tariff station at_ })
    (hmark : time = true ∨ tariff = true ∨ station = true) : s.leaveGathering name = s := by
  unfold State.leaveGathering
  split
  · rename_i hclear
    rw [hslot] at hclear
    simp_all
  · rfl

/-- A slot without a mark leaves GATHERING. -/
theorem State.leaveGathering_of_clear
    (hslot : s.settle.slot name = some { record := r, phase := .gathering false false false at_ }) :
    s.leaveGathering name = s.enterRating name := by
  rw [State.leaveGathering, hslot]

/-- The marks of a GATHERING slot replaced, before it is asked whether it rates. -/
theorem State.markSlot_of_gathering
    (hslot : s.settle.slot name = some { record := r, phase := .gathering time tariff station at_ }) :
    s.markSlot f name =
      (s.setSlot name (some
        { record := r
          phase := .gathering (f r (time, tariff, station)).1 (f r (time, tariff, station)).2.1
            (f r (time, tariff, station)).2.2 at_ })).leaveGathering name := by
  rw [State.markSlot, hslot]
  exact congrArg (State.leaveGathering name) (State.setPhase_of_slot hslot _)

/-- A slot left with a mark waits on. -/
theorem State.markSlot_slot_of_marked
    (hslot : s.settle.slot name = some { record := r, phase := .gathering time tariff station at_ })
    {time' tariff' station' : Bool} (hf : f r (time, tariff, station) = (time', tariff', station'))
    (hmark : time' = true ∨ tariff' = true ∨ station' = true) :
    (s.markSlot f name).settle.slot name =
      some { record := r, phase := .gathering time' tariff' station' at_ } := by
  rw [State.markSlot_of_gathering hslot, hf,
    State.leaveGathering_of_marked (by rw [State.setSlot_slot, if_pos rfl]) hmark, State.setSlot_slot, if_pos rfl]

/-- A slot left without a mark rates, when its rating has its inputs. -/
theorem State.markSlot_slot_of_clear {inputs : RatingInputs}
    (hslot : s.settle.slot name = some { record := r, phase := .gathering time tariff station at_ })
    (hf : f r (time, tariff, station) = (false, false, false)) (hinputs : s.ratingInputs r = some inputs) :
    (s.markSlot f name).settle.slot name = some { record := r, phase := .rating inputs (s.clock.ms + 2) } := by
  let cleared := s.setSlot name (some { record := r, phase := .gathering false false false at_ })
  have slot : cleared.settle.slot name = some { record := r, phase := .gathering false false false at_ } := by
    rw [State.setSlot_slot, if_pos rfl]
  have read : cleared.ratingInputs r = some inputs := by
    rw [State.ratingInputs_congr (s := s) (by simp [cleared]) (by simp [cleared]) (by simp [cleared]), hinputs]
  rw [State.markSlot_of_gathering hslot, hf, State.leaveGathering_of_clear slot,
    State.enterRating_of_inputs slot read, State.setSlot_slot, if_pos rfl]
  simp [cleared]

/-- Marking one slot leaves the other. -/
theorem State.markSlot_slot_other (hn : n ≠ name) : (s.markSlot f name).settle.slot n = s.settle.slot n := by
  unfold State.markSlot
  split
  · rcases State.leaveGathering_slot name n _ with still | ⟨same, _⟩
    · rw [still, State.setPhase_slot, if_neg hn]
    · exact absurd same hn
  · rfl

/-- Each slot is marked as it stood, in a state that differs in the other slot at most. -/
theorem State.markSlots_slot (s : State) (f : ReturnRecord → Bool × Bool × Bool → Bool × Bool × Bool) (n : SlotName) :
    ∃ v : State, (s.markSlots f).settle.slot n = (v.markSlot f n).settle.slot n ∧
      v.settle.slot n = s.settle.slot n ∧ v.settle.active = s.settle.active ∧ v.clock = s.clock ∧
      v.straps = s.straps ∧ v.peers = s.peers := by
  cases n with
  | a => exact ⟨s, State.markSlot_slot_other (by simp), rfl, rfl, rfl, rfl, rfl⟩
  | b => exact ⟨s.markSlot f .a, rfl, State.markSlot_slot_other (by simp), by simp⟩

end

end Sys2Proof.Machine
end

section
/-! A TRF at a post: its piece staged by the versions held, and a complete staging that becomes the active tariff and tests
the waiting returns again (R132, R136 to R139). -/

namespace Sys2Proof.Machine

/-! ### The frame at the blocks -/

/-- A notice of a peer that is no OFR leaves the blocks of a post as the peer table and the peer change leave them. -/
theorem State.takes.leftToPost {c : LineChar} {f : Frame} {s : State} (h : s.takes c f) (hpost : s.straps.role = .post)
    (hbcn : f.kind ≠ .bcn) (hofr : f.kind ≠ .ofr) :
    ∃ u, exec (.frameReceived c) s = answerNext (u.postTakes f none) ∧ u.clock.ms = s.heardAt c ∧ s.LeftToBlocks u := by
  obtain ⟨k, l, step, hclock, _⟩ := h.step
  obtain ⟨v, hv⟩ : ∃ v : State, v = { s with clock := k, line := l } := ⟨_, rfl⟩
  rw [← hv] at step
  have heard : v.peerHears f = v.hearFrom f.sender v.clock.ms := v.peerHears_of_notice hbcn
  obtain ⟨settle, adopted⟩ := (v.peerHears f).handOn_settle f v
  have left : s.LeftToBlocks ((v.peerHears f).handOn f v) := by
    constructor
    case settle => rw [settle, heard, hv]; rfl
    case adoptedId => rw [adopted, heard, hv]; rfl
    all_goals simp [hv]
  refine ⟨(v.peerHears f).handOn f v, ?_, by simp [hv, hclock], left⟩
  have taken : v.takeFromPeer f = ((v.peerHears f).handOn f v).postTakes f none := by
    simp only [State.takeFromPeer, hofr, decide_false, Bool.and_false, Bool.false_eq_true, if_false, State.blocksTake,
      left.straps, hpost]
  rw [step, taken]

/-- A post takes the TRF of the terminal, and no other TRF (R136). -/
theorem State.postTakes_trf {f : Frame} (hk : f.kind = .trf) (own : Option Nat) (s : State) :
    s.postTakes f own = if f.sender = 0 then s.takeTrf f.body else s := by
  rw [State.postTakes, hk]

/-! ### The swap (R138) -/

section
variable {s : State} {v : TrfValues} {staged : Tariff} {body : List Byte}

/-- The staging becomes the active tariff, and staging is emptied. -/
def State.swapped (s : State) : State :=
  { s with settle := { s.settle with active := s.settle.staging, staging := Tariff.empty } }

@[simp] theorem State.swapped_slot (s : State) (name : SlotName) : s.swapped.settle.slot name = s.settle.slot name := by
  cases name <;> rfl

/-- No swap is made of an incomplete staging, and none while a slot rates. -/
theorem State.swapTariff_of_waiting (h : s.settle.staging.complete = false ∨
    slotRating s.settle.slotA = true ∨ slotRating s.settle.slotB = true) : s.swapTariff = s := by
  refine if_neg ?_
  rcases h with h | h | h <;> simp [h]

/-- A swap tests the TARIFF mark of both slots by the staging that becomes active. -/
theorem State.swapTariff_of_complete (hcomplete : s.settle.staging.complete = true)
    (hslotA : slotRating s.settle.slotA = false) (hslotB : slotRating s.settle.slotB = false) :
    s.swapTariff = s.swapped.markSlots (fun r m => (m.1, tariffMissing s.settle.staging r.plan, m.2.2)) :=
  if_pos (by simp [hcomplete, hslotA, hslotB])

/-- A return that the new tariff leaves with a mark waits on, its TARIFF mark as the new tariff has it. -/
theorem State.swapTariff_waits (hcomplete : s.settle.staging.complete = true)
    (hslotA : slotRating s.settle.slotA = false) (hslotB : slotRating s.settle.slotB = false) {name : SlotName}
    {r : ReturnRecord} {time tariff station : Bool} {at_ : Ms}
    (hslot : s.settle.slot name = some { record := r, phase := .gathering time tariff station at_ })
    (hmark : time = true ∨ station = true ∨ s.settle.staging.planRecord r.plan = none) :
    s.swapTariff.settle.slot name =
      some { record := r
             phase := .gathering time (s.settle.staging.planRecord r.plan).isNone station at_ } := by
  rw [State.swapTariff_of_complete hcomplete hslotA hslotB]
  obtain ⟨u, marked, slot, _⟩ := s.swapped.markSlots_slot _ name
  rw [State.swapped_slot, hslot] at slot
  rw [marked]
  refine State.markSlot_slot_of_marked slot rfl ?_
  rcases hmark with h | h | h
  · exact .inl h
  · exact .inr (.inr h)
  · exact .inr (.inl (by simp [h]))

/-- A return that the new tariff leaves without a mark rates by it, when its end is known (R133, R139). -/
theorem State.swapTariff_rates (hcomplete : s.settle.staging.complete = true)
    (hslotA : slotRating s.settle.slotA = false) (hslotB : slotRating s.settle.slotB = false) {name : SlotName}
    {r : ReturnRecord} {tariff : Bool} {at_ : Ms} {ms : Nat} {plan : PlanRecord}
    (hslot : s.settle.slot name = some { record := r, phase := .gathering false tariff false at_ })
    (hplan : s.settle.staging.planRecord r.plan = some plan) (hend : r.end_ = .known ms) :
    s.swapTariff.settle.slot name =
      some { record := r
             phase := .rating
               { start := r.start, end_ := ms / 1000, plan := plan, bands := s.settle.staging.bandTable
                 version := s.settle.staging.version, startSpend := r.startSpend, ebike := r.ebike
                 atStartPost := s.atStartPost r } (s.clock.ms + 2) } := by
  rw [State.swapTariff_of_complete hcomplete hslotA hslotB]
  obtain ⟨u, marked, slot, active, clock, straps, peers⟩ := s.swapped.markSlots_slot _ name
  have inputs := (State.ratingInputs_congr active straps (by rw [peers]) r).trans
    (State.ratingInputs_of_known (s := s.swapped) hend hplan)
  rw [State.swapped_slot, hslot] at slot
  rw [marked, State.markSlot_slot_of_clear slot (by simp [tariffMissing, hplan]) inputs, clock]
  rfl

/-! ### The piece staged (R137) -/

/-- A piece below the versions held, or none, is disregarded. -/
theorem State.takeTrf_of_disregarded (h : ∀ v, trfOf body = some v →
    v.version ≤ s.settle.active.version ∨ v.version < s.settle.staging.version) : s.takeTrf body = s := by
  unfold State.takeTrf
  split
  · rename_i v hv
    rw [stagePiece_of_older (h v hv)]
  · rfl

/-- A piece that is stored changes the staging, and the staging may then be swapped. -/
theorem State.takeTrf_of_staged (hv : trfOf body = some v)
    (hstaged : stagePiece s.settle.active s.settle.staging v = some staged) :
    s.takeTrf body = State.swapTariff { s with settle := { s.settle with staging := staged } } := by
  simp only [State.takeTrf, hv, hstaged]

end

/-- Settles O25: the TRF reaches `takeTrf` with the slots, the tariffs and the station id as they were; `stagePiece` goes by
the two versions, and a swap marks each slot as it stood. -/
theorem tariffIsStaged : Obligations.TariffIsStaged := by
  intro c f s htakes hpost hk
  obtain ⟨u, step, hclock, left⟩ := htakes.leftToPost hpost (by simp [hk]) (by simp [hk])
  rw [State.postTakes_trf hk] at step
  refine ⟨?terminal, ?other⟩
  case terminal =>
    intro v hsender hv base staged
    rw [if_pos hsender] at step
    let w : State := { u with settle := { s.settle with staging := staged } }
    have stored (ha : s.settle.active.version < v.version) (hs : s.settle.staging.version ≤ v.version) :
        u.takeTrf f.body = w.swapTariff := by
      rw [State.takeTrf_of_staged hv (by rw [left.settle]; exact stagePiece_of_newer ha hs), left.settle]
    refine ⟨fun hold => ?_, fun ha hs hincomplete => ?_, fun ha hs hcomplete hslotA hslotB => ?_,
      fun ha hs hrating => ?_⟩
    · have older : ∀ w, trfOf f.body = some w →
          w.version ≤ u.settle.active.version ∨ w.version < u.settle.staging.version := by
        intro w hw
        obtain rfl := Option.some.inj (hv.symm.trans hw)
        rwa [left.settle]
      rw [State.takeTrf_of_disregarded older] at step
      exact completes_of_answer step (by simp [left.settle])
    · rw [stored ha hs, State.swapTariff_of_waiting (s := w) (.inl hincomplete)] at step
      exact completes_of_answer step (by simp [w])
    · have swapped := State.swapTariff_of_complete (s := w) hcomplete hslotA hslotB
      have slots (name : SlotName) : (conclude w.swapTariff).settle.slot name = w.swapTariff.settle.slot name := by simp
      have held (name : SlotName) : w.settle.slot name = s.settle.slot name := by cases name <;> rfl
      have start (r : ReturnRecord) : w.atStartPost r = s.atStartPost r := left.atStartPost r
      rw [stored ha hs] at step
      refine completes_of_answer step ⟨?_, ?_, fun name r time tariff station at_ hslot => ⟨fun hmark => ?_, ?_⟩⟩
      · show (conclude w.swapTariff).settle.active = staged
        simp [swapped, State.swapped, w]
      · show (conclude w.swapTariff).settle.staging = Tariff.empty
        simp [swapped, State.swapped]
      · exact (slots name).trans
          (State.swapTariff_waits (s := w) hcomplete hslotA hslotB ((held name).trans hslot) hmark)
      · rintro ms plan rfl rfl hplan hend
        have rates := State.swapTariff_rates (s := w) hcomplete hslotA hslotB ((held name).trans hslot) hplan hend
        rw [start, show w.clock.ms = s.heardAt c from hclock] at rates
        exact (slots name).trans rates
    · rw [stored ha hs, State.swapTariff_of_waiting (s := w) (.inr hrating)] at step
      exact completes_of_answer step (by simp [w])
  case other =>
    intro hnone
    have still : (if f.sender = 0 then u.takeTrf f.body else u) = u := by
      rcases hnone with h | h
      · exact if_neg h
      · rw [State.takeTrf_of_disregarded (by simp [h])]
        exact ite_self u
    rw [still] at step
    exact completes_of_answer step (by simp [left.settle])

end Sys2Proof.Machine
end

section
/-! The end of a settlement slot: its STL queued, refused or abandoned, the write-back decided, and the slot FREE (R133,
R134, R143 to R145). -/

namespace Sys2Proof.Machine

section
variable {s t u : State} {name : SlotName} {r : ReturnRecord} {v : Settlement} {retry : Option Ms} {abandon : Ms}

/-! ### The write-back (R145) -/

/-- A write that begins touches the tag port alone. -/
theorem State.writes_touches (contents : SectionContents) (requester : Requester) (s : State) :
    ({ tag := true } : Touched).frame s (s.writes contents requester) := by
  simp [Touched.frame, State.writes]

/-- The LAST SETTLEMENT a settlement writes back. -/
def Settlement.written (v : Settlement) : SectionContents :=
  .last (some { fare := v.fare, reason := v.reason, endAt := v.endAt, tariff := v.version })

/-- The tag port is at rest with the copy of the returned bike, and no hire is in progress. -/
structure State.WritesBack (s : State) (r : ReturnRecord) : Prop where
  bike : ∃ i, s.copyId = some i ∧ i.bikeId = r.bikeId
  idle : s.hire.state = .idle
  operation : s.tag.operation = .idle
  requests : s.tag.requests = []

theorem State.WritesBack.congr (h : s.WritesBack r) (htag : t.tag = s.tag) (hhire : t.hire = s.hire) : t.WritesBack r := by
  obtain ⟨bike, idle, operation, requests⟩ := h
  exact ⟨by rwa [State.copyId, htag, ← State.copyId], hhire ▸ idle, htag ▸ operation, htag ▸ requests⟩

/-- The settlement is written at once. -/
theorem State.WritesBack.writeBack (h : s.WritesBack r) (v : Settlement) :
    s.writeBack r v = s.writes v.written .settlement := by
  obtain ⟨⟨i, hid, hbike⟩, idle, operation, requests⟩ := h
  obtain ⟨held, _⟩ := State.copyId_eq_some_iff.1 hid
  rw [State.writeBack_of_same hid hbike idle, State.requestWrite_idle _ _ s (.inl held) operation requests]
  rfl

/-- A copy that is not HELD has no ID to be read. -/
theorem State.copyId_of_unheld (h : s.copyHeld = false) : s.copyId = none := by
  cases hid : s.copyId with
  | none => rfl
  | some i =>
    obtain ⟨held, _⟩ := State.copyId_eq_some_iff.1 hid
    simp [State.copyHeld, held] at h

/-! ### The STL (R143) -/

/-- A post that is not barred, with room in the queue for a notice. -/
structure State.TakesStl (s : State) : Prop where
  post : s.straps.role = .post
  unbarred : s.barred = false
  room : s.line.queue.length < 8
  refs : ∀ e ∈ s.line.queue, e.ref < s.line.nextRef

theorem State.TakesStl.congr (h : s.TakesStl) (hstraps : t.straps = s.straps) (hline : t.line = s.line) : t.TakesStl := by
  obtain ⟨post, unbarred, room, refs⟩ := h
  exact ⟨hstraps ▸ post, by rwa [State.barred, hstraps, ← State.barred], hline ▸ room, hline ▸ refs⟩

/-- A notice offered touches no block but the line controller. -/
theorem State.send_touches (b : Touched) (kind : Kind) (body : List Byte) (s : State) :
    b.frame s (s.send kind body) := by
  simp [Touched.frame]

/-- The notice of a settlement is on its way. -/
abbrev State.stlSent (r : ReturnRecord) (v : Settlement) (s : State) : State := s.send .stl (stlBody (stlValues r v))

/-- A DONE slot that is finished decides its write-back and is FREE. -/
theorem State.finishSlot_of_done
    (hslot : s.settle.slot name = some { record := r, phase := .done v retry abandon }) :
    s.finishSlot name = (s.writeBack r v).setSlot name none := by
  rw [State.finishSlot, hslot]

/-- A DONE slot whose STL is queued is finished. -/
theorem State.TakesStl.offerSlot (h : s.TakesStl)
    (hslot : s.settle.slot name = some { record := r, phase := .done v retry abandon }) :
    s.offerSlot name = ((s.stlSent r v).writeBack r v).setSlot name none := by
  have queued : s.offer .stl (stlBody (stlValues r v)) = (s.stlSent r v, some s.line.nextRef) :=
    Prod.ext rfl (by
      rw [State.offer_room _ _ s (State.refusesOffer_stl h.post h.unbarred) (by simp) h.room])
  simp only [State.offerSlot, hslot, queued]
  exact State.finishSlot_of_done (by simpa using hslot)

/-- A DONE slot whose STL is refused offers it again 250 ms later. -/
theorem State.offerSlot_of_barred (hbarred : s.barred = true)
    (hslot : s.settle.slot name = some { record := r, phase := .done v retry abandon }) :
    s.offerSlot name =
      s.setSlot name (some { record := r, phase := .done v (some (s.clock.ms + 250)) abandon }) := by
  have refused : s.offer .stl (stlBody (stlValues r v)) = (s, none) :=
    State.offer_refused _ _ s (by simp [State.refusesOffer, hbarred])
  simp only [State.offerSlot, hslot, refused]
  exact State.setPhase_of_slot hslot _

/-- An STL queued before the slot is finished is told when the step has concluded. -/
theorem State.TakesStl.tells (h : s.TakesStl) (hline : t.line = (s.stlSent r v).line) :
    (conclude t).TellsStl (stlValues r v) := by
  have held : t.line.Holds (s.newEntry .stl (stlBody (stlValues r v))) :=
    hline ▸ State.send_holds (State.refusesOffer_stl h.post h.unbarred) (by simp) h.room h.refs
  exact ⟨_, held.conclude (by simp [State.newEntry]), rfl, rfl⟩

/-! ### The slot's timers -/

theorem exec_gatheringExpiry {time tariff station : Bool} {due : Ms}
    (hslot : s.settle.slot name = some { record := r, phase := .gathering time tariff station due }) :
    exec (.gatheringExpiry name) s = answerNext ((s.reachMs due).gatheringEnds name r time tariff) := by
  show answerNext _ = _
  rw [hslot]

theorem exec_ratingComplete {inputs : RatingInputs} {due : Ms}
    (hslot : s.settle.slot name = some { record := r, phase := .rating inputs due }) :
    exec (.ratingComplete name) s =
      answerNext (((s.reachMs due).enterDone name (rate inputs)).swapTariff.offerSlot name) := by
  show answerNext _ = _
  rw [hslot]

theorem exec_stlRetryExpiry {due : Ms}
    (hslot : s.settle.slot name = some { record := r, phase := .done v (some due) abandon }) :
    exec (.stlRetryExpiry name) s = answerNext ((s.reachMs due).offerSlot name) := by
  show answerNext _ = _
  rw [hslot]

theorem exec_stlAbandon (hslot : s.settle.slot name = some { record := r, phase := .done v retry abandon }) :
    exec (.stlAbandon name) s = answerNext ((s.reachMs abandon).finishSlot name) := by
  show answerNext _ = _
  rw [hslot]

/-- A slot enters DONE with its settlement, to be queued within 30,000 ms. -/
theorem State.enterDone_of_slot {slot : Slot} (hslot : s.settle.slot name = some slot) :
    s.enterDone name v = s.setSlot name (some { slot with phase := .done v none (s.clock.ms + 30000) }) :=
  State.setPhase_of_slot hslot _

theorem State.enterDone_slot {slot : Slot} (hslot : s.settle.slot name = some slot) :
    (s.enterDone name v).settle.slot name = some { slot with phase := .done v none (s.clock.ms + 30000) } := by
  rw [State.enterDone_of_slot hslot, State.setSlot_slot, if_pos rfl]

/-- A slot that becomes DONE while no tag is held: its STL is queued, and the slot is FREE. -/
theorem State.TakesStl.enterDone_offerSlot (h : s.TakesStl) (hcopy : s.copyHeld = false) {phase : SlotPhase}
    (hslot : s.settle.slot name = some { record := r, phase := phase }) :
    let t := conclude ((s.enterDone name v).offerSlot name)
    t.settle.slot name = none ∧ t.tag = s.tag ∧ t.settle.active = s.settle.active ∧ t.TellsStl (stlValues r v) := by
  let done := s.enterDone name v
  have takes : done.TakesStl := h.congr (by simp [done]) (by simp [done])
  have unread : (done.stlSent r v).copyId = none :=
    State.copyId_of_unheld (by simpa [State.copyHeld, done] using hcopy)
  have finished : done.offerSlot name = (done.stlSent r v).setSlot name none := by
    rw [takes.offerSlot (State.enterDone_slot hslot), State.writeBack_of_apart (.inl unread)]
  rw [finished]
  refine ⟨by simp [State.setSlot_slot], by simp [done], by simp [done], takes.tells (by simp)⟩

end

/-! ### The gathering timer (R134, R147) -/

/-- TIME is the reason before TARIFF. -/
theorem State.gatheringEnds_unrated (name : SlotName) (r : ReturnRecord) {time tariff : Bool}
    (h : time = true ∨ tariff = true) (s : State) :
    s.gatheringEnds name r time tariff = s.settleUnrated name r (if time = true then .time else .tariff) := by
  unfold State.gatheringEnds
  rcases h with rfl | rfl
  · simp
  · split <;> simp [*]

theorem gatheringExpirySettlesUnrated : Claims.GatheringExpirySettlesUnrated := by
  intro name s r time tariff station due hslot hmark hpost hbarred hroom hcopy hrefs
  have takes : (s.reachMs due).TakesStl :=
    State.TakesStl.congr ⟨hpost, hbarred, hroom, hrefs⟩ (by simp) (by simp)
  have step := exec_gatheringExpiry hslot
  rw [State.gatheringEnds_unrated name r hmark] at step
  have outcome := takes.enterDone_offerSlot (v := unrated r (if time = true then .time else .tariff))
    (by simpa [State.copyHeld] using hcopy) (by simpa using hslot)
  simp only [State.reachMs_frame] at outcome
  exact completes_of_answer step outcome

theorem gatheringExpiryWithoutStationRates : Claims.GatheringExpiryWithoutStationRates := by
  intro name s r due ms plan hslot hend hplan hadopted
  let u := s.reachMs due
  have slot : u.settle.slot name = some { record := r, phase := .gathering false false true due } := by
    simpa [u] using hslot
  have inputs := State.ratingInputs_of_known (s := u) hend (by simpa [u] using hplan)
  have away : u.atStartPost r = false := by simp [State.atStartPost, u, hadopted]
  have rates : u.gatheringEnds name r false false = u.enterRating name := rfl
  have step := exec_gatheringExpiry hslot
  rw [rates, State.enterRating_of_inputs slot inputs, away] at step
  refine completes_of_answer step ⟨?_, ?_⟩
  · simp [State.setSlot_slot, u]
  · exact conclude_frame_of _ _ _ ((s.reachMs_touches _ due).trans (State.setSlot_touches name _ _))

/-! ### The rating's end (R138, R143) -/

theorem ratingCompleteOffersTheSettlement : Claims.RatingCompleteOffersTheSettlement := by
  intro name s r inputs due hslot hpost hincomplete
  let u := s.reachMs due
  have slot : u.settle.slot name = some { record := r, phase := .rating inputs due } := by simpa [u] using hslot
  have unswapped : (u.enterDone name (rate inputs)).swapTariff = u.enterDone name (rate inputs) :=
    State.swapTariff_of_waiting (.inl (by simpa [u] using hincomplete))
  have step := exec_ratingComplete hslot
  rw [unswapped] at step
  refine ⟨fun hbarred hroom hcopy hrefs => ?_, fun hbarred => ?_⟩
  · have takes : u.TakesStl := State.TakesStl.congr ⟨hpost, hbarred, hroom, hrefs⟩ (by simp [u]) (by simp [u])
    obtain ⟨free, tag, _, tells⟩ := takes.enterDone_offerSlot (v := rate inputs)
      (by simpa [State.copyHeld, u] using hcopy) slot
    exact completes_of_answer step ⟨free, tag.trans (by simp [u]), tells⟩
  · have done := State.enterDone_of_slot (v := rate inputs) slot
    rw [State.offerSlot_of_barred (by simpa [State.barred, u] using hbarred) (State.enterDone_slot slot)] at step
    refine completes_of_answer step ⟨by simp [State.setSlot_slot, u], conclude_frame_of _ _ _ ?_⟩
    rw [done]
    exact ((s.reachMs_touches _ due).trans (State.setSlot_touches name _ _)).trans (State.setSlot_touches name _ _)

/-! ### The retry and the abandonment (R143, R145) -/

theorem doneSlotsEnd : Claims.DoneSlotsEnd := by
  intro name s r v retry abandon i hslot hpost hid hbike hidle hop hrequests written
  have back : s.WritesBack r := ⟨⟨i, hid, hbike⟩, hidle, hop, hrequests⟩
  have slot (due : Ms) : (s.reachMs due).settle.slot name = some { record := r, phase := .done v retry abandon } := by
    simpa using hslot
  have back' (due : Ms) : (s.reachMs due).WritesBack r := back.congr (by simp) (by simp)
  have finished (u : State) : ({ settle := true, tag := true } : Touched).frame u
      ((u.writes v.written .settlement).setSlot name none) :=
    ((State.writes_touches _ _ u).mono (by simp [Touched.within])).trans
      ((State.setSlot_touches name none _).mono (by simp [Touched.within]))
  refine ⟨?abandon, ?queued, ?refused⟩
  case abandon =>
    have step := exec_stlAbandon hslot
    rw [State.finishSlot_of_done (slot abandon), (back' abandon).writeBack] at step
    refine completes_of_answer step ⟨by simp [State.setSlot_slot], ?_, conclude_frame_of _ _ _ ?_⟩
    · simp [State.writes, Settlement.written, written]
    · exact (s.reachMs_touches _ abandon).trans (finished _)
  case queued =>
    rintro due rfl hbarred hroom hrefs
    have takes : (s.reachMs due).TakesStl :=
      State.TakesStl.congr ⟨hpost, hbarred, hroom, hrefs⟩ (by simp) (by simp)
    have sentBack : ((s.reachMs due).stlSent r v).WritesBack r := back.congr (by simp) (by simp)
    have step := exec_stlRetryExpiry hslot
    rw [takes.offerSlot (slot due), sentBack.writeBack] at step
    refine completes_of_answer step ⟨by simp [State.setSlot_slot], ?_, takes.tells (by simp [State.writes]),
      conclude_frame_of _ _ _ ?_⟩
    · simp [State.writes, Settlement.written, written]
    · exact ((s.reachMs_touches _ due).trans (State.send_touches _ _ _ _)).trans (finished _)
  case refused =>
    rintro due rfl hbarred
    have step := exec_stlRetryExpiry hslot
    rw [State.offerSlot_of_barred (by simpa [State.barred] using hbarred) (slot due)] at step
    exact completes_of_answer step ⟨by simp [State.setSlot_slot], by simp⟩

/-- Settles O53: each timer brings the slot to DONE or to RATING; a DONE slot is finished once its STL is queued or given
up, and a barred post's slot waits for its retry. -/
theorem settlementSlotsEnd : Obligations.SettlementSlotsEnd :=
  ⟨gatheringExpirySettlesUnrated, gatheringExpiryWithoutStationRates, ratingCompleteOffersTheSettlement, doneSlotsEnd⟩

end Sys2Proof.Machine
end

section
/-! Fares: the three ways a ride is priced, the caps, and the band of a minute (R136, R139 to R143). -/

namespace Sys2Proof.Machine

section
variable {i : RatingInputs}

/-! ### The three ways (R140, R142) -/

theorem ratedCharge_of_grace (hpost : i.atStartPost = true) (ht : i.end_ - i.start ≤ i.plan.grace) :
    ratedCharge i = (0, .grace) :=
  if_pos (by simp [hpost, ratingDuration, ht])

/-- A ride that ends elsewhere or after the grace is not free. -/
theorem ratedCharge_beyond_grace (h : i.atStartPost = false ∨ i.plan.grace < i.end_ - i.start) :
    ratedCharge i = if 86400 < i.end_ - i.start then (i.plan.overdueFee, .overdue) else (dayCapped i, .rated) := by
  refine if_neg ?_
  rcases h with h | h
  · simp [h]
  · simp [ratingDuration, Nat.not_le.2 h]

theorem rate_fare (i : RatingInputs) : (rate i).fare = .charge (ratedCharge i).1 ∧ (rate i).reason = (ratedCharge i).2 :=
  ⟨rfl, rfl⟩

/-! ### The caps (R142) -/

theorem blockSum_le (i : RatingInputs) : blockSum i ≤ 999999 := Nat.min_le_right _ _

theorem rideCapped_le (i : RatingInputs) :
    rideCapped i ≤ blockSum i ∧ (i.plan.rideCap ≠ 0 → rideCapped i ≤ i.plan.rideCap) := by
  unfold rideCapped
  split
  · exact ⟨le_rfl, fun h => absurd ‹_› h⟩
  · exact ⟨Nat.min_le_left _ _, fun _ => Nat.min_le_right _ _⟩

theorem dayCapped_le (i : RatingInputs) :
    dayCapped i ≤ rideCapped i ∧ (i.plan.dayCap ≠ 0 → dayCapped i ≤ i.plan.dayCap - i.startSpend) := by
  unfold dayCapped
  split
  · exact ⟨le_rfl, fun h => absurd ‹_› h⟩
  · exact ⟨Nat.min_le_left _ _, fun _ => Nat.min_le_right _ _⟩

/-- What can be charged, by the reason. -/
theorem ratedCharge_cases (i : RatingInputs) :
    ratedCharge i = (0, .grace) ∨ ratedCharge i = (i.plan.overdueFee, .overdue) ∨
      ratedCharge i = (dayCapped i, .rated) := by
  unfold ratedCharge
  split
  · exact .inl rfl
  · split
    · exact .inr (.inl rfl)
    · exact .inr (.inr rfl)

theorem faresStayWithinTheCaps : Claims.FaresStayWithinTheCaps := by
  intro i hfee
  have bounds : (ratedCharge i).1 ≤ 999999 ∧
      ((ratedCharge i).2 = .rated →
        (i.plan.rideCap ≠ 0 → (ratedCharge i).1 ≤ i.plan.rideCap) ∧
        (i.plan.dayCap ≠ 0 → (ratedCharge i).1 ≤ i.plan.dayCap - i.startSpend)) ∧
      ((ratedCharge i).2 = .rated ∨ (ratedCharge i).2 = .grace ∨ (ratedCharge i).2 = .overdue) := by
    rcases ratedCharge_cases i with h | h | h <;> rw [h]
    · exact ⟨Nat.zero_le _, nofun, .inr (.inl rfl)⟩
    · exact ⟨hfee, nofun, .inr (.inr rfl)⟩
    · obtain ⟨rideSum, ride⟩ := rideCapped_le i
      obtain ⟨dayRide, day⟩ := dayCapped_le i
      exact ⟨(dayRide.trans rideSum).trans (blockSum_le i),
        fun _ => ⟨fun hcap => dayRide.trans (ride hcap), day⟩, .inl rfl⟩
  obtain ⟨charge, capped, reason⟩ := bounds
  exact ⟨_, rfl, charge, capped, rfl, rfl, rfl, reason⟩

/-! ### The band of a minute (R136, R141) -/

/-- The last band that starts at or below the minute gives its class. -/
theorem bandClassAt_of_last {bands earlier later : List Band} {band : Band} {minute : Nat}
    (hbands : bands = earlier ++ band :: later) (hstart : band.start ≤ minute) (hlater : ∀ x ∈ later, minute < x.start) :
    bandClassAt bands minute = some band.cls := by
  have after : later.filter (fun b => decide (b.start ≤ minute)) = [] := by
    rw [List.filter_eq_nil_iff]
    intro x hx
    simpa using hlater x hx
  simp [bandClassAt, hbands, hstart, after]

/-- A list with an element of a property has a last element with it. -/
theorem exists_last_of_mem {α : Type} (p : α → Prop) [DecidablePred p] (l : List α) (h : ∃ x ∈ l, p x) :
    ∃ earlier x later, l = earlier ++ x :: later ∧ p x ∧ ∀ y ∈ later, ¬ p y := by
  induction l with
  | nil => simp at h
  | cons a l ih =>
    by_cases hl : ∃ x ∈ l, p x
    · obtain ⟨earlier, x, later, rfl, hx, hlater⟩ := ih hl
      exact ⟨a :: earlier, x, later, rfl, hx, hlater⟩
    · push Not at hl
      refine ⟨[], a, l, rfl, ?_, hl⟩
      obtain ⟨x, hx, hp⟩ := h
      rcases List.mem_cons.1 hx with rfl | hx
      · exact hp
      · exact absurd hp (hl x hx)

/-- A band table that R136 takes begins at minute 0. -/
theorem exists_band_at_zero {bands : List Band} (h : bandTableGood bands = true) : ∃ b ∈ bands, b.start = 0 := by
  simp only [bandTableGood, Bool.and_eq_true, decide_eq_true_eq] at h
  obtain ⟨⟨⟨_, hfirst⟩, _⟩, _⟩ := h
  obtain ⟨b, hb, hstart⟩ := Option.map_eq_some_iff.1 hfirst
  exact ⟨b, List.mem_of_mem_head? hb, hstart⟩

/-! ### The blocks (R141, R142) -/

/-- The rate of a block whose minute lies in the band. -/
theorem blockRate_of_last {k : Nat} {earlier later : List Band} {band : Band}
    (hbands : i.bands = earlier ++ band :: later) (hstart : band.start ≤ minuteOfDay (blockStart i k))
    (hlater : ∀ x ∈ later, minuteOfDay (blockStart i k) < x.start) :
    blockRate i k = i.plan.rate band.cls + (if i.ebike = true then i.plan.surcharge else 0) := by
  simp [blockRate, bandClassAt_of_last hbands hstart hlater]

/-- With a band for each block, the sum is of the rates of the bands. -/
theorem blockSum_of_bands {band : Nat → Band}
    (h : ∀ k, k < blockCount i → ∃ earlier later, i.bands = earlier ++ band k :: later ∧
      (band k).start ≤ minuteOfDay (blockStart i k) ∧ ∀ x ∈ later, minuteOfDay (blockStart i k) < x.start) :
    blockSum i = min (((List.range (blockCount i)).map (fun k =>
      i.plan.rate (band k).cls + (if i.ebike = true then i.plan.surcharge else 0))).sum) 999999 := by
  have rates : (List.range (blockCount i)).map (blockRate i) = (List.range (blockCount i)).map (fun k =>
      i.plan.rate (band k).cls + (if i.ebike = true then i.plan.surcharge else 0)) := by
    refine List.map_congr_left fun k hk => ?_
    obtain ⟨earlier, later, hbands, hstart, hlater⟩ := h k (List.mem_range.1 hk)
    exact blockRate_of_last hbands hstart hlater
  rw [blockSum, rates, saturate]

end

theorem ridesArePricedByBlocks : Claims.RidesArePricedByBlocks := by
  intro i t
  refine ⟨fun hpost ht => ?_, fun h ht => ?_, fun h ht => ?_, fun h ht => ?_, fun hgood m => ?_⟩
  · obtain ⟨fare, reason⟩ := rate_fare i
    rw [fare, reason, ratedCharge_of_grace hpost ht]
    exact ⟨rfl, rfl⟩
  · obtain ⟨fare, reason⟩ := rate_fare i
    rw [fare, reason, ratedCharge_beyond_grace h, if_pos ht]
    exact ⟨rfl, rfl⟩
  · rw [(rate_fare i).2, ratedCharge_beyond_grace h, if_neg (Nat.not_lt.2 ht)]
  · intro q n minute rateOf band hband sum ride
    have total : blockSum i = sum := blockSum_of_bands hband
    have capped : rideCapped i = ride := by rw [rideCapped, total]
    rw [(rate_fare i).1, ratedCharge_beyond_grace h, if_neg (Nat.not_lt.2 ht)]
    show Fare.charge (dayCapped i) = _
    rw [dayCapped, capped]
  · obtain ⟨b, hb, hzero⟩ := exists_band_at_zero hgood
    obtain ⟨earlier, band, later, hbands, hstart, hlater⟩ :=
      exists_last_of_mem (fun b => b.start ≤ m) i.bands ⟨b, hb, by omega⟩
    exact ⟨earlier, band, later, hbands, hstart, fun x hx => Nat.not_le.1 (hlater x hx)⟩

/-- Settles O52: the charge is one of three, a capped one for a ride within the day; each block's rate is its band's, and a
good table's first band lies at or below every minute. -/
theorem ridesArePriced : Obligations.RidesArePriced := ⟨faresStayWithinTheCaps, ridesArePricedByBlocks⟩

end Sys2Proof.Machine
end

section
/-! The bike fault level as a least bound (R149, R150), and the fault clear of the terminal (R153, R158, R191). -/

namespace Sys2Proof.Machine

/-! ### Levels (R149, R150) -/

section
variable {s : State} {entries : List FaultEntry}

/-- R150 for one class: a report class, and two of its entries with known reporters that differ. -/
theorem escalated_iff (cls : Nat) (entries : List FaultEntry) :
    escalated cls entries = true ↔ 1 ≤ cls ∧ cls ≤ 5 ∧ ∃ a ∈ entries, ∃ b ∈ entries,
      a.cls = cls ∧ b.cls = cls ∧ a.reporter ≠ 0 ∧ b.reporter ≠ 0 ∧ a.reporter ≠ b.reporter := by
  simp only [escalated, Bool.and_eq_true, List.any_eq_true, decide_eq_true_eq, and_assoc]

theorem raisedLevel_of_escalated {e : FaultEntry} (h : escalated e.cls entries = true) : raisedLevel entries e = 2 :=
  if_pos h

theorem raisedLevel_of_single {e : FaultEntry} (h : ¬ escalated e.cls entries = true) : raisedLevel entries e = e.level :=
  if_neg h

theorem foldl_max_le_iff (l : List Nat) (b n : Nat) : l.foldl max b ≤ n ↔ b ≤ n ∧ ∀ x ∈ l, x ≤ n := by
  induction l generalizing b with
  | nil => simp
  | cons x l ih => simp [ih, and_assoc]

/-- The level of a list is the least that no entry so raised exceeds. -/
theorem listLevel_le_iff (entries : List FaultEntry) (n : Nat) :
    listLevel entries ≤ n ↔ ∀ e ∈ entries, raisedLevel entries e ≤ n := by
  simp [listLevel, foldl_max_le_iff]

/-- A held mark counts its level, a mark that is clear none. -/
theorem markLevel_le_iff (mark : Bool) (level n : Nat) : (if mark then level else 0) ≤ n ↔ (mark = true → level ≤ n) := by
  cases mark <;> simp

theorem State.bikeLevel_of_undocked (hdocked : s.dock.docked = false) : s.bikeLevel = 0 := by
  simp [State.bikeLevel, hdocked]

/-- With a bike docked and its tag read, or found silent, the bike fault level is a least bound (R149). -/
theorem State.bikeLevel_le_iff (hdocked : s.dock.docked = true)
    (hcopy : s.tag.copy.state = .held ∨ s.tag.copy.state = .noTag) (n : Nat) :
    s.bikeLevel ≤ n ↔
      (∀ e ∈ s.workingList, raisedLevel s.workingList e ≤ n) ∧ (s.fault.tagMark = true → 2 ≤ n) ∧
      (s.fault.lowCharge = true → 1 ≤ n) ∧ (s.fault.flat = true → 2 ≤ n) ∧ (s.fault.duplicate = true → 2 ≤ n) := by
  have stands : (s.dock.docked && (decide (s.tag.copy.state = .held) || decide (s.tag.copy.state = .noTag))) = true := by
    simpa [hdocked] using hcopy
  rw [State.bikeLevel, if_pos stands]
  simp only [max_le_iff, listLevel_le_iff, markLevel_le_iff]

end

/-- Settles O54: `escalated` is R150's test, and the level is the greatest of the entries and the marks. -/
theorem escalationRaisesTheLevel : Obligations.EscalationRaisesTheLevel := by
  refine ⟨fun entries e => ⟨fun hlow hhigh hpair => ?_, fun hsingle => ?_⟩, fun s => ⟨?_, ?_⟩⟩
  · exact raisedLevel_of_escalated ((escalated_iff _ _).2 ⟨hlow, hhigh, hpair⟩)
  · refine raisedLevel_of_single fun hescalated => ?_
    obtain ⟨hlow, hhigh, hpair⟩ := (escalated_iff _ _).1 hescalated
    rcases hsingle with h | h | h
    · exact h hpair
    · omega
    · omega
  · exact State.bikeLevel_le_iff
  · exact State.bikeLevel_of_undocked

/-! ### Removals from the fault list (R153, R158) -/

section
variable {s : State} {cls : Nat}

/-- The fault list that an FCL of a class leaves: without its entries, or empty for class 0. -/
def withoutClass (cls : Nat) (entries : List FaultEntry) : List FaultEntry :=
  entries.filter (fun e => !(decide (cls = 0) || decide (e.cls = cls)))

/-- A removal changes the list exactly when it takes an entry out. -/
theorem applyChange_remove (cls : Nat) (entries : List FaultEntry) :
    applyChange entries (.remove cls) =
      if withoutClass cls entries = entries then none else some (withoutClass cls entries) := by
  have unchanged : withoutClass cls entries = entries ↔
      ¬ entries.any (fun e => decide (cls = 0) || decide (e.cls = cls)) = true := by
    simp [withoutClass, List.filter_eq_self]
  simp only [applyChange, unchanged, ite_not]
  rfl

theorem State.changeFaults_of_kept (hgood : s.faultsDamaged = false) (hkept : withoutClass cls s.workingList = s.workingList) :
    s.changeFaults (.remove cls) = s := by
  simp [State.changeFaults, hgood, applyChange_remove, hkept]

theorem State.changeFaults_of_removed (hgood : s.faultsDamaged = false)
    (hkept : withoutClass cls s.workingList ≠ s.workingList) :
    s.changeFaults (.remove cls) = s.requestFaults (withoutClass cls s.workingList) := by
  simp [State.changeFaults, hgood, applyChange_remove, hkept]

/-- A DAMAGED section takes no change: it waits for the rewrite, or is lost where none is pending. -/
theorem State.changeFaults_of_damaged (hdamaged : s.faultsDamaged = true) (change : FaultChange) :
    (s.changeFaults change).tag = s.tag ∧
      (s.changeFaults change).fault =
        { s.fault with
          deferred := if s.rewritePending then s.fault.deferred ++ [change] else s.fault.deferred } := by
  unfold State.changeFaults
  rw [if_pos hdamaged]
  split <;> simp

/-- The removal is written at once while nothing is in progress or waiting, and counts from then on. -/
theorem State.changeFaults_writes (hheld : s.tag.copy.state = .held) (hgood : s.faultsDamaged = false)
    (hop : s.tag.operation = .idle) (hrequests : s.tag.requests = [])
    (hkept : withoutClass cls s.workingList ≠ s.workingList) :
    let t := s.changeFaults (.remove cls)
    t.tag.operation =
        .write { contents := .faults (withoutClass cls s.workingList), requester := .fault, ref := s.tag.nextRef }
          false false false s.clock.ms ∧
      t.workingList = withoutClass cls s.workingList := by
  obtain ⟨tag, fault⟩ := State.requestFaults_begins (withoutClass cls s.workingList) hheld hop hrequests
  have undamaged : s.tag.copy.faults ≠ .damaged := fun h => by
    simp [State.faultsDamaged_iff.2 ⟨hheld, h⟩] at hgood
  rw [State.changeFaults_of_removed hgood hkept]
  exact ⟨by rw [tag]; rfl, State.workingList_of_write (by rw [tag]; exact undamaged) (by rw [fault])⟩

end

/-! ### The FCL at the fault unit (R158) -/

section
variable {s u : State} {c : LineChar} {f : Frame} {body : List Byte} {cls : Nat}

/-- The classes an FCL may name (R158, R191; log 36). -/
theorem clearableClass_iff (cls : Nat) : clearableClass cls = true ↔ cls ∈ [0, 1, 2, 3, 4, 5, 8, 9, 10, 11] := by
  simp only [clearableClass, Bool.or_eq_true, Bool.and_eq_true, decide_eq_true_eq, List.mem_cons, List.not_mem_nil,
    or_false]
  omega

/-- The held TAG mark goes for class 0, and for its own class 8. -/
def State.markCleared (cls : Nat) (s : State) : State :=
  if decide (cls = 0) || decide (cls = 8) then s.clearTagMark else s

theorem State.markCleared_outcome (cls : Nat) (s : State) :
    (s.markCleared cls).clock = s.clock ∧ (s.markCleared cls).tag = s.tag ∧
      (s.markCleared cls).fault =
        { s.fault with tagMark := s.fault.tagMark && !(decide (cls = 0) || decide (cls = 8)) } := by
  unfold State.markCleared
  split
  · rename_i h
    simp [State.clearTagMark, h]
  · rename_i h
    simp [h]

/-- An FCL for the bike docked takes the mark, then the entries (R158). -/
theorem State.takeFcl_of_bike {i : IdSection} (hdocked : s.dock.docked = true) (hid : s.copyId = some i)
    (hbike : i.bikeId = fieldAt body 0 4) (hcls : fieldAt body 4 1 ∈ [0, 1, 2, 3, 4, 5, 8, 9, 10, 11]) :
    s.takeFcl body = (s.markCleared (fieldAt body 4 1)).changeFaults (.remove (fieldAt body 4 1)) :=
  if_pos (by simp [hdocked, hid, hbike, (clearableClass_iff _).2 hcls])

/-- An FCL for no bike docked, for another bike or of another class is disregarded. -/
theorem State.takeFcl_of_other (h : s.dock.docked = false ∨ s.copyId = none ∨
      (∃ i, s.copyId = some i ∧ i.bikeId ≠ fieldAt body 0 4) ∨
      fieldAt body 4 1 ∉ [0, 1, 2, 3, 4, 5, 8, 9, 10, 11]) : s.takeFcl body = s := by
  refine if_neg ?_
  rcases h with h | h | ⟨i, hid, hbike⟩ | h
  · simp [h]
  · simp [h]
  · simp [hid, hbike]
  · rw [← clearableClass_iff] at h
    simp [h]

/-- Of the fault unit a peer change raises DUPLICATE at most (R31, R35). -/
theorem State.handOn_fault (f : Frame) (s before : State) :
    ∃ d, (s.handOn f before).fault = { s.fault with duplicate := d } := by
  unfold State.handOn State.peerChange
  split
  · split
    · obtain ⟨d, fault⟩ := s.evaluateOffer.duplicateCheck_fault
      exact ⟨d, by simpa using fault⟩
    all_goals exact ⟨s.fault.duplicate, by simp⟩
  · exact ⟨s.fault.duplicate, rfl⟩

/-- What a frame of a peer leaves for the fault unit: the DUPLICATE mark alone may have changed. -/
structure State.LeftToFaults (s u : State) : Prop where
  dock : u.dock = s.dock
  tag : u.tag = s.tag
  fault : ∃ d, u.fault = { s.fault with duplicate := d }

/-- An FCL of a peer reaches the fault unit of a post at its end, and is taken from the terminal alone. -/
theorem State.takes.fcl (h : s.takes c f) (hpost : s.straps.role = .post) (hk : f.kind = .fcl) :
    ∃ u, exec (.frameReceived c) s = answerNext (if f.sender = 0 then u.takeFcl f.body else u) ∧
      u.clock.ms = s.heardAt c ∧ s.LeftToFaults u := by
  obtain ⟨k, l, step, hclock, _⟩ := h.step
  let v : State := { s with clock := k, line := l }
  let u : State := (v.peerHears f).handOn f v
  have role : u.straps.role = .post := by simpa [u, v] using hpost
  have taken : v.takeFromPeer f = if f.sender = 0 then u.takeFcl f.body else u := by
    have handed : v.takeFromPeer f = u.blocksTake f none := by simp [State.takeFromPeer, hk, u]
    simp only [handed, State.blocksTake, role, State.postTakes, hk]
  refine ⟨u, step.trans (congrArg answerNext taken), by simp [u, v, hclock], by simp [u, v], by simp [u, v], ?_⟩
  obtain ⟨d, fault⟩ := (v.peerHears f).handOn_fault f v
  exact ⟨d, by rw [fault, State.peerHears_of_notice (by simp [hk])]; rfl⟩

/-- What the fault unit holds as it takes the removal, its TAG mark gone where the class has it so. -/
structure State.ReadyToRemove (s v : State) (cls : Nat) : Prop where
  tag : v.tag = s.tag
  mark : v.fault.tagMark = (s.fault.tagMark && !(decide (cls = 0) || decide (cls = 8)))
  deferred : v.fault.deferred = s.fault.deferred
  list : v.workingList = s.workingList
  damaged : v.faultsDamaged = s.faultsDamaged
  pending : v.rewritePending = s.rewritePending

theorem State.LeftToFaults.markCleared (h : s.LeftToFaults u) (cls : Nat) :
    s.ReadyToRemove (u.markCleared cls) cls := by
  obtain ⟨_, htag, d, hfault⟩ := h
  obtain ⟨_, tag, fault⟩ := u.markCleared_outcome cls
  rw [hfault] at fault
  rw [htag] at tag
  exact
    { tag := tag
      mark := by rw [fault]
      deferred := by rw [fault]
      list := State.workingList_congr (by rw [tag]) (by rw [fault])
      damaged := by simp only [State.faultsDamaged, tag]
      pending := by simp only [State.rewritePending, tag] }

end

/-- Settles O26: the FCL reaches `takeFcl` with the fault list as it was, the mark goes first, and the removal is what
`changeFaults` makes of it. -/
theorem faultsAreCleared : Obligations.FaultsAreCleared := by
  intro c f s htakes hpost hk cls kept
  obtain ⟨u, step, hclock, left⟩ := htakes.fcl hpost hk
  let v := u.markCleared cls
  have ready : s.ReadyToRemove v cls := left.markCleared cls
  obtain ⟨dock, tag, d, fault⟩ := left
  have id : u.copyId = s.copyId := by simp only [State.copyId, tag]
  have removes (i : IdSection) (hsender : f.sender = 0) (hdocked : s.dock.docked = true) (hid : s.copyId = some i)
      (hbike : i.bikeId = fieldAt f.body 0 4) (hcls : cls ∈ [0, 1, 2, 3, 4, 5, 8, 9, 10, 11]) :
      exec (.frameReceived c) s = answerNext (v.changeFaults (.remove cls)) := by
    rw [step, if_pos hsender, State.takeFcl_of_bike (dock ▸ hdocked) (id.trans hid) hbike hcls]
  refine ⟨fun i hsender hdocked hid hbike hcls hgood => ?good,
    fun i hsender hdocked hid hbike hcls hdamaged => ?damaged, fun hother => ?other⟩
  case good =>
    have step := removes i hsender hdocked hid hbike hcls
    have undamaged := ready.damaged.trans hgood
    refine ⟨fun hkept => ?_, fun hkept hop hrequests => ?_⟩
    · rw [State.changeFaults_of_kept undamaged (by rw [ready.list]; exact hkept)] at step
      exact completes_of_answer step ⟨by simp [ready.tag], by simp [ready.mark]⟩
    · obtain ⟨held, _⟩ := State.copyId_eq_some_iff.1 hid
      obtain ⟨operation, list⟩ := State.changeFaults_writes (s := v) (cls := cls) (by rwa [ready.tag]) undamaged
        (by rwa [ready.tag]) (by rwa [ready.tag]) (by rw [ready.list]; exact hkept)
      rw [ready.list] at operation list
      have now : v.clock.ms = s.heardAt c := by
        obtain ⟨clock, _⟩ := u.markCleared_outcome cls
        rw [clock, hclock]
      rw [ready.tag, now] at operation
      refine completes_of_answer step ⟨?_, by simp [ready.mark], ?_⟩
      · simp only [conclude_frame]
        exact operation
      · exact (State.workingList_congr (by simp) (by simp)).trans list
  case damaged =>
    obtain ⟨tag, fault⟩ := State.changeFaults_of_damaged (ready.damaged.trans hdamaged) (.remove cls)
    refine completes_of_answer (removes i hsender hdocked hid hbike hcls) ?_
    simp only [conclude_frame, tag, fault]
    exact ⟨ready.tag, ready.mark, by rw [ready.deferred, ready.pending]⟩
  case other =>
    have still : (if f.sender = 0 then u.takeFcl f.body else u) = u := by
      rcases hother with h | h
      · exact if_neg h
      · rw [State.takeFcl_of_other (by rwa [dock, id]), ite_self]
    rw [still] at step
    exact completes_of_answer step (by simp [tag, fault])

end Sys2Proof.Machine
end

section
/-! The van window's opening and close (R165, R166, R177): what a VOP, a VCL and an expiry leave of the van window unit, and
what the van's host is told. -/

namespace Sys2Proof.Machine

/-- The van window unit with its window closed (R166): hold and target ended, the own offer and its retry timer gone. -/
def VanUnit.closed (v : VanUnit) : VanUnit :=
  { v with
    window := none, offer := .none_, voidMark := false, retryAt := none, hold := false, target := false }

/-- The window a VOP opens at local ms `at_` (R165). -/
def VopValues.windowAt (v : VopValues) (at_ : Ms) : VanWindow :=
  { serial := v.serial, mode := v.mode, places := v.places, crew := v.crew,
    expiresAt := at_ + BitVec.ofNat 32 (v.seconds * 1000), accepted := [] }

/-- An evaluation beforehand leaves its reference alone in a closed unit. -/
theorem VanUnit.closed_of_sansOffer {v w : VanUnit} (h : v.sansOffer = w.sansOffer) :
    v.closed = { w.closed with offerRef := v.offerRef } := by
  have same : { v.closed with offerRef := 0 } = { w.closed with offerRef := 0 } := congrArg VanUnit.closed h
  exact congrArg (fun x : VanUnit => { x with offerRef := v.offerRef }) same

section
variable {s : State} {w : VanWindow} {v : VopValues} {body : List Byte}

/-! ### The close (R166) -/

theorem State.closeWindow_of_none (h : s.van.window = none) (cause : WindowCause) : s.closeWindow cause = s := by
  rw [State.closeWindow, h]

theorem State.closeWindow_van (h : s.van.window = some w) (cause : WindowCause) :
    (s.closeWindow cause).van = s.van.closed := by
  simp only [State.closeWindow, h]
  split <;> simp [VanUnit.closed]

/-- The window closed is gone, and with it hold and target. -/
theorem State.closeWindow_free (h : s.van.window = some w) (cause : WindowCause) :
    (s.closeWindow cause).van.window = none ∧ (s.closeWindow cause).van.hold = false ∧
      (s.closeWindow cause).van.target = false := by
  rw [State.closeWindow_van h]
  exact ⟨rfl, rfl, rfl⟩

/-- The van tells its host of the close (R177). -/
theorem State.closeWindow_told (hr : s.straps.role = .van) (hroom : s.port.events.length < 64)
    (h : s.van.window = some w) (cause : WindowCause) :
    (s.closeWindow cause).port.events =
      s.port.events ++ [{ at_ := s.clock.ms, body := .windowClosed w.serial w.crew cause }] := by
  simp only [State.closeWindow, h, State.isVan, hr, decide_true, if_true]
  rw [State.appendEvent_room (by exact hroom)]

/-- A station that is no van tells nobody. -/
theorem State.closeWindow_port (hr : s.straps.role ≠ .van) (cause : WindowCause) :
    (s.closeWindow cause).port = s.port := by
  unfold State.closeWindow
  split <;> simp [State.isVan, hr]

/-! ### The opening (R165) -/

theorem State.openWindow_window (v : VopValues) (s : State) :
    (s.openWindow v).van.window = some (v.windowAt s.clock.ms) := by
  simp [State.openWindow, VopValues.windowAt]

/-- A post may offer at once; a station that is no post makes no offer. -/
theorem State.openWindow_offer (v : VopValues) (s : State) :
    (s.openWindow v).van.offer ∈ [OwnOffer.none_, OwnOffer.queued] ∧
      (s.straps.role ≠ .post → (s.openWindow v).van.offer = .none_) := by
  refine ⟨?_, fun hr => ?_⟩
  · unfold State.openWindow State.evaluateOffer
    dsimp only
    (repeat' split) <;> simp [State.ofrBusy]
  · rw [State.openWindow, State.evaluateOffer_of_none _ (by simp [State.isPost, hr])]

/-! ### A VOP and a VCL of the van -/

/-- A VOP in range of another serial than the open window's closes that window and opens its own. -/
theorem State.takeVop_opens (hv : vopOf body = some v) (hnew : ∀ w, s.van.window = some w → w.serial ≠ v.serial) :
    s.takeVop body = (s.closeWindow .newVop).openWindow v := by
  cases hw : s.van.window with
  | none => simp only [State.takeVop, hv, hw, State.closeWindow_of_none hw]
  | some w => simp only [State.takeVop, hv, hw, if_neg (hnew w hw)]

/-- One out of range, and one of the open window's serial, change nothing. -/
theorem State.takeVop_of_other
    (h : vopOf body = none ∨ ∃ v w, vopOf body = some v ∧ s.van.window = some w ∧ w.serial = v.serial) :
    s.takeVop body = s := by
  rcases h with hv | ⟨v, w, hv, hw, hserial⟩
  · simp only [State.takeVop, hv]
  · simp only [State.takeVop, hv, hw, if_pos hserial]

theorem State.takeVcl_closes (hw : s.van.window = some w) (hserial : fieldAt body 0 1 = w.serial) :
    s.takeVcl body = s.closeWindow .vcl := by
  simp only [State.takeVcl, hw, hserial, if_true]

theorem State.takeVcl_of_other (h : ∀ w, s.van.window = some w → fieldAt body 0 1 ≠ w.serial) : s.takeVcl body = s := by
  unfold State.takeVcl
  split
  · rename_i w hw
    exact if_neg (h w hw).symm
  · rfl

/-- The opening leaves the blocks behind the van window unit and the line controller, the event queue of the van apart. -/
theorem State.takeVop_touches (body : List Byte) (s : State) :
    ({ van := true, port := true } : Touched).frame s (s.takeVop body) := by simp [Touched.frame]

theorem State.closeWindow_touches (cause : WindowCause) (s : State) :
    ({ van := true, port := true } : Touched).frame s (s.closeWindow cause) := by simp [Touched.frame]

end

end Sys2Proof.Machine
end

section
/-! The acceptance of the own offer under the shared operations (R170 to R172): an evaluation makes an offer where there is
none, and a "line busy" ends one that is QUEUED, so no operation but the taking of an OFR and the opening and closing of a
window moves ACCEPTED. -/

namespace Sys2Proof.Machine

section
variable {t u : State}

theorem State.van_of_offer {kind : Kind} {body : List Byte} {r : Option Nat} (heq : u.offer kind body = (t, r)) :
    t.van = u.van := by simpa using (congrArg (fun p => p.1.van) heq).symm

theorem State.van_of_requestWrite {contents : SectionContents} {requester : Requester} {r : RequestReply}
    (heq : u.requestWrite contents requester = (t, r)) : t.van = u.van := by
  simpa using (congrArg (fun p => p.1.van) heq).symm

end

/-! ### The own offer and the faults (R151 to R170) -/

@[simp] theorem State.evaluateOffer_accepted (s : State) :
    s.evaluateOffer.van.offer = .accepted ↔ s.van.offer = .accepted := by
  by_cases h : s.van.offer = .none_
  · unfold State.evaluateOffer
    split
    · split
      · split <;> simp [State.ofrBusy, h]
      · rfl
    · rfl
  · rw [s.evaluateOffer_of_none (.inr (.inl h))]

@[simp] theorem State.evaluateSince_accepted (s before : State) :
    (s.evaluateSince before).van.offer = .accepted ↔ s.van.offer = .accepted := by
  unfold State.evaluateSince
  split <;> simp

@[simp] theorem State.raisePost_accepted (f : PostFault) (s : State) :
    (s.raisePost f).van.offer = .accepted ↔ s.van.offer = .accepted := by
  unfold State.raisePost
  split <;> simp

@[simp] theorem State.clearPost_accepted (f : PostFault) (s : State) :
    (s.clearPost f).van.offer = .accepted ↔ s.van.offer = .accepted := by simp [State.clearPost]

@[simp] theorem State.raiseLowCharge_accepted (s : State) :
    s.raiseLowCharge.van.offer = .accepted ↔ s.van.offer = .accepted := by
  unfold State.raiseLowCharge
  split <;> simp

@[simp] theorem State.raiseFlat_accepted (s : State) :
    s.raiseFlat.van.offer = .accepted ↔ s.van.offer = .accepted := by
  unfold State.raiseFlat
  split <;> simp

@[simp] theorem State.raiseDuplicate_accepted (s : State) :
    s.raiseDuplicate.van.offer = .accepted ↔ s.van.offer = .accepted := by
  unfold State.raiseDuplicate
  split <;> simp

@[simp] theorem State.copyWritten_accepted (contents : SectionContents) (s : State) :
    (s.copyWritten contents).van.offer = .accepted ↔ s.van.offer = .accepted := by
  unfold State.copyWritten
  split <;> simp

@[simp] theorem State.requestFaults_accepted (entries : List FaultEntry) (s : State) :
    (s.requestFaults entries).van.offer = .accepted ↔ s.van.offer = .accepted := by
  unfold State.requestFaults
  split <;> rename_i heq <;> simp [State.van_of_requestWrite heq]

@[simp] theorem State.raiseLine_accepted (at_ : Ms) (s : State) :
    (s.raiseLine at_).van.offer = .accepted ↔ s.van.offer = .accepted := by simp [State.raiseLine]

@[simp] theorem State.changeFaults_accepted (change : FaultChange) (s : State) :
    (s.changeFaults change).van.offer = .accepted ↔ s.van.offer = .accepted := by
  unfold State.changeFaults
  (repeat' split) <;> simp

@[simp] theorem State.rewriteAnswered_accepted (written : Bool) (s : State) :
    (s.rewriteAnswered written).van.offer = .accepted ↔ s.van.offer = .accepted := by
  unfold State.rewriteAnswered
  dsimp only
  (repeat' split) <;> simp

@[simp] theorem State.badFrame_accepted (at_ : Ms) (s : State) :
    (s.badFrame at_).van.offer = .accepted ↔ s.van.offer = .accepted := by
  unfold State.badFrame
  dsimp only
  (repeat' split) <;> simp

@[simp] theorem State.askTagEntry_accepted (faultsWriteFailed : Bool) (s : State) :
    (s.askTagEntry faultsWriteFailed).van.offer = .accepted ↔ s.van.offer = .accepted := by
  unfold State.askTagEntry
  split <;> simp

@[simp] theorem State.tagReport_accepted (faultsWriteFailed : Bool) (s : State) :
    (s.tagReport faultsWriteFailed).van.offer = .accepted ↔ s.van.offer = .accepted := by
  unfold State.tagReport
  split <;> simp

/-! ### The hire controller and the bolt (R50 to R55, R105 to R124) -/

@[simp] theorem State.hireIdle_accepted (s : State) :
    s.hireIdle.van.offer = .accepted ↔ s.van.offer = .accepted := by simp [State.hireIdle]

@[simp] theorem State.enterClosing_accepted (s : State) :
    s.enterClosing.van.offer = .accepted ↔ s.van.offer = .accepted := by simp [State.enterClosing]

@[simp] theorem State.endSelfTest_accepted (s : State) :
    s.endSelfTest.van.offer = .accepted ↔ s.van.offer = .accepted := by
  unfold State.endSelfTest
  split <;> simp

@[simp] theorem State.boltHeld_accepted (s : State) :
    s.boltHeld.van.offer = .accepted ↔ s.van.offer = .accepted := by
  unfold State.boltHeld
  split <;> simp

@[simp] theorem State.clearForSelfTest_accepted (s : State) :
    s.clearForSelfTest.van.offer = .accepted ↔ s.van.offer = .accepted := by simp [State.clearForSelfTest]

@[simp] theorem State.refuse_accepted (group : Nat) (s : State) :
    (s.refuse group).van.offer = .accepted ↔ s.van.offer = .accepted := by simp [State.refuse]

@[simp] theorem State.hireTakes_accepted (s : State) :
    s.hireTakes.van.offer = .accepted ↔ s.van.offer = .accepted := by
  unfold State.hireTakes
  split <;> simp

@[simp] theorem State.cancelOver_accepted (s : State) :
    s.cancelOver.van.offer = .accepted ↔ s.van.offer = .accepted := by simp [State.cancelOver]

@[simp] theorem State.jam_accepted (s : State) :
    s.jam.van.offer = .accepted ↔ s.van.offer = .accepted := by simp [State.jam]

@[simp] theorem State.refuseWithdrawing_accepted (group : Nat) (s : State) :
    (s.refuseWithdrawing group).van.offer = .accepted ↔ s.van.offer = .accepted := by simp [State.refuseWithdrawing]

@[simp] theorem State.enterCancelling_accepted (group : Option Nat) (s : State) :
    (s.enterCancelling group).van.offer = .accepted ↔ s.van.offer = .accepted := by
  unfold State.enterCancelling
  dsimp only
  split
  · cases group <;> simp
  · split <;> rename_i heq <;> cases group <;> simp [State.van_of_requestWrite heq]

@[simp] theorem State.claim_accepted (s : State) :
    s.claim.van.offer = .accepted ↔ s.van.offer = .accepted := by
  unfold State.claim
  split
  · split <;> rename_i heq <;> simp [State.van_of_offer heq]
  · rfl

@[simp] theorem State.clmBusy_accepted (ref : Nat) (s : State) :
    (s.clmBusy ref).van.offer = .accepted ↔ s.van.offer = .accepted := by
  unfold State.clmBusy
  split <;> simp

@[simp] theorem State.lineRestart_accepted (s : State) :
    s.lineRestart.van.offer = .accepted ↔ s.van.offer = .accepted := by
  unfold State.lineRestart
  split <;> simp

@[simp] theorem State.hireWriteLeft_accepted (ref : Nat) (s : State) :
    (s.hireWriteLeft ref).van.offer = .accepted ↔ s.van.offer = .accepted := by
  unfold State.hireWriteLeft
  (repeat' split) <;> simp

@[simp] theorem State.hireSeated_accepted (s : State) :
    s.hireSeated.van.offer = .accepted ↔ s.van.offer = .accepted := by
  unfold State.hireSeated
  split <;> simp

@[simp] theorem State.requestRelease_accepted (s : State) :
    s.requestRelease.van.offer = .accepted ↔ s.van.offer = .accepted := by
  unfold State.requestRelease
  dsimp only
  (repeat' split) <;> simp

@[simp] theorem State.requestHireWrite_accepted (written : HireSection) (summary : Option RideSummary) (s : State) :
    (s.requestHireWrite written summary).van.offer = .accepted ↔ s.van.offer = .accepted := by
  unfold State.requestHireWrite
  dsimp only
  split <;> rename_i heq <;> simp [State.van_of_requestWrite heq]

@[simp] theorem State.answerBusy_accepted (s : State) (e : TxEntry) :
    (s.answerBusy e).van.offer = .accepted ↔ s.van.offer = .accepted := by
  unfold State.answerBusy
  split
  case h_2 =>
    split
    · rename_i hanswered
      obtain ⟨hqueued, _⟩ : s.van.offer = .queued ∧ s.van.offerRef = e.ref := by simpa using hanswered
      simp [State.ofrBusy, hqueued]
    · rfl
  all_goals simp

@[simp] theorem State.claimWith_accepted (a : Answer) (s : State) :
    (s.claimWith a).van.offer = .accepted ↔ s.van.offer = .accepted := by simp [State.claimWith]

@[simp] theorem State.writeLeft_accepted (s : State) (r : WriteRequest) :
    (s.writeLeft r).van.offer = .accepted ↔ s.van.offer = .accepted := by
  unfold State.writeLeft
  split <;> simp

@[simp] theorem State.reportSeated_accepted (s : State) :
    s.reportSeated.van.offer = .accepted ↔ s.van.offer = .accepted := by
  unfold State.reportSeated
  split <;> simp

@[simp] theorem State.hireWritten_accepted (s : State) :
    s.hireWritten.van.offer = .accepted ↔ s.van.offer = .accepted := by
  unfold State.hireWritten
  (repeat' split) <;> simp

@[simp] theorem State.claimWindowEnds_accepted (s : State) :
    s.claimWindowEnds.van.offer = .accepted ↔ s.van.offer = .accepted := by
  unfold State.claimWindowEnds
  (repeat' split) <;> simp

@[simp] theorem State.checkReading_accepted (card : CardRecord) (reading : Option Answer) (s : State) :
    (s.checkReading card reading).van.offer = .accepted ↔ s.van.offer = .accepted := by
  unfold State.checkReading
  (repeat' split) <;> simp

@[simp] theorem State.lookupAnswered_accepted (card : CardRecord) (a : Answer) (s : State) :
    (s.lookupAnswered card a).van.offer = .accepted ↔ s.van.offer = .accepted := by
  unfold State.lookupAnswered
  (repeat' split) <;> simp

@[simp] theorem State.lookupExpires_accepted (card : CardRecord) (s : State) :
    (s.lookupExpires card).van.offer = .accepted ↔ s.van.offer = .accepted := by
  unfold State.lookupExpires
  (repeat' split) <;> simp

@[simp] theorem State.checkCrew_accepted (card : CardRecord) (s : State) :
    (s.checkCrew card).van.offer = .accepted ↔ s.van.offer = .accepted := by
  unfold State.checkCrew
  (repeat' split) <;> simp

@[simp] theorem State.cutShort_accepted (s : State) :
    s.cutShort.van.offer = .accepted ↔ s.van.offer = .accepted := by
  unfold State.cutShort
  split <;> simp

@[simp] theorem State.seat_accepted (s : State) :
    s.seat.van.offer = .accepted ↔ s.van.offer = .accepted := by simp [State.seat]

@[simp] theorem State.hireWriteAnswered_accepted (ref : Nat) (answer : WriteAnswer) (s : State) :
    (s.hireWriteAnswered ref answer).van.offer = .accepted ↔ s.van.offer = .accepted := by
  unfold State.hireWriteAnswered
  (repeat' split) <;> simp

@[simp] theorem State.checkMember_accepted (card : CardRecord) (s : State) :
    (s.checkMember card).van.offer = .accepted ↔ s.van.offer = .accepted := by
  unfold State.checkMember
  split <;> simp

@[simp] theorem State.seatIfClosed_accepted (s : State) :
    s.seatIfClosed.van.offer = .accepted ↔ s.van.offer = .accepted := by
  unfold State.seatIfClosed
  split <;> simp

@[simp] theorem State.beginHire_accepted (card : CardRecord) (s : State) :
    (s.beginHire card).van.offer = .accepted ↔ s.van.offer = .accepted := by
  unfold State.beginHire
  split <;> simp

@[simp] theorem State.selfTestCloses_accepted (s : State) :
    s.selfTestCloses.van.offer = .accepted ↔ s.van.offer = .accepted := by
  unfold State.selfTestCloses
  split <;> simp

/-! ### The tag port (R77 to R82) -/

@[simp] theorem State.faultWriteAnswered_accepted (ref : Nat) (s : State) :
    (s.faultWriteAnswered ref).van.offer = .accepted ↔ s.van.offer = .accepted := by simp [State.faultWriteAnswered]

@[simp] theorem State.duplicateCheck_accepted (s : State) :
    s.duplicateCheck.van.offer = .accepted ↔ s.van.offer = .accepted := by
  unfold State.duplicateCheck
  split <;> simp

@[simp] theorem State.memberReport_accepted (count : Nat) (s : State) :
    (s.memberReport count).van.offer = .accepted ↔ s.van.offer = .accepted := by
  unfold State.memberReport
  (repeat' split) <;> simp

@[simp] theorem State.faultTakesRead_accepted (s : State) :
    s.faultTakesRead.van.offer = .accepted ↔ s.van.offer = .accepted := by
  unfold State.faultTakesRead
  dsimp only
  (repeat' split) <;> simp

@[simp] theorem State.readSetSilent_accepted (got : List (List Byte)) (s : State) :
    (s.readSetSilent got).van.offer = .accepted ↔ s.van.offer = .accepted := by simp [State.readSetSilent]

@[simp] theorem State.readSetComplete_accepted (got : List (List Byte)) (s : State) :
    (s.readSetComplete got).van.offer = .accepted ↔ s.van.offer = .accepted := by simp [State.readSetComplete]

@[simp] theorem State.writeAnswered_accepted (r : WriteRequest) (answer : WriteAnswer) (s : State) :
    (s.writeAnswered r answer).van.offer = .accepted ↔ s.van.offer = .accepted := by
  unfold State.writeAnswered
  split <;> simp

@[simp] theorem State.finishWrite_accepted (r : WriteRequest) (answer : WriteAnswer) (s : State) :
    (s.finishWrite r answer).van.offer = .accepted ↔ s.van.offer = .accepted := by
  unfold State.finishWrite
  split <;> simp

/-! ### The peer table, the listening blocks and the line (R15, R19, R31 to R33, R158) -/

@[simp] theorem State.clearTagMark_accepted (s : State) :
    s.clearTagMark.van.offer = .accepted ↔ s.van.offer = .accepted := by simp [State.clearTagMark]

@[simp] theorem State.stationConflict_accepted (s : State) :
    s.stationConflict.van.offer = .accepted ↔ s.van.offer = .accepted := by
  unfold State.stationConflict
  split <;> simp

@[simp] theorem State.takeFcl_accepted (body : List Byte) (s : State) :
    (s.takeFcl body).van.offer = .accepted ↔ s.van.offer = .accepted := by
  unfold State.takeFcl
  dsimp only
  (repeat' split) <;> simp

@[simp] theorem State.peerChange_accepted (n : Nat) (fieldsChanged : Bool) (s : State) :
    (s.peerChange n fieldsChanged).van.offer = .accepted ↔ s.van.offer = .accepted := by
  unfold State.peerChange
  split <;> simp

@[simp] theorem State.offerStationId_accepted (b : Beacon) (s : State) :
    (s.offerStationId b).van.offer = .accepted ↔ s.van.offer = .accepted := by
  unfold State.offerStationId
  (repeat' split) <;> simp

@[simp] theorem State.peerHears_accepted (f : Frame) (s : State) :
    (s.peerHears f).van.offer = .accepted ↔ s.van.offer = .accepted := by
  unfold State.peerHears
  split <;> simp

@[simp] theorem State.abandonForOwn_accepted (t : Transmission) (s : State) :
    (s.abandonForOwn t).van.offer = .accepted ↔ s.van.offer = .accepted := by
  unfold State.abandonForOwn
  split <;> simp

@[simp] theorem State.abandonFrame_accepted (s : State) :
    s.abandonFrame.van.offer = .accepted ↔ s.van.offer = .accepted := by simp [State.abandonFrame]

@[simp] theorem State.removeBusy_accepted (e : TxEntry) (s : State) :
    (s.removeBusy e).van.offer = .accepted ↔ s.van.offer = .accepted := by simp [State.removeBusy]

@[simp] theorem State.takeMbr_accepted (body : List Byte) (s : State) :
    (s.takeMbr body).van.offer = .accepted ↔ s.van.offer = .accepted := by
  unfold State.takeMbr
  (repeat' split) <;> simp

@[simp] theorem State.endContended_accepted (s : State) :
    s.endContended.van.offer = .accepted ↔ s.van.offer = .accepted := by
  unfold State.endContended
  (repeat' split) <;> simp

@[simp] theorem State.clearClassZero_accepted (s : State) :
    s.clearClassZero.van.offer = .accepted ↔ s.van.offer = .accepted := by
  simpa [State.clearClassZero] using foldl_keeps (fun (s : State) e => s.removeBusy e)
    (fun t => decide (t.van.offer = .accepted)) (by simp)
    (s.line.queue.filter (fun e => decide (e.kind.cls = 0) && !s.line.inTransmission e)) s

@[simp] theorem State.setClash_accepted (s : State) :
    s.setClash.van.offer = .accepted ↔ s.van.offer = .accepted := by simp [State.setClash]

end Sys2Proof.Machine
end

section
/-! The van hold and the deliver target at every step (R172, R173, R176): they begin with the own OFR in the accepted list,
and end with the bike's leaving or docking, a self-test, and the close of the window. -/

namespace Sys2Proof.Machine

/-! ### What the invariant speaks of -/

/-- From `u` to `t` neither a van hold nor a deliver target begins, and what they stand on stays: the mode of the window,
the own offer's acceptance, and for a hold the docked bike. -/
@[simp] def State.beginsNoHold (u t : State) : Prop :=
  t.van.window.map VanWindow.mode = u.van.window.map VanWindow.mode ∧
    (u.van.offer = .accepted → t.van.offer = .accepted) ∧
    (t.van.hold = true → u.van.hold = true ∧ (u.dock.docked = true → t.dock.docked = true)) ∧
    (t.van.target = true → u.van.target = true)

section
variable {s t u : State}

theorem State.holdSafe_iff (s : State) :
    s.holdSafe ↔
      (s.van.hold = true →
        s.dock.docked = true ∧ s.van.offer = .accepted ∧ s.van.window.map VanWindow.mode = some .collect) ∧
      (s.van.target = true →
        s.van.offer = .accepted ∧ s.van.window.map VanWindow.mode = some .deliver) := by
  cases hw : s.van.window <;> simp [State.holdSafe, hw]

/-- A step that begins no hold. -/
theorem State.holdSafe.edit (h : u.holdSafe) (ht : u.beginsNoHold t) : t.holdSafe := by
  obtain ⟨hmode, hoffer, hhold, htarget⟩ := ht
  rw [State.holdSafe_iff] at h ⊢
  obtain ⟨held, targeted⟩ := h
  rw [hmode]
  refine ⟨fun hh => ?_, fun hh => ?_⟩
  · obtain ⟨hu, hdocked⟩ := hhold hh
    obtain ⟨docked, accepted, mode⟩ := held hu
    exact ⟨hdocked docked, hoffer accepted, mode⟩
  · obtain ⟨accepted, mode⟩ := targeted (htarget hh)
    exact ⟨hoffer accepted, mode⟩

theorem State.holdSafe.ite {c : Prop} [Decidable c] {a b : State} (ha : a.holdSafe) (hb : b.holdSafe) :
    (if c then a else b).holdSafe := by
  split
  · exact ha
  · exact hb

/-- With neither a hold nor a target there is nothing to keep. -/
theorem State.holdSafe_of_free (hhold : s.van.hold = false) (htarget : s.van.target = false) : s.holdSafe := by
  simp [State.holdSafe, hhold, htarget]

/-- Without an accepted own offer there is neither a hold nor a target. -/
theorem State.holdSafe.free (h : s.holdSafe) (hs : s.van.window = none ∨ s.van.offer ≠ .accepted) :
    s.van.hold = false ∧ s.van.target = false := by
  obtain ⟨held, targeted⟩ := s.holdSafe_iff.1 h
  refine ⟨Bool.eq_false_iff.2 fun hhold => ?_, Bool.eq_false_iff.2 fun htarget => ?_⟩
  · obtain ⟨_, accepted, mode⟩ := held hhold
    rcases hs with hs | hs
    · simp [hs] at mode
    · exact hs accepted
  · obtain ⟨accepted, mode⟩ := targeted htarget
    rcases hs with hs | hs
    · simp [hs] at mode
    · exact hs accepted

theorem State.holdSafe.evaluateOffer (h : u.holdSafe) : u.evaluateOffer.holdSafe := h.edit (by simp)

theorem State.holdSafe.appendEvent {e : Event} (h : u.holdSafe) : (u.appendEvent e).holdSafe := h.edit (by simp)

theorem State.holdSafe.peerChange {n : Nat} {changed : Bool} (h : u.holdSafe) : (u.peerChange n changed).holdSafe :=
  h.edit (by simp)

/-! ### The bike leaves, and a bike docks (R56, R58, R173, R176) -/

@[simp] theorem State.writeLefts_accepted (rs : List WriteRequest) (s : State) :
    (rs.foldl State.writeLeft s).van.offer = .accepted ↔ s.van.offer = .accepted := by
  simpa using foldl_keeps State.writeLeft (fun t => decide (t.van.offer = .accepted)) (by simp) rs s

@[simp] theorem Dock.coilOff_docked (d : Dock) : d.coilOff.docked = d.docked := rfl

theorem State.holdSafe.bikeLeaves (h : u.holdSafe) : u.bikeLeaves.holdSafe := by
  have left : State.holdSafe ((u.dockLeaves.tagLeaves.faultLeaves.duplicateLeaves.vanLeaves).evaluateSince u) :=
    h.edit (by simp [State.vanLeaves])
  have answered : State.holdSafe (u.outstandingWrites.foldl State.writeLeft
      ((u.dockLeaves.tagLeaves.faultLeaves.duplicateLeaves.vanLeaves).evaluateSince u)) :=
    left.edit (by simp)
  exact .ite (.ite (answered.edit (by simp)) answered) h

theorem State.holdSafe.treatAsTaken (h : u.holdSafe) : u.treatAsTaken.holdSafe := .bikeLeaves (h.edit (by simp))

theorem State.holdSafe.startSettle (h : u.holdSafe) : u.startSettle.holdSafe :=
  .ite h.treatAsTaken (h.edit (by simp))

theorem State.holdSafe.seatIfClosed (h : u.holdSafe) : u.seatIfClosed.holdSafe := h.edit (by simp)

theorem State.holdSafe.releaseTake (h : u.holdSafe) : u.releaseTake.holdSafe := by
  have left : u.enterClosing.bikeLeaves.holdSafe := .bikeLeaves (h.edit (by simp))
  exact .seatIfClosed (.ite (left.edit (by simp)) left)

theorem State.holdSafe.selfTestTake (h : u.holdSafe) : u.selfTestTake.holdSafe := by
  unfold State.selfTestTake
  split
  · exact h.bikeLeaves.edit (by simp)
  · exact h

theorem State.holdSafe.takeWhileHeld (h : u.holdSafe) : u.takeWhileHeld.holdSafe :=
  .ite (.ite h.selfTestTake h) (.ite h.releaseTake h)

theorem State.holdSafe.becomeHeld (h : u.holdSafe) : u.becomeHeld.holdSafe := by
  have held : u.boltHeld.holdSafe := h.edit (by simp)
  exact .ite held.takeWhileHeld held

theorem State.holdSafe.boltDropped (h : u.holdSafe) : u.boltDropped.holdSafe := by
  have dropped : State.holdSafe (State.evaluateSince
      { u with dock := { u.dock.coilOff with bolt := .closed, release := false } } u) := h.edit (by simp)
  exact .ite (dropped.edit (by simp)) (.ite (dropped.startSettle.edit (by simp)) dropped)

@[simp] theorem State.selfTestCloses_docked (s : State) : s.selfTestCloses.dock.docked = s.dock.docked := by
  unfold State.selfTestCloses
  split <;> simp

theorem State.holdSafe.abortDrive (h : u.holdSafe) : u.abortDrive.holdSafe := by
  have closing : u.enterClosing.holdSafe := h.edit (by simp)
  exact .ite (h.edit (by simp)) (.ite closing.startSettle.seatIfClosed closing.seatIfClosed)

/-- A self-test starts with the van hold ended (R175). -/
theorem State.holdSafe.startSelfTest {crew : Nat} (h : u.holdSafe) : (u.startSelfTest crew).holdSafe :=
  h.edit (by simp [State.startSelfTest, State.vanRestart])

theorem State.holdSafe.takeCard {card : CardRecord} {held : Bool} (h : u.holdSafe) : (u.takeCard card held).holdSafe :=
  .ite h (.ite h.startSelfTest (.ite (h.edit (by simp)) (.ite (h.edit (by simp)) h)))

theorem State.holdSafe.dockingTest (h : u.holdSafe) : u.dockingTest.holdSafe := by
  unfold State.dockingTest
  dsimp only
  split
  · exact .ite (h.edit (by simp [State.dockBike, State.vanDocks])) (h.edit (by simp))
  · exact h.edit (by simp)

theorem State.holdSafe.tagAnswers (h : u.holdSafe) : u.tagAnswers.holdSafe := by
  unfold State.tagAnswers
  split
  case h_1 => exact .ite (h.edit (by simp [State.startUpDocking])) h
  all_goals exact h

/-! ### The tag port, the bolt and the mouth -/

theorem State.holdSafe.tagSilent (h : u.holdSafe) : u.tagSilent.holdSafe := by
  unfold State.tagSilent
  split
  · exact .ite (h.edit (by simp)) (h.edit (by simp))
  · exact h.edit (by simp)
  all_goals exact h

theorem State.holdSafe.sectionRead {bytes : List Byte} (h : u.holdSafe) : (u.sectionRead bytes).holdSafe := by
  unfold State.sectionRead
  split
  · exact .ite (h.edit (by simp)) (h.edit (by simp))
  · exact .ite (h.edit (by simp)) (.ite (h.edit (by simp)) (h.edit (by simp)))
  all_goals exact h

theorem State.holdSafe.boltOpens (h : u.holdSafe) : u.boltOpens.holdSafe := by
  have opened : State.holdSafe { u.stamp .boltOpen with dock := { u.dock with sensorOpen := true } } := h
  unfold State.boltOpens State.openEdgeAct
  split
  case h_2 => exact .ite (.becomeHeld (opened.edit (by simp))) (opened.edit (by simp))
  all_goals exact opened.edit (by simp)

theorem State.holdSafe.boltCloses (h : u.holdSafe) : u.boltCloses.holdSafe := by
  have closed : State.holdSafe { u.stamp .boltClosed with dock := { u.dock with sensorOpen := false } } := h
  unfold State.boltCloses State.closedEdgeAct
  split
  · exact .dockingTest (closed.edit (by simp))
  · exact .ite (.boltDropped (closed.edit (by simp))) closed
  · exact .boltDropped (closed.edit (by simp))
  · exact .dockingTest (closed.edit (by simp))
  · exact closed.dockingTest

theorem State.holdSafe.pullInEnds (h : u.holdSafe) : u.pullInEnds.holdSafe := by
  unfold State.pullInEnds
  split
  · exact .ite (.becomeHeld (h.edit (by simp))) (h.edit (by simp))
  · exact h

theorem State.holdSafe.openCheckDue (h : u.holdSafe) : u.openCheckDue.holdSafe := by
  have fails {v : State} (hv : v.holdSafe) : v.openCheckFails.holdSafe := by
    have jammed : v.jam.holdSafe := hv.edit (by simp)
    exact .ite (jammed.edit (by simp)) (.ite (.startSettle (jammed.edit (by simp))) jammed)
  unfold State.openCheckDue
  split
  · exact .ite (fails (h.edit (by simp))) (h.edit (by simp))
  · exact h

theorem State.holdSafe.takeWindowDue (h : u.holdSafe) : u.takeWindowDue.holdSafe := by
  unfold State.takeWindowDue
  split
  · exact .ite (.seatIfClosed (.startSettle (h.edit (by simp)))) (h.edit (by simp))
  · exact h

theorem State.holdSafe.closeCheckDue (h : u.holdSafe) : u.closeCheckDue.holdSafe := by
  unfold State.closeCheckDue
  split
  · exact .ite (h.edit (by simp)) (h.edit (by simp))
  · exact h

theorem State.holdSafe.pushAsideDue (h : u.holdSafe) : u.pushAsideDue.holdSafe := by
  unfold State.pushAsideDue
  split
  · exact .ite (h.edit (by simp)) (h.edit (by simp))
  · exact h

theorem State.holdSafe.mouthEmpties (h : u.holdSafe) : u.mouthEmpties.holdSafe := by
  have kept : State.holdSafe
      (if u.dock.docked then u.stamp .mouthOut else ((u.stamp .mouthOut).consume .mouthOut).consume .mouthIn) := .ite h h
  exact .ite kept.takeWhileHeld (.ite kept.bikeLeaves kept)

theorem State.holdSafe.beamsChange {a b : Bool} (h : u.holdSafe) : (u.beamsChange a b).holdSafe := by
  have phased : State.holdSafe { u with dock := { u.dock with beamA := a, beamB := b } } := h
  exact .ite h (.ite (.ite h h) (.ite (.ite (.mouthEmpties h) h) (.ite phased (.ite (h.edit (by simp)) h))))

theorem State.holdSafe.takeBurst {b : Burst} {code0 code1 code2 code3 : BitVec 10} (h : u.holdSafe) :
    (u.takeBurst b code0 code1 code2 code3).holdSafe := by
  have ch0 (pullIn : Nat) : (u.takeCh0 pullIn code0).holdSafe :=
    .ite (.ite (.abortDrive (h.edit (by simp))) (.ite (.abortDrive (h.edit (by simp))) h)) h
  have ch1 : (u.takeCh1 code1).holdSafe := by
    unfold State.takeCh1 State.judgeCh1
    dsimp only
    refine .ite (h.edit ?_) h
    (repeat' split) <;> simp
  have ch2 {v : State} (hv : v.holdSafe) : (v.takeCh2 code2).holdSafe :=
    .ite (hv.edit (by simp)) (.ite (hv.edit (by simp)) hv)
  have ch3 {v : State} {lit : Bool} (hv : v.holdSafe) : (v.takeCh3 lit code3).holdSafe := .ite (hv.edit (by simp)) hv
  unfold State.takeBurst
  split
  · exact ch0 _
  · exact ch3 (ch2 ch1)
  · exact ch3 (ch2 h)

theorem State.holdSafe.requestPeriodic (h : u.holdSafe) : u.requestPeriodic.holdSafe := by
  unfold State.requestPeriodic
  split <;> exact h

theorem State.holdSafe.requestEvent (h : u.holdSafe) : u.requestEvent.holdSafe := by
  unfold State.requestEvent
  split <;> exact h

theorem State.holdSafe.nextBurst (h : u.holdSafe) : u.nextBurst.holdSafe := by
  unfold State.nextBurst
  split <;> exact h

theorem State.holdSafe.recordEnds (h : u.holdSafe) : u.recordEnds.holdSafe := by
  have unreadable {v : State} (hv : v.holdSafe) : v.recordUnreadable.holdSafe := by
    refine hv.edit ?_
    unfold State.recordUnreadable
    dsimp only
    split <;> simp
  have idle : u.assemblerIdle.holdSafe := h
  have consumed : (u.assemblerIdle.consume .card).holdSafe := h
  unfold State.recordEnds
  split
  · exact idle
  · exact unreadable idle
  · exact unreadable idle
  · split
    · exact .takeCard (consumed.edit (by simp))
    · exact unreadable consumed

/-! ### The van window (R165 to R167, R171, R172, R177) -/

theorem State.holdSafe.closeWindow {cause : WindowCause} (h : u.holdSafe) : (u.closeWindow cause).holdSafe := by
  cases hw : u.van.window with
  | none => rwa [State.closeWindow_of_none hw]
  | some w =>
    obtain ⟨_, hhold, htarget⟩ := State.closeWindow_free hw cause
    exact State.holdSafe_of_free hhold htarget

/-- A window opens where no other is open, and so no hold and no target are left. -/
theorem State.holdSafe.openWindow {v : VopValues} (h : u.holdSafe) (hw : u.van.window = none) :
    (u.openWindow v).holdSafe := by
  obtain ⟨hhold, htarget⟩ := h.free (.inl hw)
  exact State.holdSafe_of_free (by simpa) (by simpa)

theorem State.holdSafe.takeVop {body : List Byte} (h : u.holdSafe) : (u.takeVop body).holdSafe := by
  unfold State.takeVop
  split
  · split <;> rename_i hw
    · obtain ⟨closed, _⟩ := State.closeWindow_free hw .newVop
      exact .ite h (h.closeWindow.openWindow closed)
    · exact h.openWindow hw
  · exact h

theorem State.holdSafe.takeVcl {body : List Byte} (h : u.holdSafe) : (u.takeVcl body).holdSafe := by
  unfold State.takeVcl
  split
  · exact .ite h.closeWindow h
  · exact h

/-- The own OFR in the list begins a hold with a bike docked in COLLECT, a target in DELIVER (R172). -/
theorem State.holdSafe.offerAccepted {w : VanWindow} (h : u.holdSafe)
    (hw : u.van.window.map VanWindow.mode = some w.mode) : (u.offerAccepted w).holdSafe := by
  obtain ⟨held, targeted⟩ := u.holdSafe_iff.1 h
  rw [State.holdSafe_iff, State.offerAccepted_van]
  simp only [hw, Bool.or_eq_true, Bool.and_eq_true, decide_eq_true_eq, State.offerAccepted_frame, true_and,
    Option.some.injEq] at held targeted ⊢
  refine ⟨fun hhold => ?_, fun htarget => ?_⟩
  · rcases hhold with hhold | ⟨⟨_, hdocked⟩, hmode⟩
    · obtain ⟨hdocked, _, hmode⟩ := held hhold
      exact ⟨hdocked, hmode⟩
    · exact ⟨hdocked, hmode⟩
  · rcases htarget with htarget | ⟨_, hmode⟩
    · exact (targeted htarget).2
    · exact hmode

theorem State.holdSafe.appendOffer {w : VanWindow} {sender : Nat} {body : List Byte} (h : u.holdSafe)
    (hw : u.van.window = some w) : (u.appendOffer w sender body).holdSafe := by
  have joined (a : List Accepted) :
      State.holdSafe { u with van := { u.van with window := some { w with accepted := a } } } := h.edit (by simp [hw])
  exact .ite (joined _).appendEvent (.ite ((joined _).offerAccepted rfl) (joined _).evaluateOffer)

theorem State.holdSafe.takeOfr {sender : Nat} {body : List Byte} {own : Option Nat} (h : u.holdSafe) :
    (u.takeOfr sender body own).holdSafe := by
  unfold State.takeOfr
  split <;> rename_i hw
  · refine .ite (h.appendOffer hw) ?_
    split
    · rename_i hsent
      obtain ⟨hqueued, _⟩ : u.van.offer = .queued ∧ own = some u.van.offerRef := by
        simpa [State.ownOfferSent] using hsent
      obtain ⟨hhold, htarget⟩ := h.free (.inr (by simp [hqueued]))
      exact State.holdSafe_of_free hhold htarget
    · exact h
  · exact h

/-! ### The listening blocks and the line controller -/

theorem State.holdSafe.postTakes {f : Frame} {own : Option Nat} (h : u.holdSafe) : (u.postTakes f own).holdSafe := by
  unfold State.postTakes
  split
  case h_3 => exact h.takeOfr
  case h_10 => exact .ite h.takeVop h
  case h_12 => exact .ite h.takeVcl h
  case h_7 | h_9 | h_14 | h_15 => exact .ite (h.edit (by simp)) h
  all_goals exact h.edit (by simp)

theorem State.holdSafe.vanTakes {f : Frame} (h : u.holdSafe) : (u.vanTakes f).holdSafe := by
  unfold State.vanTakes
  split
  case h_3 => exact h.takeOfr
  case h_10 => exact .ite h.takeVop h
  case h_12 => exact .ite h.takeVcl h
  case h_14 => exact .ite (h.edit (by simp)) h
  all_goals exact h.edit (by simp)

theorem State.holdSafe.blocksTake {f : Frame} {own : Option Nat} (h : u.holdSafe) : (u.blocksTake f own).holdSafe := by
  unfold State.blocksTake
  split
  · exact h.postTakes
  · exact h.edit (by simp)
  · exact h.vanTakes
  · exact h.edit (by simp)

theorem State.holdSafe.handOn {f : Frame} {before : State} (h : u.holdSafe) : (u.handOn f before).holdSafe :=
  .ite h.peerChange h

theorem State.holdSafe.takeFrame {f : Frame} (h : u.holdSafe) : (u.takeFrame f).holdSafe := by
  have fromPeer {v : State} (hv : v.holdSafe) : (v.takeFromPeer f).holdSafe := by
    have heard : (v.peerHears f).holdSafe := hv.edit (by simp)
    exact .ite heard.blocksTake.handOn heard.handOn.blocksTake
  exact .ite (h.edit (by simp)) (fromPeer h)

theorem State.holdSafe.lineReceives {c : LineChar} (h : u.holdSafe) : (u.lineReceives c).holdSafe := by
  have ends {v : State} {bytes : List Byte} (hv : v.holdSafe) : (v.frameEnds bytes).holdSafe := by
    unfold State.frameEnds
    dsimp only
    split
    · exact .takeFrame (hv.edit (by simp))
    · exact hv.edit (by simp)
  have receives {v : State} (hv : v.holdSafe) : (v.receiveChar c).holdSafe := by
    unfold State.receiveChar
    split
    case h_5 => exact .ite (hv.edit (by simp)) (.ite (ends hv) (hv.edit (by simp)))
    all_goals exact hv.edit (by simp)
  unfold State.lineReceives
  split
  · exact .ite (h.edit (by simp)) h
  · exact receives (h.edit (by simp))

theorem State.holdSafe.sentIntact {x : Transmission} {e : TxEntry} (h : u.holdSafe) : (u.sentIntact x e).holdSafe := by
  have heard : ((u.abandonForOwn x).countSent e).hearSelf.holdSafe := h.edit (by simp [State.countSent])
  have taken := heard.blocksTake (f := u.ownFrame e) (own := some e.ref)
  have answered : State.holdSafe ((((u.abandonForOwn x).countSent e).hearSelf.blocksTake (u.ownFrame e)
      (some e.ref)).answerSent e u.line.serial) := .ite (taken.edit (by simp)) taken
  exact .ite (answered.edit (by simp)) answered

theorem State.holdSafe.echoFails {bit : Nat} (h : u.holdSafe) : (u.echoFails bit).holdSafe := by
  unfold State.echoFails
  split
  · refine .ite (h.edit ?_) h
    unfold State.keepOwnCharacters
    dsimp only
    split <;> simp
  · exact h

theorem State.holdSafe.goSilent {n : Nat} (h : u.holdSafe) : (u.goSilent n).holdSafe := by
  have silent : (u.setPeer n { u.storedPeer n with state := .silent, silenceAt := none }).holdSafe := h
  exact (State.holdSafe.ite silent.closeWindow silent).peerChange

theorem State.holdSafe.takeRequest {k : RequestKind} {body : List Byte} (h : u.holdSafe) :
    (u.takeRequest k (Machine.requestOf k) body).holdSafe := by
  refine .ite (.ite (h.edit ?_) (h.edit (by simp))) h
  cases k <;> simp [Machine.requestOf]

theorem State.holdSafe.takeTransaction {bytes : List Byte} (h : u.holdSafe) : (u.takeTransaction bytes).holdSafe := by
  unfold State.takeTransaction
  split
  · exact h
  · refine .ite (.ite (h.edit (by simp)) h) (.ite (.ite (h.edit (by simp)) ?_) h)
    split
    · exact h.edit (by simp)
    · exact h.takeRequest

/-! ### Every command -/

theorem State.holdSafe.of_answer (h : u.holdSafe) (heq : answerNext u = .next t) : t.holdSafe := by
  obtain rfl : conclude u = t := by simpa [answerNext] using heq
  exact h.edit (by simp)

end

/-- Every command but FULL_RESET keeps the hold safe. -/
theorem exec_holdSafe {i : Instr} {s t : State} (h : s.holdSafe) (hi : ∀ straps o a b, i ≠ .fullReset straps o a b)
    (heq : exec i s = .next t) : t.holdSafe := by
  cases i
  case fullReset => exact absurd rfl (hi _ _ _ _)
  all_goals refine .of_answer ?_ heq
  case quiet =>
    obtain ⟨c, hc⟩ := s.reachQuiet_eq
    refine .ite (h.edit ?_) h
    simp [State.becomeQuiet, hc, State.endStuck_eq]
  case accessWaitExpiry =>
    refine h.edit ?_
    unfold State.accessWaitEnds
    split <;> simp
  case echoCheckFail => exact h.echoFails
  case sentIntact =>
    unfold State.transmissionEnds
    split
    · exact .sentIntact (h.edit (by simp))
    · exact h
  case frameReceived | frameAbandoned =>
    split
    · exact .ite h.lineReceives h
    · exact h
  case receiveGapExpiry =>
    refine h.edit ?_
    unfold State.receiveGap
    (repeat' split) <;> simp
  case stuckLine => exact .ite (h.edit (by simp [State.detectStuck])) h
  case lineClear =>
    refine h.edit ?_
    unfold State.lineClears
    split <;> simp
  case deadlineExpiry =>
    refine h.edit ?_
    unfold State.deadlinePasses
    dsimp only
    (repeat' split) <;> simp
  case startBit => exact .ite h h
  case lineCharacter => exact h.lineReceives
  case beaconTimerExpiry =>
    refine h.edit ?_
    unfold State.beaconDue
    split <;> simp
  case silenceTimerExpiry =>
    unfold State.silenceDue
    split
    · exact .ite h (.goSilent (h.edit (by simp)))
    · exact h
  case duplicateHoldExpiry =>
    refine h.edit ?_
    unfold State.duplicateHoldEnds
    split <;> simp
  case stalenessExpiry =>
    refine h.edit ?_
    unfold State.becomeStale
    split <;> simp [State.carryBase]
  case carry =>
    refine h.edit ?_
    unfold State.carryDue
    split <;> simp [State.carryBase]
  case pendingLapse holder =>
    unfold State.pendingLapses
    split
    · refine .ite (h.edit ?_) h
      cases holder <;> simp [State.setHeldCapture]
    · exact h
  case captureSlotLapse =>
    refine h.edit ?_
    unfold State.slotLapses
    split <;> simp
  case openEdge => exact .ite h.boltOpens h
  case closedEdge => exact .ite h.boltCloses h
  case pullInEnd => exact h.pullInEnds
  case openCheckExpiry => exact h.openCheckDue
  case takeWindowExpiry => exact h.takeWindowDue
  case closeCheckExpiry => exact h.closeCheckDue
  case pushAsideLimitExpiry => exact h.pushAsideDue
  case beamEdge => exact .ite h.beamsChange h
  case buttonPress => exact .ite h h
  case buttonRelease => exact .ite h h
  case burstEndExpiry =>
    refine h.edit ?_
    unfold State.burstEnds
    dsimp only
    (repeat' split) <;> simp
  case flashPhaseExpiry =>
    refine h.edit ?_
    unfold State.flashPhaseEnds
    split <;> simp
  case periodicTimerExpiry =>
    split
    · exact .requestPeriodic (h.edit (by simp))
    · exact h
  case ch0Request =>
    split
    · exact .requestEvent (h.edit (by simp))
    · exact h
  case burstComplete =>
    split
    · exact .nextBurst (.takeBurst (h.edit (by simp)))
    all_goals exact h
  case tagAnswer => exact h.tagAnswers
  case noTag => exact h.tagSilent
  case sectionReadComplete => exact .ite h.tagAnswers.sectionRead h
  case cardCharacter =>
    refine .ite ?_ h
    unfold State.cardReceives State.assemble
    split
    case h_1 | h_2 => exact .ite h h
    all_goals exact h
  case recordGap =>
    split
    · exact .recordEnds (h.edit (by simp))
    · exact h
  case lookupTimerExpiry =>
    refine h.edit ?_
    unfold State.lookupDue
    dsimp only
    (repeat' split) <;> simp
  case settleTimerExpiry =>
    split
    · exact .ite (h.edit (by simp)) (.treatAsTaken (h.edit (by simp)))
    · exact h
  case gatheringExpiry =>
    split
    · have unrated (name : SlotName) (r : ReturnRecord) (reason : Reason) (v : State) (hv : v.holdSafe) :
          (v.settleUnrated name r reason).holdSafe := hv.edit (by simp [State.settleUnrated])
      exact .ite (unrated _ _ _ _ (h.edit (by simp))) (.ite (unrated _ _ _ _ (h.edit (by simp))) (h.edit (by simp)))
    · exact h
  case status | peerRead | stationSet | timeSet | tariffLoad | tariffCommit | memberPush | faultClear |
      vanOpen | vanClose | eventRead => exact h.takeRequest
  case windowExpiry =>
    split
    · exact .closeWindow (h.edit (by simp))
    · exact h
  case offerRetryExpiry =>
    split
    · exact .evaluateOffer (h.edit (by simp))
    · exact h
  case unknownRequest => exact h.takeTransaction
  case readTransaction => exact .ite (h.edit (by simp)) h
  case holdPhaseEnd | refusalDisplayEnd | crewAcknowledgementEnd | converterWakeEnd | sectionWriteComplete |
      claimAgeExpiry | claimWindowExpiry | ratingComplete | stlRetryExpiry | stlAbandon | reportingWindowExpiry |
      timTimerExpiry | trfCycleExpiry =>
    refine h.edit ?_
    split <;> simp

/-- Settles O10: a hold and a target begin with the own OFR's sending alone, and the bike's leaving, its docking, a self-test
and the window's close end them. -/
theorem everyStepKeepsTheHold : Obligations.EveryStepKeepsTheHold := by
  intro s t hs heq
  unfold step at heq
  split at heq
  · obtain rfl : s.tick = t := by simpa using heq
    exact hs.edit (by simp)
  · rename_i c rest _
    by_cases hc : ∃ straps o a b, c = .fullReset straps o a b
    · obtain ⟨straps, o, a, b, rfl⟩ := hc
      obtain rfl : State.atRelease straps o a b rest = t := by simpa [exec, execFullReset] using heq
      exact State.holdSafe_of_free rfl rfl
    · simp only [not_exists] at hc
      exact exec_holdSafe (s := { s with pending := rest }) hs hc heq

end Sys2Proof.Machine
end


section
/-! The van window at a post and at the van (R165, R166, R177): its opening by a VOP, and its close by a VCL, its expiry
and the van's silence. -/

namespace Sys2Proof.Machine

/-! ### A VOP and a VCL heard at a post -/

theorem State.postTakes_vop {f : Frame} (hk : f.kind = .vop) (own : Option Nat) (s : State) :
    s.postTakes f own = if f.sender = 31 then s.takeVop f.body else s := by
  rw [State.postTakes, hk]

theorem State.postTakes_vcl {f : Frame} (hk : f.kind = .vcl) (own : Option Nat) (s : State) :
    s.postTakes f own = if f.sender = 31 then s.takeVcl f.body else s := by
  rw [State.postTakes, hk]

/-- What the own offer does not move is the window, the van hold and the deliver target. -/
theorem VanUnit.sansOffer_fields {v w : VanUnit} (h : v.sansOffer = w.sansOffer) :
    v.window = w.window ∧ v.hold = w.hold ∧ v.target = w.target := by
  simp only [VanUnit.sansOffer, VanUnit.mk.injEq] at h
  simp [h]

/-- Blocks that leave the van's state leave of its unit all but the own offer, which any evaluation may move. -/
theorem Touched.frame.vanUnit {b : Touched} {s u : State} (h : b.frame s u) (hb : b.van = false) :
    u.van.sansOffer = s.van.sansOffer := by
  obtain ⟨_, _, _, _, _, _, _, _, _, _, _, van, _⟩ := h
  exact van hb

theorem Touched.frame.role {b : Touched} {s u : State} (h : b.frame s u) : u.straps = s.straps := by
  obtain ⟨straps, _⟩ := h
  exact straps

/-- A post's port is not used. -/
theorem State.takeVop_touches_of_post {body : List Byte} {s : State} (hr : s.straps.role = .post) :
    ({ van := true } : Touched).frame s (s.takeVop body) := by
  have port : (s.takeVop body).port = s.port := (Works.refl s).takeVop.stores.port hr
  simp [Touched.frame, port]

theorem windowNoticeOpensTheWindow : Claims.WindowNoticeOpensTheWindow := by
  intro c f s htakes hr hk
  obtain ⟨u, step, hclock, _, _, touches⟩ := htakes.post hr (by simp [hk]) (by simp [hk])
  obtain ⟨hwindow, hhold, htarget⟩ := VanUnit.sansOffer_fields (touches.vanUnit rfl)
  rw [State.postTakes_vop hk] at step
  refine ⟨fun v hsender hv hnew hfree => ?_, fun hother => ?_⟩
  · have opens := State.takeVop_opens hv (s := u) (by rw [hwindow]; exact hnew)
    rw [if_pos hsender] at step
    obtain ⟨offer, _⟩ := State.openWindow_offer v (u.closeWindow .newVop)
    have free : (u.closeWindow .newVop).van.hold = false ∧ (u.closeWindow .newVop).van.target = false := by
      cases hw : u.van.window with
      | none =>
        rw [State.closeWindow_of_none hw, hhold, htarget]
        exact hfree (hwindow ▸ hw)
      | some w =>
        obtain ⟨_, ended⟩ := State.closeWindow_free hw .newVop
        exact ended
    refine completes_of_answer step ⟨?_, ?_, ?_, ?_, conclude_frame_of _ _ _ ?_⟩
    · simp [opens, State.openWindow_window, VopValues.windowAt, hclock]
    · simp [opens, free]
    · simp [opens, free]
    · simpa [opens] using offer
    · exact (touches.mono (by simp [Touched.within])).trans
        ((State.takeVop_touches_of_post (by rw [touches.role, hr])).mono (by simp [Touched.within]))
  · have still : (if f.sender = 31 then u.takeVop f.body else u) = u := by
      split
      · rename_i hsender
        exact State.takeVop_of_other (by rw [hwindow]; exact hother.resolve_left (not_not.2 hsender))
      · rfl
    rw [still] at step
    exact completes_of_answer step (by simp [hwindow, hhold, htarget])

/-! ### The close at a post -/

/-- Where no window is open the duplicate-bike check leaves the van window unit. -/
theorem State.duplicateCheck_van_of_none {s : State} (h : s.van.window = none) : s.duplicateCheck.van = s.van := by
  have raised (t : State) (ht : t.van = s.van) : t.raiseDuplicate.van = s.van := by
    unfold State.raiseDuplicate
    split
    · exact ht
    · rw [State.evaluateSince_of_none _ _ (.inl (by simpa [State.offerAutoFlt, ht] using h))]
      simpa [State.offerAutoFlt] using ht
  unfold State.duplicateCheck
  split
  · exact raised _ rfl
  all_goals rfl

/-- The van's silence closes the window of a post before the peer change is handed on (R166). -/
theorem State.goSilent_van {s : State} {w : VanWindow} (hr : s.straps.role = .post) (hw : s.van.window = some w) :
    (s.goSilent 31).van = s.van.closed := by
  have unit := State.closeWindow_van (s := s.setPeer 31 (s.storedPeer 31).silenced) hw .silent
  obtain ⟨none_open, _⟩ := State.closeWindow_free (s := s.setPeer 31 (s.storedPeer 31).silenced) hw .silent
  have silent : s.goSilent 31 =
      ((s.setPeer 31 (s.storedPeer 31).silenced).closeWindow .silent).peerChange 31 false := by
    simp [State.goSilent, State.isPost, hr, Peer.silenced]
  rw [silent, State.peerChange]
  simp only [State.closeWindow_frame, State.setPeer_frame, hr]
  rw [State.evaluateOffer_of_none _ (.inl none_open), State.duplicateCheck_van_of_none none_open, unit]
  rfl

theorem windowCloses : Claims.WindowCloses := by
  intro s w hr hw closed
  refine ⟨fun c f htakes hk hsender hserial => ?vcl, fun c f htakes hk hother => ?other, ?expiry,
    fun due hlive hdue hown hlen => ?silence⟩
  case vcl =>
    obtain ⟨u, step, _, _, _, touches⟩ := htakes.post hr (by simp [hk]) (by simp [hk])
    have unit := touches.vanUnit rfl
    obtain ⟨same, _⟩ := VanUnit.sansOffer_fields unit
    have hwindow : u.van.window = some w := same.trans hw
    rw [State.postTakes_vcl hk, if_pos hsender, State.takeVcl_closes hwindow hserial] at step
    refine completes_of_answer step ?_
    simp only [conclude_frame, State.closeWindow_van hwindow]
    exact VanUnit.closed_of_sansOffer unit
  case other =>
    obtain ⟨u, step, _, _, _, touches⟩ := htakes.post hr (by simp [hk]) (by simp [hk])
    obtain ⟨hwindow, hhold, _⟩ := VanUnit.sansOffer_fields (touches.vanUnit rfl)
    have still : (if f.sender = 31 then u.takeVcl f.body else u) = u := by
      split
      · rename_i hsender
        refine State.takeVcl_of_other fun v hv => ?_
        obtain rfl : w = v := Option.some.inj (hw.symm.trans (hwindow.symm.trans hv))
        exact hother.resolve_left (not_not.2 hsender)
      · rfl
    rw [State.postTakes_vcl hk, still] at step
    exact completes_of_answer step (by simp [hwindow, hhold, hw])
  case expiry =>
    obtain ⟨k, hk⟩ := s.reachMs_eq w.expiresAt
    have step : exec .windowExpiry s = answerNext (State.closeWindow .expiry { s with clock := k }) := by
      show answerNext _ = _
      simp only [hw, hk]
    have port := State.closeWindow_port (s := { s with clock := k }) (by simp [hr]) .expiry
    refine completes_of_answer step ⟨?_, conclude_frame_of _ _ _ (by simp [Touched.frame, port])⟩
    simp only [conclude_frame]
    exact State.closeWindow_van (s := { s with clock := k }) hw .expiry
  case silence =>
    obtain ⟨k, hk⟩ := s.reachMs_eq due
    have other : s.isOwnEntry 31 = false := by simp [State.isOwnEntry, hown.symm]
    have step : exec (.silenceTimerExpiry 31) s = answerNext (State.goSilent 31 { s with clock := k }) := by
      show answerNext (s.silenceDue 31) = _
      simp [State.silenceDue, hlive, hdue, other, hk]
    obtain ⟨entries, _⟩ := State.goSilent_frame 31 { s with clock := k }
    refine completes_of_answer step ⟨?_, ?_⟩
    · simp only [conclude_frame]
      exact State.goSilent_van (s := { s with clock := k }) hr hw
    · have inside : 31 < s.peers.entries.length := by rw [hlen]; decide
      simp only [State.storedPeer, conclude_frame, entries]
      rw [getD_set_of_lt _ _ _ _ (by exact inside), if_pos rfl, Peer.silenced]

/-! ### The window of the van (R177) -/

/-- The van takes its own VOP and VCL. -/
theorem State.blocksTake_of_van {s : State} {f : Frame} (hr : s.straps.role = .van) (hf : f.sender = 31)
    (hk : f.kind = .vop ∨ f.kind = .vcl) (own : Option Nat) :
    s.blocksTake f own = if f.kind = .vop then s.takeVop f.body else s.takeVcl f.body := by
  rcases hk with hk | hk <;> simp [State.blocksTake, hr, State.vanTakes, hk, hf]

/-- SENT_INTACT of a VOP or a VCL at the van hands it to the van window unit, after the own entry is heard. -/
theorem exec_sentIntact_of_van {s : State} {x : Transmission} {e : TxEntry} (hr : s.straps.role = .van)
    (hx : s.line.tx = some x) (he : s.line.txEntry = some e) (hrx : s.line.rx = none)
    (hk : e.kind = .vop ∨ e.kind = .vcl) :
    ∃ u : State,
      exec .sentIntact s = answerNext (if e.kind = .vop then u.takeVop e.body else u.takeVcl e.body) ∧
        u.clock = (s.reachInstant (x.start.plusUs (x.bytes.length * 11 * s.bitUs))).clock ∧ u.van = s.van ∧
        u.port = s.port ∧ ({ peers := true } : Touched).frame s u := by
  obtain ⟨c, hc⟩ := State.reachInstant_eq (x.start.plusUs (x.bytes.length * 11 * s.bitUs)) s
  refine ⟨(State.countSent e { s with clock := c }).hearSelf, ?_, by rw [hc]; rfl, rfl, rfl,
    by simp [Touched.frame, State.hearSelf, State.setPeer, State.countSent]⟩
  have number : (State.ownFrame { s with clock := c } e).sender = 31 := by
    simp [State.ownFrame, State.number, strapNumber, hr]
  obtain ⟨no_beacon, no_claim⟩ : e.kind ≠ .bcn ∧ e.kind ≠ .clm := by rcases hk with hk | hk <;> simp [hk]
  rw [exec_sentIntact hx he, hc, State.sentIntact, State.abandonForOwn_of_none (by exact hrx)]
  dsimp only
  rw [State.blocksTake_of_van (by exact hr) number (by exact hk), State.answerSent, if_neg no_beacon, if_neg no_claim]
  rfl

theorem vanKeepsItsWindow : Claims.VanKeepsItsWindow := by
  intro s hr hroom told closed
  refine ⟨fun x e hx he hrx => ?sent, fun w hw => ?expiry⟩
  case sent =>
    intro now kept
    have sent := exec_sentIntact_of_van hr hx he hrx
    refine ⟨fun v hk hv hnew => ?opens, fun v w hk hv hw hserial => ?same, fun w hk hw hserial => ?closes,
      fun hk hother => ?other⟩
    case opens =>
      obtain ⟨u, step, hclock, hvan, hport, touches⟩ := sent (.inl hk)
      rw [if_pos hk] at step
      have opens := State.takeVop_opens hv (s := u) (by rw [hvan]; exact hnew)
      have role : u.straps.role = .van := by rw [touches.role, hr]
      obtain ⟨_, offer⟩ := State.openWindow_offer v (u.closeWindow .newVop)
      have events : (u.closeWindow .newVop).port.events = s.port.events ++ told now .newVop := by
        cases hw : s.van.window with
        | none => simp [told, hw, State.closeWindow_of_none (hvan ▸ hw), hport]
        | some w =>
          rw [State.closeWindow_told role (by rwa [hport]) (hvan ▸ hw), hport, hclock]
          simp [told, hw, now]
      refine completes_of_answer step ⟨?_, ?_, ?_, conclude_frame_of _ _ _ ?_⟩
      · simp [opens, State.openWindow_window, VopValues.windowAt, hclock, now]
      · simpa [opens] using offer (by simp [role])
      · simpa [opens] using events
      · exact (touches.mono (by simp [Touched.within])).trans
          ((u.takeVop_touches e.body).mono (by simp [Touched.within]))
    case same =>
      obtain ⟨u, step, _, hvan, hport, touches⟩ := sent (.inl hk)
      rw [if_pos hk, State.takeVop_of_other (.inr ⟨v, w, hv, by rw [hvan, hw], hserial⟩)] at step
      exact completes_of_answer step ⟨by simpa using hvan, by simp [hport], conclude_frame_of _ _ _ touches⟩
    case closes =>
      obtain ⟨u, step, hclock, hvan, hport, touches⟩ := sent (.inr hk)
      have hwindow : u.van.window = some w := by rw [hvan, hw]
      rw [if_neg (by simp [hk]), State.takeVcl_closes hwindow hserial] at step
      refine completes_of_answer step ⟨?_, ?_, conclude_frame_of _ _ _ ?_⟩
      · simp only [conclude_frame, State.closeWindow_van hwindow, hvan]
        rfl
      · simp only [conclude_frame]
        rw [State.closeWindow_told (by rw [touches.role, hr]) (by rwa [hport]) hwindow, hport, hclock]
        simp [told, hw, now]
      · exact (touches.mono (by simp [Touched.within])).trans
          ((u.closeWindow_touches .vcl).mono (by simp [Touched.within]))
    case other =>
      obtain ⟨u, step, _, hvan, hport, touches⟩ := sent (.inr hk)
      rw [if_neg (by simp [hk]), State.takeVcl_of_other (by rw [hvan]; exact hother)] at step
      exact completes_of_answer step ⟨by simpa using hvan, by simp [hport], conclude_frame_of _ _ _ touches⟩
  case expiry =>
    obtain ⟨k, hk⟩ := s.reachMs_eq w.expiresAt
    have step : exec .windowExpiry s = answerNext (State.closeWindow .expiry { s with clock := k }) := by
      show answerNext _ = _
      simp only [hw, hk]
    refine completes_of_answer step ⟨?_, ?_, conclude_frame_of _ _ _ (by simp [Touched.frame])⟩
    · simp only [conclude_frame]
      exact State.closeWindow_van (s := { s with clock := k }) hw .expiry
    · simp only [conclude_frame, hk]
      rw [State.closeWindow_told (by exact hr) (by exact hroom) (by exact hw)]
      simp [told, hw]

/-- Settles O21: the window at a post opens with a VOP heard and closes with a VCL heard, at its expiry and with the
van's silence; the van's own opens and closes with its frames sent, and its host is told. -/
theorem windowsOpenAndClose : Obligations.WindowsOpenAndClose :=
  ⟨windowNoticeOpensTheWindow, windowCloses, vanKeepsItsWindow⟩

end Sys2Proof.Machine
end

section
/-! The ranking of a COLLECT window (R169). -/

namespace Sys2Proof.Machine

/-- The three keys of R169 as a statement about numbers. -/
theorem ranksBefore_collect_iff (a b : RankKeys) :
    ranksBefore .collect a b = true ↔
      b.level < a.level ∨ (a.level = b.level ∧
        ((a.since ≠ 0 ∧ (b.since = 0 ∨ a.since < b.since)) ∨ (a.since = b.since ∧ a.station < b.station))) := by
  simp [ranksBefore, sinceBefore]

/-- Of two stations exactly one stands before the other: the last key decides where the first two agree. -/
theorem ranksBefore_collect_total {a b : RankKeys} (h : a.station ≠ b.station) :
    ranksBefore .collect a b = true ↔ ranksBefore .collect b a = false := by
  rw [← Bool.not_eq_true, ranksBefore_collect_iff, ranksBefore_collect_iff]
  omega

theorem ranksBefore_collect_trans {a b c : RankKeys} (hab : ranksBefore .collect a b = true)
    (hbc : ranksBefore .collect b c = true) : ranksBefore .collect a c = true := by
  rw [ranksBefore_collect_iff] at hab hbc ⊢
  omega

/-- A post ranks itself by what its beacon carries. -/
theorem State.ownKeys_of_post {s : State} (h : s.isPost = true) :
    s.ownKeys = { level := s.ownBeacon.bikeFault, since := s.ownBeacon.dockedSince, station := s.number } := by
  rw [State.ownBeacon, if_pos h]
  rfl

theorem State.peerKeys_of_beacon {s : State} {n : Nat} {b : Beacon} (h : (s.storedPeer n).beacon = some b) :
    s.peerKeys n = { level := b.bikeFault, since := b.dockedSince, station := n } := by
  rw [State.peerKeys, h]

theorem State.ownRank_of_collect {s : State} {w : VanWindow} (h : w.mode = .collect) :
    s.ownRank w = 1 + ((List.range 32).filter (fun n =>
      s.peerCandidate w n && ranksBefore .collect (s.peerKeys n) s.ownKeys)).length := by
  rw [State.ownRank, h]

/-- Settles O55: the ranking is R169's order of the three keys, and the own rank counts who stands before. -/
theorem collectRankingIsTheRuleOrder : Obligations.CollectRankingIsTheRuleOrder :=
  ⟨ranksBefore_collect_iff, fun _ _ => ranksBefore_collect_total, fun _ _ _ => ranksBefore_collect_trans,
    fun _ => State.ownKeys_of_post, fun _ _ _ => State.peerKeys_of_beacon, fun _ _ => State.ownRank_of_collect⟩

end Sys2Proof.Machine
end

section
/-! The local port: the role test, the requests that read, unknown ones, and the reading of a response. -/

namespace Sys2Proof.Machine

/-! ### The role test (R179, R181) -/

theorem State.portWorks_of_host {s : State} (hpost : s.straps.role ≠ .post) : s.portWorks = true := by
  simp [State.portWorks, State.isPost, hpost]

theorem State.portWorks_of_post {s : State} (hpost : s.straps.role = .post) : s.portWorks = false := by
  simp [State.portWorks, State.isPost, hpost]

/-- A request of another role is refused while the transaction shifts filler out. -/
theorem State.takeRequest_of_refused {k : RequestKind} {request : List Byte → State → State} {body : List Byte}
    {s : State} (hpost : s.straps.role ≠ .post) (hk : k.allows s.straps.role = false) :
    s.takeRequest k request body = (s.shiftFiller (4 + body.length)).respond .refusedRole := by
  simp [State.takeRequest, State.portWorks_of_host hpost, hk]

/-- A post's port takes no request. -/
theorem State.takeRequest_of_post {k : RequestKind} {request : List Byte → State → State} {body : List Byte} {s : State}
    (hpost : s.straps.role = .post) : s.takeRequest k request body = s := by
  simp [State.takeRequest, State.portWorks_of_post hpost]

/-- A post's port takes no transaction, a read no more than a request. -/
theorem State.takeTransaction_of_post {s : State} (hpost : s.straps.role = .post) (bytes : List Byte) :
    s.takeTransaction bytes = s := by
  have idle := State.portWorks_of_post hpost
  cases bytes with
  | nil => rfl
  | cons kind rest => simp [State.takeTransaction, State.takeRecord, idle]

theorem requestsAreRefusedByRole : Claims.RequestsAreRefusedByRole := by
  intro body s refused
  have refuses {i : Instr} {k : RequestKind} {request : List Byte → State → State}
      (he : exec i s = answerNext (s.takeRequest k request body)) (hpost : s.straps.role ≠ .post)
      (hk : k.allows s.straps.role = false) : refused i := by
    rw [State.takeRequest_of_refused hpost hk] at he
    exact completes_of_answer he
      ⟨by simp [State.respond, State.respondCarrying, State.shiftFiller, filler],
        conclude_frame_of _ _ _ (by simp [Touched.frame])⟩
  refine ⟨fun hr => ?terminal, fun hr => ?van, fun hr hs => ?post⟩
  case terminal =>
    obtain ⟨hpost, other⟩ : s.straps.role ≠ .post ∧ s.straps.role ≠ .terminal := by
      rcases hr with hr | hr <;> simp [hr]
    have forTerminal : decide (s.straps.role = .terminal) = false := decide_eq_false other
    exact ⟨refuses (k := .stationSet) rfl hpost forTerminal, refuses (k := .timeSet) rfl hpost forTerminal,
      refuses (k := .tariffLoad) rfl hpost forTerminal, refuses (k := .tariffCommit) rfl hpost forTerminal,
      refuses (k := .memberPush) rfl hpost forTerminal, refuses (k := .faultClear) rfl hpost forTerminal⟩
  case van =>
    obtain ⟨hpost, other⟩ : s.straps.role ≠ .post ∧ s.straps.role ≠ .van := by
      rcases hr with hr | hr <;> simp [hr]
    have forVan : decide (s.straps.role = .van) = false := decide_eq_false other
    exact ⟨refuses (k := .vanOpen) rfl hpost forVan, refuses (k := .vanClose) rfl hpost forVan⟩
  case post =>
    have stays {i : Instr} {k : RequestKind} {request : List Byte → State → State}
        (he : exec i s = answerNext (s.takeRequest k request body)) : exec i s = .next s :=
      exec_stays hs he (State.takeRequest_of_post hr)
    have unknown : exec (.unknownRequest body) s = .next s := exec_stays hs rfl (s.takeTransaction_of_post hr body)
    simp only [List.forall_mem_cons]
    exact ⟨stays rfl, stays rfl, stays rfl, stays rfl, stays rfl, stays rfl, stays rfl, stays rfl, stays rfl,
      stays rfl, stays rfl, unknown, nofun⟩

/-! ### Transactions that are no known request (R181) -/

/-- The codes of Table 12-8 are 1 to 11. -/
theorem requestKindOf_of_unknown {n : Nat} (h : n = 0 ∨ 11 < n) : requestKindOf n = none := by
  rcases h with rfl | h
  · rfl
  · obtain ⟨m, rfl⟩ : ∃ m, n = m + 12 := ⟨n - 12, by omega⟩
    rfl

theorem unknownRequestIsRefused : Claims.UnknownRequestIsRefused := by
  intro kind rest s hpost hread answered
  have works := State.portWorks_of_host hpost
  have judged : s.takeTransaction (kind :: rest) = s.takeRecord (kind :: rest) := by
    rw [State.takeTransaction, if_neg hread]
  have answers {status : PortStatus}
      (h : s.takeRecord (kind :: rest) = (s.shiftFiller (rest.length + 1)).respond status) : answered status :=
    congrArg answerNext (judged.trans h)
  refine ⟨fun hbad => answers ?malformed, fun hgood hkind => answers ?unknown⟩
  case malformed => simp [State.takeRecord, works, hbad]
  case unknown =>
    have code : fieldAt (kind :: rest) 0 1 = kind.toNat := by simp [fieldAt, beNat]
    simp [State.takeRecord, works, hgood, code, requestKindOf_of_unknown hkind]

/-! ### The requests that read (R182, R188) -/

/-- The window bytes of a STATUS are those of the van's window, and NONE in another role. -/
theorem State.statusWindow_eq (s : State) :
    s.statusWindow =
      ((if s.straps.role = .van then s.van.window else none).elim (be1 0 ++ be1 0) fun w => be1 1 ++ be1 w.serial) := by
  by_cases hr : s.straps.role = .van
  · cases hw : s.van.window <;> simp [State.statusWindow, State.isVan, hr, hw]
  · simp [State.statusWindow, State.isVan, hr]

/-- The flags of a PEER-READ: bit 0 for a beacon held, bit 1 for a time heard. -/
theorem peerFlags_eq (p : Peer) :
    flagBit p.beacon.isSome 0 + flagBit p.heard.isSome 1 =
      (if p.beacon = none then 0 else 1) + (if p.heard = none then 0 else 2) := by
  cases p.beacon <;> cases p.heard <;> rfl

theorem State.requestStatus_of_empty (s : State) :
    s.requestStatus [] = s.respondCarrying .ok s.statusBody (.status false) := if_pos rfl

/-- A station number reads as its entry. -/
theorem State.requestPeerRead_of_station {n : Nat} (hn : n ≤ 31) (s : State) :
    s.requestPeerRead (be1 n) = s.respondCarrying .ok (peerReadBody n (s.peerEntry n)) .nothing := by
  have number : fieldAt (be1 n) 0 1 = n := by rw [fieldAt_be1_last, Nat.mod_eq_of_lt (by omega)]
  rw [State.requestPeerRead, number, if_pos (by simp [be1, hn])]

/-- Peer entries end at station 31. -/
theorem State.requestPeerRead_of_other {n : Nat} (hn : 31 < n) (hsmall : n < 256) (s : State) :
    s.requestPeerRead (be1 n) = s.respond .refusedRange := by
  have number : fieldAt (be1 n) 0 1 = n := by rw [fieldAt_be1_last, Nat.mod_eq_of_lt (by omega)]
  rw [State.requestPeerRead, number, if_neg (by simp [Nat.not_le.2 hn])]

theorem State.requestEventRead_of_none {s : State} (h : s.port.events = []) :
    s.requestEventRead [] = s.respond .ok := by
  rw [State.requestEventRead, if_pos rfl, h]

theorem State.requestEventRead_of_oldest {s : State} {e : Event} {behind : List Event}
    (h : s.port.events = e :: behind) :
    s.requestEventRead [] = s.respondCarrying .ok (eventResponse behind.length e) .event := by
  rw [State.requestEventRead, if_pos rfl, h]

theorem readingRequestsAreAnswered : Claims.ReadingRequestsAreAnswered := by
  intro s hpost answered window
  have allowed : decide (s.straps.role ≠ .post) = true := decide_eq_true hpost
  have answers {i : Instr} (k : RequestKind) (body : List Byte) {answer told : List Byte} {status : PortStatus}
      {carried : Carried} (he : exec i s = answerNext (s.takeRequest k (requestOf k) body))
      (hk : k.allows s.straps.role = true)
      (hrequest : requestOf k body (s.shiftFiller (4 + body.length)) =
        (s.shiftFiller (4 + body.length)).respondCarrying status answer carried) (htold : answer = told) :
      answered i status told carried (4 + body.length) := by
    rw [State.takeRequest_of_allowed hpost hk, hrequest, htold] at he
    exact he
  refine ⟨?status, fun n hn => ?station, fun n hn hsmall => ?other, fun hnone => ?none, fun e behind he => ?oldest⟩
  case status =>
    refine answers .status [] rfl allowed (State.requestStatus_of_empty _) ?_
    show s.statusBody = _
    have told : s.statusWindow = window.elim (be1 0 ++ be1 0) fun w => be1 1 ++ be1 w.serial := s.statusWindow_eq
    clear_value window
    rw [State.statusBody, told]
    simp only [State.statusStation, State.isTerminal, decide_eq_true_eq, flagBit, Nat.pow_zero]
    cases window <;> rfl
  case station =>
    intro p
    refine answers .peerRead (be1 n) (answer := peerReadBody n p) rfl allowed (State.requestPeerRead_of_station hn _) ?_
    rw [peerReadBody, peerFlags_eq]
    clear_value p
    cases p.heard <;> cases p.beacon <;> rfl
  case other =>
    exact answers .peerRead (be1 n) rfl allowed (State.requestPeerRead_of_other hn hsmall _) rfl
  case none =>
    exact answers .eventRead [] rfl allowed (State.requestEventRead_of_none hnone) rfl
  case oldest =>
    refine answers .eventRead [] rfl allowed (State.requestEventRead_of_oldest he) ?_
    rw [eventResponse]
    cases e.body with
    | lookup sender member sequence entry => cases entry <;> rfl
    | _ => rfl

/-! ### The reading of a response (R180, R182, R188) -/

theorem readTransactionEmptiesTheBuffer : Claims.ReadTransactionEmptiesTheBuffer := by
  intro count s hpost
  have reads : exec (.readTransaction count) s = answerNext (s.readsResponse count) :=
    congrArg answerNext (if_pos (State.portWorks_of_host hpost))
  refine ⟨fun r hr hfull => ?full, fun r hr hshort => ?short, fun hnone => ?none⟩
  case full =>
    have out : shiftOut r.bytes count = r.bytes ++ List.replicate (count - r.bytes.length) filler := by
      rw [shiftOut, List.take_of_length_le hfull]
    rw [reads, State.readsResponse, hr]
    dsimp only
    rw [if_pos hfull, out]
    cases hc : r.carried with
    | nothing => rfl
    | event => rfl
    | status dropped => cases dropped <;> simp [LocalPort.readInFull, answerNext, filler]
  case short =>
    have out : shiftOut r.bytes count = r.bytes.take count := by simp [shiftOut, hshort.le]
    rw [reads, State.readsResponse, hr]
    dsimp only
    rw [if_neg (by omega), out]
    rfl
  case none =>
    have out : shiftOut [] count = List.replicate count filler := by simp [shiftOut]
    rw [reads, State.readsResponse, hnone, out]
    rfl

/-- Settles O58: the role test and the record's check come before the request, the requests that read answer from the
state as it stands, and a read to the last byte takes effect. -/
theorem requestsAreAnswered : Obligations.RequestsAreAnswered :=
  ⟨requestsAreRefusedByRole, unknownRequestIsRefused, readingRequestsAreAnswered, readTransactionEmptiesTheBuffer⟩

end Sys2Proof.Machine
end

section
/-! The queue of commands (log 3). -/

namespace Sys2Proof.Machine

/-- Settles O1: the queue is not empty, so of the two arms of `step` the front command's is taken. -/
theorem stepRunsFrontCommand : Obligations.StepRunsFrontCommand := by
  intro c rest s hfront
  rw [step, hfront]

end Sys2Proof.Machine
end
